-- ==== Sys2Proof/Word.lean ====
section
/-! DEFINITION. The words of the CJ9600 model: bytes (R4) and fabric time (R283). -/

namespace Sys2Proof

/-- One byte of a frame, a structure or an Inventory value (R4). -/
abbrev Byte := BitVec 8

/-- Fabric time, in units of 2⁻¹⁶ ns (R283). -/
abbrev FabricTime := Nat

end Sys2Proof
end

