-- ==== Sys2Proof/Syntax.lean ====
section
/-! DEFINITION. The commands of the block: Swent frames and management messages as they arrive, and one constructor
of Instr for each row of the command table. -/

namespace Sys2Proof

/-- The state of a frame's FCS at its tail (R61): correct, the tail mark, or neither. -/
inductive Fcs where
  | good | marked | bad
  deriving DecidableEq, Repr

/-- The Swent base header (Table 03-1). X is the presence of the extension. -/
structure Hdr where
  version : Nat := 1
  e : Bool := false
  h : Bool := false
  ce : Bool := false
  tc : Nat := 0
  rsv1 : Nat := 0
  opcode : Nat := 1
  a : Bool := false
  rsv3 : Nat := 0
  dst : Nat := 0xFFFFFF
  src : Nat := 0xFFFFFF
  rsv10 : Nat := 0
  len : Nat := 0
  seq : Nat := 0
  ack : Nat := 0
  corr : Nat := 0
  pcheck : Nat := 0
  hcheck : Nat := 0
  deriving DecidableEq, Repr

/-- The collective extension (Table 03-2). -/
structure Ext where
  ctx : Nat := 1
  gen : Nat := 0
  chunk : Nat := 0
  phase : Nat := 0
  member : Nat := 0
  alive : Nat := 0
  fmt : Nat := 0
  mx : Bool := false
  part : Bool := false
  rsv45 : Nat := 0
  rsv46 : Nat := 0
  count : Nat := 0
  deriving DecidableEq, Repr

/-- The MAC header of a frame on an Ethernet-mode port (R45): destination and source address, up to two VLAN tags (TPID in
[31:16]) and the EtherType. -/
structure MacHdr where
  dst : Nat := 0
  src : Nat := 0
  tags : List Nat := []
  ether : Nat := 0x88B5
  deriving DecidableEq, Repr

/-- A frame from its first byte to its pad: the MAC header it has in Ethernet mode (none in native mode: R44, R45), the Swent
header, extension and payload, and the pad behind them. A raw frame is no Swent frame: its payload is the whole message
behind its MAC header. -/
structure Frame where
  hdr : Hdr := {}
  ext : Option Ext := none
  payload : List Byte := []
  pad : List Byte := []
  mac : Option MacHdr := none
  raw : Bool := false
  deriving DecidableEq, Repr

/-- An arbiter's requester (Table 04-6, R244). -/
inductive Arbiter where
  | egress (lane requester : Nat)
  | larderWrite (crate requester : Nat)
  | router (crate requester : Nat)
  | larderRead (crate requester : Nat)
  | bridge (row direction requester : Nat)
  | cellar (stack requester : Nat)
  deriving DecidableEq, Repr

/-- What a burst of a Cellar stack holds, where the manual does not say at which address it stands: nothing, a frame of a
Cellar ring (by the model's handle), a frame of a lane's replay buffer (Table 10-2). -/
inductive CellarHit where
  | free
  | frame (held : Nat)
  | replay (lane : Nat)
  deriving DecidableEq, Repr

/-- The state of a Chute cell (Table 12-1). -/
inductive Cell where
  | clear | set | uncertain | failed
  deriving DecidableEq, Repr

/-- The session and way by which a management request arrives: the source ID of its frame, the lane it came in on (none: the
management port), the session's ID, and its message header's version, tag and target identity (Table 14-8). -/
structure Peer where
  src : Nat := 0xFFFFFF
  lane : Option Nat := none
  session : Nat := 0
  version : Nat := 1
  tag : Nat := 0
  target : Nat := 0
  deriving DecidableEq, Repr

/-- What a verification measures over its 256 µs (R252): the ring's own tone, the strongest other tone of Table 11-3, and
the detector's noise floor, in 0.01 dB. -/
structure Tones where
  own : Int
  other : Int
  noise : Int
  deriving DecidableEq, Repr

/-- An image slot of the boot flash (Table 15-3): the 512 bytes of its header as one number, and the SM3 digest of the body
of the length that the header names. -/
structure ImageSlot where
  header : Nat := 0
  bodySm3 : Nat := 0
  deriving DecidableEq, Repr

/-- What has been written to the boot flash's image slots and to the firmware data since the device last read them: by the Attic's
firmware on an image update, or from outside while RESET_N is low (R334, Table 15-2). -/
structure FlashWrite where
  slotA : Option ImageSlot := none
  slotB : Option ImageSlot := none
  data : List (Nat × Nat) := []
  deriving DecidableEq, Repr

/-- What the non-volatile memories bring to a boot: the fuse writes of a pending transition that fail, as a mask (R340, R343), and
what has been written to the flash from outside (R334). -/
structure BootNv where
  bad : Nat := 0
  wrote : FlashWrite := {}
  deriving DecidableEq, Repr

/-- The end of a frame that arrives whole: its FCS, and its receive timestamp. -/
structure Arrived where
  fcs : Nat
  at_ : FabricTime
  deriving DecidableEq, Repr

/-- How a contribution comes to the Combiner: its receive timestamp, the ECC outcome of its cells (R82), the arbiter that cuts it
(R100), and whether the Combiner finds an uncorrectable error in the Shelf as it adds it (R192). -/
structure Passage where
  at_ : FabricTime
  ecc : Nat := 0
  cut : Option Arbiter := none
  shelf : Bool := false
  deriving DecidableEq, Repr

/-- A chunk group that the Combiner drains, and whether it finds an uncorrectable error in the Shelf as it does (R192). -/
structure Drained where
  group : Nat
  shelf : Bool := false
  deriving DecidableEq, Repr

/-- One item of a READ (Table 14-9). -/
structure ReadItem where
  index : Nat
  sub : Nat
  baseFlag : Bool := false
  deriving DecidableEq, Repr

/-- One item of a WRITE (Table 14-9): the length it carries and its value. -/
structure WriteItem where
  index : Nat
  sub : Nat
  len : Nat
  value : Nat
  deriving DecidableEq, Repr

/-- A request of the Inventory Access Protocol (Table 14-9), with its header's transaction where it names one. -/
inductive Request where
  | read (items : List ReadItem)
  | write (tid : Nat) (items : List WriteItem)
  | open_
  | commit (tid step : Nat)
  | abort (tid : Nat)
  | cancel (step : Nat)
  | status
  /-- a message of a type that Table 14-9 does not list as a request -/
  | other (type : Nat)
  deriving DecidableEq, Repr

/-- A command of the block: one constructor for each row of the command table. -/
inductive Instr where
  /-- POWER_UP: The rails rise in order while RESET_N is low (R396). -/
  | powerUp
  /-- POWER_LOSS: Power is removed; only non-volatile state survives (R17). -/
  | powerLoss
  /-- RAIL_OUT_OF_RANGE: A rail, by its place in Table 18-1, leaves its tolerance for more than 2 µs (R398). -/
  | railOutOfRange (rail : Nat)
  /-- RAIL_RECOVERY: Every rail has been back within tolerance for 10 ms (R398); the boot that follows has the operands of BOOT. -/
  | railRecovery (missing : Option Nat) (failed : Nat) (bad : Nat)
  /-- COLD_RESET: RESET_N is held low for a number of ns (R397). -/
  | coldReset (lowNs : Nat)
  /-- BOOT: RESET_N is released (R339): a reference clock that is missing (R400), the stacks whose training fails, as a mask (R242), the fuse writes of a pending transition that fail, as a mask (R340, R343), and what has been written to the flash (R334). -/
  | boot (missing : Option Nat) (failed : Nat) (nv : BootNv)
  /-- COLD_RESET_REQUEST: A write to 0xC000:0C (R366). -/
  | coldResetRequest (x : Nat)
  /-- WIPE_COMPLETE: The wipe ends; the configuration area and the image headers are read (R243, R335 to R338). -/
  | wipeComplete
  /-- IMAGE_LOADED: The image body has been streamed, a number of µs after the reset (R339). -/
  | imageLoaded (us : Nat)
  /-- INVENTORY_SERVICE_READY: The firmware has started the Inventory service (R339). -/
  | inventoryServiceReady
  /-- REFCLK_LOST: A reference clock, 0 or 1, is lost (R400). -/
  | refclkLost (c : Nat)
  /-- REFCLK_RESTORED: Both clocks have met their requirements for 1 ms; the boot that follows has the operands of BOOT (R400). -/
  | refclkRestored (failed : Nat) (bad : Nat)
  /-- THERMTRIP: A sensor reaches 115 °C (R407). -/
  | thermtrip
  /-- POWER_MEASUREMENT: The 10 µs measurement: package power in W, rail powers in mW in the order of Table 18-1 (R405). -/
  | powerMeasurement (watts : Nat) (rails : List Nat)
  /-- POWER_CAP_RAISE: Package power has stayed below 98 % of the cap for 1 ms (R405). -/
  | powerCapRaise
  /-- HOT_SPOT_READING: A Crate's hot-spot sensor, as an I16 in 1/16 °C (R406). -/
  | hotSpotReading (n : Nat) (temp : Nat)
  /-- THERMAL_FREQUENCY_RAISE: A Crate has stayed 3 °C below the throttle temperature for 1 ms (R406). -/
  | thermalFrequencyRaise (n : Nat)
  /-- PPS_IN_EDGE: An edge of PPS_IN, with the fabric time at which it is seen (R294). -/
  | ppsInEdge (t : FabricTime)
  /-- PPS_OUT_PULSE: Fabric time reaches a whole second (R399). -/
  | ppsOutPulse
  /-- LASER_MODULE_INSERTED: A laser module is inserted (R257). -/
  | laserModuleInserted (m : Nat)
  /-- LASER_MODULE_REMOVED: A laser module is removed (R257). -/
  | laserModuleRemoved (m : Nat)
  /-- PCS_LOCK_GAINED: A lane gains PCS lock (R35, R70). -/
  | pcsLockGained (l : Nat)
  /-- PCS_LOCK_LOST: A lane loses PCS lock (R35). -/
  | pcsLockLost (l : Nat)
  /-- FEC_ALIGNMENT_TIMEOUT: Modulated light has lasted without codeword alignment (R264). -/
  | fecAlignmentTimeout (l : Nat)
  /-- HELLO: A hello arrives on a lane (R35). -/
  | hello (l : Nat) (f : Frame) (fcs : Nat) (t : FabricTime)
  /-- HELLO_SEND: The hello of the step is sent on the locked lanes (R31). -/
  | helloSend (t : FabricTime)
  /-- LINK: A LINK frame arrives (R63). -/
  | link (l : Nat) (f : Frame) (fcs : Nat) (t : FabricTime)
  /-- LINK_SEND: A LINK frame is sent (R64). -/
  | linkSend (l : Nat) (t : FabricTime)
  /-- LNACK: An LNACK arrives (R68). -/
  | lnack (l : Nat) (f : Frame) (fcs : Nat) (t : FabricTime)
  /-- LNACK_SEND: The LNACK that the receiver owes is sent (R67). -/
  | lnackSend (l : Nat) (t : FabricTime)
  /-- STEP: A STEP frame arrives (R291, R292). -/
  | step (l : Nat) (f : Frame) (fcs : Nat) (t : FabricTime)
  /-- STEP_SEND: The STEP frame of the step is sent on a lane (R290). -/
  | stepSend (l : Nat) (t : FabricTime)
  /-- DATA: The head of a DATA frame arrives (R66, R106); what the ECC finds in the cells it fills: 0 nothing, 1 corrected, 2 uncorrectable (R82). -/
  | data (l : Nat) (f : Frame) (t : FabricTime) (ecc : Nat)
  /-- CONTRIB: A whole contribution arrives (R58); what the ECC finds in its cells as the Combiner reads them (R82), the arbiter that cuts its worm, if one does (R100), and whether the Shelf slots it is added to are struck by an uncorrectable error (R192). -/
  | contrib (l : Nat) (f : Frame) (fcs : Nat) (p : Passage)
  /-- RESULT: The head of a RESULT arrives (R218). -/
  | result (l : Nat) (f : Frame) (t : FabricTime)
  /-- CNACK: A CNACK arrives (R220). -/
  | cnack (l : Nat) (f : Frame) (fcs : Nat) (t : FabricTime)
  /-- MGMT: An MGMT frame arrives (R324). -/
  | mgmt (l : Nat) (f : Frame) (fcs : Nat) (t : FabricTime)
  /-- PTP_FRAME: A frame of EtherType 0x88F7 arrives (R287). -/
  | ptpFrame (l : Nat) (f : Frame) (e : Arrived)
  /-- FOREIGN_FRAME: An Ethernet frame of another EtherType arrives (R45). -/
  | foreignFrame (l : Nat) (f : Frame) (e : Arrived)
  /-- FRAME_TAIL: The tail of the frame now arriving on a lane (R61, R66). -/
  | frameTail (l : Nat) (fcs : Nat) (t : FabricTime)
  /-- CREDIT_REPORT_LATE: 2 µs pass without a valid LINK frame (R64). -/
  | creditReportLate (l : Nat)
  /-- ACKNOWLEDGEMENT_DEADLINE: The deadline of the oldest unacknowledged frame passes (R69). -/
  | acknowledgementDeadline (l : Nat)
  /-- REPLAY: A retransmission begins at a frame boundary (R68). -/
  | replay (l : Nat) (t : FabricTime)
  /-- LANE_LOST: The dead count passes without a valid hello (R35). -/
  | laneLost (l : Nat)
  /-- ABSENCE_TIMEOUT: A port's absence timeout expires (R36). -/
  | absenceTimeout (p : Nat)
  /-- PUSH_ARRIVAL: The oldest push in flight to a lane reaches its Crate (R87). -/
  | pushArrival (l : Nat)
  /-- DESCRIPTOR: The oldest unicast descriptor in flight to a lane arrives (R83). -/
  | descriptor (l : Nat)
  /-- DEFER_REPLY: The oldest defer reply in flight to a holding Crate arrives (R83). -/
  | deferReply (c : Nat)
  /-- FREE_ENTRY_ANNOUNCEMENT: An egress Crate's announcement reaches a holding Crate (R83). -/
  | freeEntryAnnouncement (egress : Nat) (holder : Nat)
  /-- SCHEDULER_SELECTION: The egress arbiter of a lane chooses (R131). -/
  | schedulerSelection (l : Nat)
  /-- PULL: The oldest pull of a lane reaches the holding Crate (R88); what the ECC finds in the cells read, as in DATA (R82). -/
  | pull (l : Nat) (ecc : Nat)
  /-- FRAME_TRANSMISSION_START: A frame starts on a lane (R89, R131). -/
  | frameTransmissionStart (l : Nat) (t : FabricTime)
  /-- FRAME_TRANSMISSION_END: A lane finishes a frame (R131). -/
  | frameTransmissionEnd (l : Nat)
  /-- RELEASE: The release of a frame sent on a lane, or of a consumed contribution, leaves for the holding Crate (R90). -/
  | release (lane : Option Nat) (held : Nat)
  /-- FRAME_RECORD_RELEASE: The oldest release or skip in flight to a holding Crate arrives (R94). -/
  | frameRecordRelease (c : Nat)
  /-- MULTICAST_DESCRIPTOR: The oldest multicast descriptor still to reach a Crate arrives (R93). -/
  | multicastDescriptor (c : Nat)
  /-- REPLY: The oldest reply in flight to a holding Crate arrives (R94). -/
  | reply (c : Nat)
  /-- MEMBER_ABSENT_NOTICE: The oldest notice in flight to a home Crate arrives (R188). -/
  | memberAbsentNotice (n : Nat)
  /-- OPEN_MAP_CHANGE: The oldest change of a lane's open bit still to reach a Crate arrives (R86). -/
  | openMapChange (c : Nat) (l : Nat)
  /-- WORM_CUT: An arbiter's stall limit passes and it cuts the worm of a frame (R100). -/
  | wormCut (a : Arbiter) (held : Nat)
  /-- PREPARE_VERSION: A route table version, 0 or 1, is prepared (R109). -/
  | prepareVersion (v : Nat)
  /-- FLIP_TO_VERSION: A version becomes ACTIVE (R109). -/
  | flipToVersion (v : Nat)
  /-- VERSION_RETIREMENT: The DRAINING version becomes IDLE (R109). -/
  | versionRetirement
  /-- SHAPER_REFILL: A lane's shapers are refilled (R139). -/
  | shaperRefill (l : Nat) (t : FabricTime)
  /-- FLOW_CONTEXT_FETCH_DONE: A flow context that a Crate fetched arrives (R143). -/
  | flowContextFetchDone (n : Nat) (index : Nat)
  /-- FLOW_CONTEXT_WRITE: A flow context is written at its commit step (R144). -/
  | flowContextWrite (index : Nat) (value : Nat)
  /-- INSTALL: A context is installed from a 512-byte record at its commit step (R171). -/
  | install (record : Nat)
  /-- ARM: A context is armed at a generation (R173). -/
  | arm (ctx : Nat) (gen : Nat)
  /-- RESET: A context is reset to a generation (R173). -/
  | reset (ctx : Nat) (gen : Nat)
  /-- RETIRE_PARK: A context drains to PARKED (R173). -/
  | retirePark (ctx : Nat)
  /-- RETIRE_FREE: A context drains to FREE (R173). -/
  | retireFree (ctx : Nat)
  /-- HOLD_TIME_EXPIRY: The hold time of the oldest contribution held at a Crate passes (R182). -/
  | holdTimeExpiry (n : Nat)
  /-- STRAGGLER_TIMEOUT: The straggler timer of an OPEN group expires: the group's place in the Crate set and its number (R186). -/
  | stragglerTimeout (ctx : Nat) (pos : Nat) (group : Nat)
  /-- RESULT_WRITTEN: An emitting group finishes a round of writing its results (R81), or is struck by an uncorrectable error of its Shelf slots as they drain (R192). -/
  | resultWritten (ctx : Nat) (pos : Nat) (g : Drained)
  /-- UPWARD_CONTRIBUTION_TIMEOUT: A held upward contribution's timeout passes (R216). -/
  | upwardContributionTimeout (ctx : Nat) (gen : Nat) (chunk : Nat)
  /-- PLAN_SWITCH: The plan switches due at the boundary are made (R223). -/
  | planSwitch
  /-- PLAN_OVERRIDE_FORCE_A: Plan A is forced at the commit step (R223). -/
  | planOverrideForceA (ctx : Nat)
  /-- PLAN_OVERRIDE_FORCE_B: Plan B is forced at the commit step (R223). -/
  | planOverrideForceB (ctx : Nat)
  /-- PLAN_OVERRIDE_RETURN: A context returns to its installed policy (R223). -/
  | planOverrideReturn (ctx : Nat)
  /-- COMBINER_DERATE: A derate of a Combiner comes into force (R224). -/
  | combinerDerate (n : Nat) (v : Nat)
  /-- COMBINER_REMAP: A remap of a Crate comes into force: the target, or 0xFF to end it (R225). -/
  | combinerRemap (n : Nat) (target : Nat)
  /-- REMAP_GROUP_MOVE: A group that is RELEASED after a remap moves (R225). -/
  | remapGroupMove (ctx : Nat) (pos : Nat) (group : Nat)
  /-- ENGINE_ACKNOWLEDGEMENT: The accumulate engine has added the oldest contribution of a spill group (R239). -/
  | engineAcknowledgement (ctx : Nat) (pos : Nat) (group : Nat)
  /-- SPILL_GROUP_CLEAR_DONE: The engine has cleared an abandoned spill group (R239). -/
  | spillGroupClearDone (ctx : Nat) (pos : Nat) (group : Nat)
  /-- SHADOW_COPY: The oldest copy on its way reaches the shadow partner of a group (R361). -/
  | shadowCopy (ctx : Nat) (pos : Nat) (group : Nat)
  /-- SHADOW_COMPLETION_NOTICE: The completion notice of a group reaches its partner (R361). -/
  | shadowCompletionNotice (ctx : Nat) (pos : Nat) (group : Nat)
  /-- SHADOW_VALUES: The partner's fingerprints arrive, with the bits of them that a fault has changed (R362). -/
  | shadowValues (ctx : Nat) (pos : Nat) (group : Nat) (operandError : Nat) (resultError : Nat)
  /-- SHELF_SLOT_ZEROED: A slot taken from a shadow group is zero (R361). -/
  | shelfSlotZeroed (ctx : Nat) (pos : Nat) (group : Nat)
  /-- CRATE_HEALTH_STATE_WRITE: A write of a Crate's health state (R363). -/
  | crateHealthStateWrite (n : Nat) (v : Nat)
  /-- SCRUB: A logic die reads the next burst of its stack: good 0, corrected 1, uncorrectable 2; and what the burst holds (R241). -/
  | scrub (k : Nat) (ecc : Nat) (hit : CellarHit)
  /-- CELLAR_UNCORRECTABLE_ERROR: An uncorrectable error at an address of a stack, and what stands there (R240). -/
  | cellarUncorrectableError (k : Nat) (addr : Nat) (hit : CellarHit)
  /-- STACK_FAILED: A logic die reports a fatal fault (R242). -/
  | stackFailed (k : Nat)
  /-- LOOP_SWEEP_START: A loop leaves OFF: a lane's modulator ring, or its drop ring (R250). -/
  | loopSweepStart (l : Nat) (drop : Bool)
  /-- SWEEP_END: A sweep ends with the candidates it marked, as heater powers in µW, at a temperature in 1/16 °C (R251). -/
  | sweepEnd (l : Nat) (drop : Bool) (cands : List Nat) (temp : Int)
  /-- ACQUIRE_END: A loop reaches its operating point at a heater power in µW (R251). -/
  | acquireEnd (l : Nat) (drop : Bool) (heater : Nat)
  /-- VERIFY_END: A verification ends with what it measured (R252). -/
  | verifyEnd (l : Nat) (drop : Bool) (tones : Tones) (temp : Int)
  /-- TRACK_UPDATE: The 1 µs update: the change in µW that feedback asks for, and whether the detuning exceeds 8 GHz (R253). -/
  | trackUpdate (l : Nat) (drop : Bool) (feedback : Int) (detuned : Bool)
  /-- RING_LOST_LOCK: Detuning above 8 GHz in 16 consecutive updates (R253). -/
  | ringLostLock (l : Nat) (drop : Bool)
  /-- REVERIFICATION: The re-verification interval expires (R253). -/
  | reverification (l : Nat) (drop : Bool)
  /-- REVERIFICATION_END: A re-verification ends (R253). -/
  | reverificationEnd (l : Nat) (drop : Bool) (tones : Tones) (temp : Int)
  /-- LIGHT_LOST: A ring's light is lost (R254). -/
  | lightLost (l : Nat) (drop : Bool)
  /-- LIGHT_RETURNED: Light returns within the hold limit (R254). -/
  | lightReturned (l : Nat) (drop : Bool)
  /-- HOLD_LIMIT_EXPIRY: The hold limit passes without light (R250). -/
  | holdLimitExpiry (l : Nat) (drop : Bool)
  /-- FAULT_RETRY: A loop in FAULT retries (R250). -/
  | faultRetry (l : Nat) (drop : Bool)
  /-- ACTIVITY_WORD: A Crate's activity word reaches its Hatch (R256). -/
  | activityWord (n : Nat) (power : Nat)
  /-- LASER_CHANNEL_FAILED: A grid channel of a laser input is declared failed (R259). -/
  | laserChannelFailed (m : Nat) (k : Nat)
  /-- SPARING: The Attic spares the failed channel that has waited longest (R260). -/
  | sparing (m : Nat)
  /-- SPARE_TUNED: The module reports its spare tuned (R260). -/
  | spareTuned (m : Nat)
  /-- SELECTOR_VERIFIED: The spare selector verifies (R260). -/
  | selectorVerified (m : Nat)
  /-- SPARE_COMMAND_SPARE: A spare command, at its commit step (R261). -/
  | spareCommandSpare (m : Nat) (k : Nat)
  /-- SPARE_COMMAND_RETURN: A return command, at its commit step (R261). -/
  | spareCommandReturn (m : Nat) (k : Nat)
  /-- BIAS_CONTROL: The line powers as I16 in 0.01 dBm, and the lasers at their end of life as a mask (R258). -/
  | biasControl (m : Nat) (powers : List Nat) (eol : Nat)
  /-- RECEIVED_POWER_MEASUREMENT: A lane's received power, an I16 in 0.01 dBm (R267). -/
  | receivedPowerMeasurement (l : Nat) (power : Nat)
  /-- ERROR_MONITOR_INTERVAL: What a lane's decoders counted in the interval: codewords, corrected and uncorrectable ones, corrected bits, bits received (R268). -/
  | errorMonitorInterval (l : Nat) (codewords : Nat) (corrected : Nat) (uncorrectable : Nat) (bits : Nat) (received : Nat)
  /-- HATCH_WARM_UP_TIMEOUT: 60 s pass without a Hatch reaching 35 °C (R409). -/
  | hatchWarmUpTimeout (h : Nat)
  /-- CHUTE_MAP_WRITE: A Chute map comes into force (R274). -/
  | chuteMapWrite (h : Nat) (map : Nat)
  /-- CHUTE_PROGRAMME_START: A programme pulses its cells: the cells that miss their target in the first round and in the retry, and what they then read (R276). -/
  | chuteProgrammeStart (h : Nat) (first : List (Nat × Cell)) (again : List (Nat × Cell))
  /-- CHUTE_PROGRAMME_END: A programme's reads end (R276). -/
  | chuteProgrammeEnd (h : Nat)
  /-- CHUTE_POWER_GOOD_READ: Every cell is read after power-good (R278). -/
  | chutePowerGoodRead (h : Nat)
  /-- STEP_BOUNDARY: Fabric time reaches the next step boundary (R300). -/
  | stepBoundary
  /-- TIME_SOURCE_LOST: The time source is lost (R294). -/
  | timeSourceLost
  /-- NEXT_PPS_SECOND: A write of 0x8000:10 (R294). -/
  | nextPpsSecond (x : Nat)
  /-- ATTIC_FREQUENCY_ADJUSTMENT: A write of 0x8000:11, in parts per 10⁹ (R294). -/
  | atticFrequencyAdjustment (v : Int)
  /-- ATTIC_PHASE_ADJUSTMENT: A write of 0x8000:12, in 2⁻¹⁶ ns (R294). -/
  | atticPhaseAdjustment (v : Int)
  /-- TIMESTAMP_QUEUE_READ: The Attic removes the oldest entry of a Crate's timestamp queue (R289). -/
  | timestampQueueRead (n : Nat)
  /-- ATTIC_SEND: The Attic sends a frame, on a lane or by its destination, with the tag of a timestamp request or the offset of a one-step insert (R288). -/
  | atticSend (f : Frame) (lane : Option Nat) (stamp : Option Nat) (insert : Option Nat)
  /-- READ: A READ request (R306, Table 14-9). -/
  | read (peer : Peer) (items : List ReadItem)
  /-- WRITE: A WRITE request of a transaction, 0 for none (R309). -/
  | write (peer : Peer) (tid : Nat) (items : List WriteItem)
  /-- ENTRY_WRITE: A WRITE request of one entry (R306). -/
  | entryWrite (peer : Peer) (tid : Nat) (item : WriteItem)
  /-- OPEN: An OPEN request (R308). -/
  | openTransaction (peer : Peer)
  /-- COMMIT: A COMMIT request of a transaction for a step (R310). -/
  | commit (peer : Peer) (tid : Nat) (x : Nat)
  /-- ABORT: An ABORT request (R309). -/
  | abort (peer : Peer) (tid : Nat)
  /-- CANCEL: A CANCEL request (R315). -/
  | cancel (peer : Peer) (x : Nat)
  /-- STATUS: A STATUS request (R324). -/
  | status (peer : Peer)
  /-- UNKNOWN_MESSAGE_TYPE: A message of a type that Table 14-9 does not list (R324). -/
  | unknownMessageType (peer : Peer) (type : Nat)
  /-- TRANSACTION_EXPIRY: A transaction receives no request for the staging timeout (R309). -/
  | transactionExpiry (id : Nat)
  /-- COMMIT_APPLY: The commit sealed for the boundary is applied; the fuse writes of it that fail, as a mask (R313, R340). -/
  | commitApply (bad : Nat)
  /-- QUIESCE_ENTRY_IN_FORCE: A committed QUIESCE entry comes into force, in a Crate where the entry is held by Crate (R311). -/
  | quiesceEntryInForce (index : Nat) (sub : Nat) (crate : Nat)
  /-- COLD_VALUE_STORE: The Attic stores the COLD values of commits (R314). -/
  | coldValueStore
  /-- INIT: An INIT record: the source ID and arrival lane, the peer's static key, its point RA, its identity and the target identity (R345). -/
  | init (src : Nat) (lane : Option Nat) (key : Nat) (ra : Nat) (id : Nat) (target : Nat)
  /-- CONFIRM: A CONFIRM record of a session, with SA (R345). -/
  | confirm (id : Nat) (sa : Nat)
  /-- DATA_RECORD: A DATA record: the source ID and arrival lane of its MGMT frame, the bytes of the record as its header and what follows (R344, R347), and what the firmware writes to the flash where the message is of an image update (R334). -/
  | dataRecord (src : Nat) (lane : Option Nat) (head : List Byte) (body : List Byte) (wrote : FlashWrite)
  /-- CLOSE: A CLOSE record: the arrival lane of its MGMT frame, and its bytes as its header and what follows (R346). -/
  | close (lane : Option Nat) (head : List Byte) (body : List Byte)
  /-- SESSION_IDLE_TIMEOUT: A session passes its idle timeout (R346). -/
  | sessionIdleTimeout (id : Nat)
  /-- WATCHDOG_SERVICE: The firmware services the watchdog (R331). -/
  | watchdogService
  /-- WATCHDOG_FIRST_EXPIRY: The first watchdog stage expires (R331). -/
  | watchdogFirstExpiry
  /-- WATCHDOG_SECOND_EXPIRY: The second watchdog stage expires (R331). -/
  | watchdogSecondExpiry
  /-- ATTIC_RESTART_REQUEST: A write to 0xC000:03 (R332). -/
  | atticRestartRequest (x : Nat)
  /-- FIRMWARE_HALT: The firmware reports a halt (R332). -/
  | firmwareHalt
  /-- ATTIC_MEMORY_WIPED: The Attic memory wipe ends and the image is loaded again (R332). -/
  | atticMemoryWiped
  /-- TRIAL_CONFIRM: A write confirms the trial image (R338). -/
  | trialConfirm
  /-- TRIAL_WINDOW_EXPIRY: The trial window passes unconfirmed (R338). -/
  | trialWindowExpiry
  /-- LIFE_CYCLE_REQUEST: A commit of a life-cycle request of 72 bytes for a step, in a session (R343). -/
  | lifeCycleRequest (session : Nat) (value : Nat) (x : Nat)
  /-- LIFE_CYCLE_TRANSITION: The transition takes place at its step; the fuse writes that fail, as a mask (R343). -/
  | lifeCycleTransition (bad : Nat)
  /-- ADVANCE_SECURITY_VERSION: The fused security version is advanced, unless the fuse write fails (R340). -/
  | advanceSecurityVersion (x : Nat) (fails : Bool)
  /-- REVOKE_FERESTUM_KEY_SLOT: A Ferestum key slot is revoked, unless the fuse write fails (R340). -/
  | revokeFerestumKeySlot (k : Nat) (fails : Bool)
  /-- ATTESTATION_REQUEST: A nonce is written to 0xB100:01 (R348). -/
  | attestationRequest (nonce : Nat)
  /-- ATTESTATION_REPORT_READY: The signed report is readable (R348). -/
  | attestationReportReady
  /-- ACKNOWLEDGE: A write of a sequence to 0xAF00:02 (R355). -/
  | acknowledge (q : Nat)
  /-- NOTICE_SUBSCRIPTION: A session's write of 0xAF00:07 (R356). -/
  | noticeSubscription (session : Nat) (v : Nat)
  /-- NOTICE: The Attic sends a session its new event records (R356). -/
  | notice (session : Nat)
  /-- PORT_GROUP_RESET: A write of a Crate number to 0x2800:04 (R367). -/
  | portGroupReset (n : Nat)
  /-- ARBITER_RECORD_CLEAR_ALL: A write of 1 to 0x4003:01 (R101). -/
  | arbiterRecordClearAll
  /-- ARBITER_STALLED_FLAG_CLEAR: A write of 2 to 0x4003:01 (R101). -/
  | arbiterStalledFlagClear
  /-- SNAPSHOT: The counters freeze at the boundary that ends a named step (R377). -/
  | snapshot
  /-- SNAPSHOT_RECORD_COMPLETE: The snapshot record is whole (R378). -/
  | snapshotRecordComplete
  /-- CONGESTION_MAP: The map that ends with the ended step is built (R387). -/
  | congestionMap
  /-- NAMED_SNAPSHOT_REQUEST: A write names a step for a snapshot (R377). -/
  | namedSnapshotRequest (k : Nat)
  /-- CONGESTION_MAP_REQUEST: A write names a map's end step (R387). -/
  | congestionMapRequest (y : Nat)
  /-- TELEMETRY_SUBSCRIPTION: A session's write of 0xA000:07 (R389). -/
  | telemetrySubscription (session : Nat) (v : Nat)
  /-- TELEMETRY: The Attic sends the oldest waiting record to its subscribers (R389). -/
  | telemetry
  /-- HATCH_SENSOR_READING: A Hatch's four sensors, as I16 in 1/16 °C (R409). -/
  | hatchSensorReading (h : Nat) (temps : List Nat)
  /-- LASER_MODULE_FAULT: A laser module reports a fault (R269). -/
  | laserModuleFault (m : Nat)
  deriving DecidableEq, Repr

end Sys2Proof
end

