-- ==== Sys2Proof/Decode.lean ====
section
/-! DEFINITION. Reading a command from a word of the command table. -/

namespace Sys2Proof

/-- The command that a word spells by the bits that the command table gives its rows. The table gives none of them bits:
no word spells a command. -/
def decodeTableWord (_nbits _w : Nat) : Option Instr := none

end Sys2Proof
end

