-- ==== Sys2Proof/Config.lean ====
section
/-! DEFINITION. What an implementation fixes and the values the spec leaves free: constants with no body, so that no
proof can see what they are. -/

namespace Sys2Proof.Config

/-- The 256 bits that the private identity key is derived to from the fused seed (R341 calls the derivation fixed and gives no
formula): free. -/
opaque identitySecret : Nat → Nat

/-- The SM3 of the boot ROM, fixed for each stepping (Table 15-10): free. -/
opaque romMeasurement : Nat → Nat

/-- The key of the configuration area's tag, derived from a fused secret, and the tag over a copy's contents
(R335 names HMAC-SM3 and no derivation): free. -/
opaque configTag : Nat → List (Nat × Nat) → Nat

/-- The SM3 of a configuration area copy (R348): the manual gives no layout of a copy: free. -/
opaque configMeasurement : Nat → List (Nat × Nat) → Nat

/-- The random number of an attestation report's signing, of the bytes that are signed (R348, GB/T 32918.2): free. -/
opaque signNonce : Nat → Nat

/-- The random number of the n-th key exchange (R345, GB/T 32918.3): free. -/
opaque ephemeralSecret : Nat → Nat

/-- The Ethernet address of a session's peer on the management port (R324): free. -/
opaque managementAddress : Nat → Nat

/-- The n-th value the spec leaves open at the moment it is needed (a tracked frequency, a cell cut short): free. -/
opaque freeNat : Nat → Nat

/-- In one cycle of an arbiter's island, a request of a requester is pending and not granted (Table 04-5): of the arbiter's entry,
its unit, the requester and the cycle: free. -/
opaque waiting : (entry unit requester cycle : Nat) → Bool

/-- In one cycle, an arbiter grants a requester whose grants no command of the model gives: the Cellar's channels and virtual
network 4 (R98, R228, Table 04-6): free. -/
opaque granted : (entry unit requester cycle : Nat) → Bool

/-- The row of Table 17-4 that a cycle of an egress Crate is counted under for a lane, of the six in order (R381): free. -/
opaque stallRow : (lane cycle : Nat) → Nat

/-- The row of Table 17-5, of the four after the first, that an issue slot not removed by a derate is counted under (R382): free. -/
opaque slotRow : (crate slot : Nat) → Nat

/-- The part of a step in which a die-bridge row link, or a stack's channel, is busy (R387, Table 17-7): of the entry, its unit
and the step: free. -/
opaque channelLoad : (entry unit step : Nat) → Nat

/-- How far a receiver has come between light and PCS lock (R266, Table 11-9): of its lane and the instant: free. -/
opaque receiveStage : (lane time : Nat) → Nat

/-- How long a reset of a port group takes, in 2⁻³² ns: of the Crate and the instant it began (R367): free up to 4 µs. -/
opaque resetLength : (crate time : Nat) → Nat

/-- The voltage of a Crate island, mV (R18, Table 18-9): of the Crate, its frequency and its temperature: free. -/
opaque islandVoltage : (crate freq temp : Nat) → Nat

/-- The power that leaves a transmit fibre through a circuit, 0.01 dBm (R279, Table 12-4): of the fibre and the instant: free. -/
opaque circuitPower : (hatch fibre time : Nat) → Nat

/-- The payload of a result for which no size is stated, of a context, generation and chunk (R152): free. -/
opaque unstatedPayload : (ctx gen chunk : Nat) → Nat

/-- The thermal model of a Hatch, calibrated at manufacture (R256): the temperature of a ring, in 2⁻¹⁶ °C, from the
activity words of the Hatch's Crates and its four sensors: free. -/
opaque ringTemperature : (ring : Nat) → (activity : List (Nat × Nat)) → (sensors : List Nat) → Int

end Sys2Proof.Config
end

