-- ==== Sys2Proof/Machine/Bytes.lean ====
section
/-! DEFINITION. Bytes and bit fields: most significant byte first (R4), bit 0 the least significant. -/

namespace Sys2Proof.Machine

/-- The unsigned number that bytes form, most significant byte first (R4). -/
def ofBytes (b : List Byte) : Nat := b.foldl (fun a x => a * 256 + x.toNat) 0

/-- The low `n` bytes of a number, most significant byte first (R4). -/
def toBytes : Nat → Nat → List Byte
  | 0, _ => []
  | n + 1, v => BitVec.ofNat 8 (v >>> (8 * n)) :: toBytes n v

/-- Bits [hi:lo] of a number. -/
def bits (v hi lo : Nat) : Nat := (v >>> lo) % 2 ^ (hi + 1 - lo)

/-- Bit k of a number. -/
def bit (v k : Nat) : Bool := decide ((v >>> k) % 2 = 1)

/-- A Bool as a bit. -/
def b2n (b : Bool) : Nat := if b then 1 else 0

/-- Bytes a to b of an m-byte value held as a number. -/
def bytesAt (m v a b : Nat) : Nat := (v >>> (8 * (m - 1 - b))) % 2 ^ (8 * (b + 1 - a))

/-- `n` bytes of a list from an offset, as a number. -/
def bytesFrom (l : List Byte) (off n : Nat) : Nat := ofBytes ((l.drop off).take n)

/-- A number as a signed value of `w` bits. -/
def toSigned (w v : Nat) : Int :=
  let x := v % 2 ^ w
  if x ≥ 2 ^ (w - 1) then (x : Int) - (2 ^ w : Nat) else x

/-- A signed value in two's complement of `w` bits. -/
def ofSigned (w : Nat) (v : Int) : Nat := (v % ((2 ^ w : Nat) : Int)).toNat

/-- Joins fields, each given by its width in bits and its value, the first most significant. -/
def packBits (l : List (Nat × Nat)) : Nat := l.foldl (fun a p => a * 2 ^ p.1 + p.2 % 2 ^ p.1) 0

/-- The positions of the bits set among the low `n`. -/
def setBits (n v : Nat) : List Nat := (List.range n).filter (fun k => bit v k)

/-- The number of bits set among the low `n`. -/
def popCount (n v : Nat) : Nat := (setBits n v).length

/-- A number with bit k set. -/
def setBit (v k : Nat) : Nat := if bit v k then v else v + 2 ^ k

/-- A number with bit k cleared. -/
def clearBit (v k : Nat) : Nat := if bit v k then v - 2 ^ k else v

/-- Quotient rounded up. -/
def ceilDiv (a b : Nat) : Nat := (a + b - 1) / b

/-- A wrapping counter of `w` bits plus `n`. -/
def wrapAdd (w v n : Nat) : Nat := (v + n) % 2 ^ w

/-- `a` less `b` in serial-number arithmetic of `w` bits. -/
def wrapSub (w a b : Nat) : Nat := (a + 2 ^ w - b % 2 ^ w) % 2 ^ w

end Sys2Proof.Machine
end

