-- ==== Sys2Proof/Machine/Numfmt.lean ====
section
/-! DEFINITION. Element formats, quantising and rounding (chapter 07): exact values, the grid of R156, the conversions of
R160, R162 and R163, and the draws of R161. -/

namespace Sys2Proof.Machine

/-! ## Exact values -/

/-- The exact value (−1)^neg × n ÷ d × 2^e, with a sign of its own at zero. -/
structure Mag where
  neg : Bool
  n : Nat
  d : Nat := 1
  e : Int := 0
  deriving DecidableEq, Repr

/-- An element's or a result's value (R148, R149). -/
inductive Val where
  | nan
  | inf (neg : Bool)
  | fin (x : Mag)
  deriving DecidableEq, Repr

/-- The magnitudes of two values brought to one denominator and exponent. -/
def Mag.align (a b : Mag) : Nat × Nat :=
  let e := min a.e b.e
  (a.n * b.d * 2 ^ (a.e - e).toNat, b.n * a.d * 2 ^ (b.e - e).toNat)

/-- The signed number of a magnitude. -/
def signedOf (neg : Bool) (n : Nat) : Int := if neg then -(n : Int) else n

/-- a below b, with −0 below +0 (R198). -/
def Mag.lt (a b : Mag) : Bool :=
  let p := a.align b
  let x := signedOf a.neg p.1
  let y := signedOf b.neg p.2
  decide (x < y) || (decide (x = y) && a.neg && !b.neg)

/-- a below b, infinities taking part as values; NaN is below nothing (R198). -/
def Val.lt : Val → Val → Bool
  | .fin a, .fin b => a.lt b
  | .inf true, .fin _ => true
  | .inf true, .inf false => true
  | .fin _, .inf false => true
  | _, _ => false

/-- The exact product; zeros take the XOR of the signs (R211). -/
def Mag.mul (a b : Mag) : Mag := ⟨xor a.neg b.neg, a.n * b.n, a.d * b.d, a.e + b.e⟩

/-- The exact sum; a zero sum is +0 unless both addends are −0 (R211). -/
def Mag.add (a b : Mag) : Mag :=
  let p := a.align b
  let s := signedOf a.neg p.1 + signedOf b.neg p.2
  ⟨if s = 0 then a.neg && b.neg && decide (a.n = 0) && decide (b.n = 0) else decide (s < 0), s.natAbs, a.d * b.d, min a.e b.e⟩

/-- floor(log2 (n ÷ d)) for n and d not 0. -/
def floorLog2 (n d : Nat) : Int :=
  let g : Int := (n.log2 : Int) - d.log2
  if n * 2 ^ (-g).toNat ≥ d * 2 ^ g.toNat then g else g - 1

/-! ## Formats (Tables 07-1 to 07-3) -/

/-- A floating-point format (Table 07-2): fraction bits, exponent bits, bias, emin, emax, and the significand of its
largest finite value at emax. -/
structure FloatFmt where
  p : Nat
  x : Nat
  bias : Int
  emin : Int
  emax : Int
  top : Nat
  deriving DecidableEq, Repr

/-- The parameters of a floating-point format code (Table 07-2). -/
def floatFmt (code : Nat) : FloatFmt :=
  match code with
  | 0 => ⟨23, 8, 127, -126, 127, 2 ^ 24 - 1⟩
  | 1 => ⟨10, 5, 15, -14, 15, 2 ^ 11 - 1⟩
  | 2 => ⟨7, 8, 127, -126, 127, 2 ^ 8 - 1⟩
  | 3 => ⟨3, 4, 7, -6, 8, 14⟩
  | 4 => ⟨2, 5, 15, -14, 15, 7⟩
  | 5 => ⟨2, 3, 3, -2, 4, 7⟩
  | 6 => ⟨3, 2, 1, 0, 2, 15⟩
  | _ => ⟨1, 2, 1, 0, 2, 3⟩

/-- Element width in bits (Table 07-1); 0 for a reserved code. -/
def fmtWidth (code : Nat) : Nat := [32, 16, 16, 8, 8, 6, 6, 4, 8, 16, 32, 64].getD code 0
/-- A floating-point code. -/
def isFloat (code : Nat) : Bool := decide (code ≤ 7)
/-- An integer code. -/
def isInt (code : Nat) : Bool := decide (8 ≤ code ∧ code ≤ 11)
/-- A form is legal: a code of Table 07-1, the MX bit only with codes 3 to 7 (R147). -/
def formOk (code : Nat) (mx : Bool) : Bool := decide (code ≤ 11) && (!mx || decide (3 ≤ code ∧ code ≤ 7))

/-- Whether a format has infinities (Table 07-3). -/
def hasInf (code : Nat) : Bool := decide (code ∈ [0, 1, 2, 4])

/-- Joins sign, exponent and fraction fields. -/
def joinFloat (code : Nat) (neg : Bool) (x t : Nat) : Nat :=
  let f := floatFmt code
  b2n neg * 2 ^ (f.p + f.x) + x * 2 ^ f.p + t

/-- Decodes an element (R148, R149, Table 07-3). -/
def decodeElem (code bitsOf : Nat) : Val :=
  if isInt code then
    let v := toSigned (fmtWidth code) bitsOf
    .fin ⟨decide (v < 0), v.natAbs, 1, 0⟩
  else
    let f := floatFmt code
    let t := bitsOf % 2 ^ f.p
    let x := bitsOf / 2 ^ f.p % 2 ^ f.x
    let neg := bit bitsOf (f.p + f.x)
    if hasInf code ∧ x = 2 ^ f.x - 1 then (if t = 0 then .inf neg else .nan)
    else if code = 3 ∧ x = 15 ∧ t = 7 then .nan
    else if x = 0 then .fin ⟨neg, t, 1, f.emin - f.p⟩
    else .fin ⟨neg, 2 ^ f.p + t, 1, (x : Int) - f.bias - f.p⟩

/-- The canonical NaN of a format (Table 07-3). -/
def canonNan (code : Nat) : Nat :=
  match code with
  | 0 => 0x7FC00000 | 1 => 0x7E00 | 2 => 0x7FC0 | 3 => 0x7F | 4 => 0x7E | _ => 0

/-- An infinity's encoding where the format has one; E4M3 writes the canonical NaN (R159). -/
def infCode (code : Nat) (neg : Bool) : Nat :=
  if hasInf code then joinFloat code neg (2 ^ (floatFmt code).x - 1) 0 else canonNan code

/-- The largest finite value's encoding. -/
def topCode (code : Nat) (neg : Bool) : Nat :=
  let f := floatFmt code
  joinFloat code neg (f.emax + f.bias).toNat (f.top - 2 ^ f.p)

/-! ## Elements on the wire (R150 to R152) -/

/-- Element i of a bit string of elements of w bits in a payload given as a number of m bytes (R150). -/
def elemAt (m v w i : Nat) : Nat := (v >>> (8 * m - w * (i + 1))) % 2 ^ w

/-- The n elements of w bits of a payload (R150). -/
def unpackElems (p : List Byte) (w n : Nat) : List Nat :=
  let v := ofBytes p
  (List.range n).map (elemAt p.length v w)

/-- The bytes of elements of w bits, pad bits 0 (R150). -/
def packElems (w : Nat) (l : List Nat) : List Byte :=
  let total := w * l.length
  let m := ceilDiv total 8
  toBytes m (packBits (l.map (fun x => (w, x))) * 2 ^ (8 * m - total))

/-- The encoded size of n elements, none where no size is valid (R152). -/
def encSize (code : Nat) (mx : Bool) (n : Nat) : Option Nat :=
  let w := fmtWidth code
  if mx then (if n % 32 = 0 then some (n / 32 * (1 + 4 * w)) else none) else some (ceilDiv (n * w) 8)

/-- The values of the n elements of a payload in a form (R148 to R151). -/
def decodeElems (code : Nat) (mx : Bool) (n : Nat) (p : List Byte) : List Val :=
  let w := fmtWidth code
  if mx then
    (List.range (n / 32)).flatMap (fun j =>
      let blk := (p.drop (j * (1 + 4 * w))).take (1 + 4 * w)
      let c := bytesFrom blk 0 1
      (unpackElems (blk.drop 1) w 32).map (fun b =>
        if c = 0xFF then .nan
        else match decodeElem code b with
          | .fin x => .fin { x with e := x.e + c - 127 }
          | v => v))
  else (unpackElems p w n).map (decodeElem code)

/-! ## Accumulator classes (R153 to R155) -/

/-- The accumulator width of an input form: 48, 96 or 192 (Table 07-6). -/
def accWidth (code : Nat) (mx : Bool) : Nat :=
  if mx ∨ code = 0 ∨ code = 2 then 192 else if code = 3 ∨ code = 4 ∨ code = 8 then 48 else 96

/-- The addend limit L (R153). -/
def addendLimit (w : Nat) : Nat := 2 ^ (w - 21) - 1

/-- The default window base: emax_in − (W − 22) (R154). -/
def defaultWindow (code : Nat) (mx : Bool) : Int :=
  if isInt code then 0
  else (floatFmt code).emax + (if mx then 127 else 0) - (accWidth code mx - 22)

/-! ## Rounding (R156, R160) -/

/-- The integer nearest num ÷ den, ties to even, or under a stochastic draw r: up when r is below the first 32 bits of
the dropped fraction (R156, R161, R205). -/
def roundQuot (num den : Nat) (draw : Option Nat) : Nat :=
  let n := num / den
  let rem := num % den
  match draw with
  | none => if 2 * rem > den ∨ (2 * rem = den ∧ n % 2 = 1) then n + 1 else n
  | some r => if r < rem * 2 ^ 32 / den then n + 1 else n

/-- The outcome of quantising a finite addend (R156). -/
inductive Quant where
  | exact | inexact | underflow | overflow
  deriving DecidableEq, Repr

/-- Quantises a finite addend on the grid 2^b with limit L (R156). -/
def quantise (x : Mag) (b : Int) (lim : Nat) : Int × Quant :=
  let num := x.n * 2 ^ (x.e - b).toNat
  let den := 2 ^ (b - x.e).toNat
  let q := roundQuot num den none
  if q > lim then (signedOf x.neg lim, .overflow)
  else
    (signedOf x.neg q,
      if num % den = 0 then .exact else if q = 0 then .underflow else .inexact)

/-- Converts a finite value into a floating-point format with one rounding (R160): its encoding and whether it overflowed.
A zero keeps its sign. -/
def toFloat (x : Mag) (code : Nat) (draw : Option Nat) : Nat × Bool :=
  let f := floatFmt code
  if x.n = 0 then (joinFloat code x.neg 0 0, false)
  else
    let e := floorLog2 x.n x.d + x.e
    let u := max e f.emin - f.p
    let n := roundQuot (x.n * 2 ^ (x.e - u).toNat) (x.d * 2 ^ (u - x.e).toNat) draw
    let carried := decide (n = 2 ^ (f.p + 1))
    let n := if carried then n / 2 else n
    let u := if carried then u + 1 else u
    if u > f.emax - f.p ∨ (u = f.emax - f.p ∧ n > f.top) then
      (if hasInf code then infCode code x.neg else topCode code x.neg, true)
    else if n ≥ 2 ^ f.p then (joinFloat code x.neg (u + f.p + f.bias).toNat (n - 2 ^ f.p), false)
    else (joinFloat code x.neg 0 n, false)

/-- Converts an integer sum into an integer format: its encoding and whether it saturated (R162). -/
def toIntFmt (s : Int) (code : Nat) : Nat × Bool :=
  let w := fmtWidth code
  let lim : Int := 2 ^ (w - 1)
  if s < -lim then (ofSigned w (-lim), true) else if s ≥ lim then (ofSigned w (lim - 1), true) else (ofSigned w s, false)

/-- The 32-bit draw of R161. -/
def srDraw (ctx gen chunk i : Nat) : Nat :=
  let m := 2 ^ 64
  let x := ctx * 2 ^ 40 + gen * 2 ^ 32 + chunk
  let x := x ^^^ ((i + 1) * 0x9E3779B97F4A7C15 % m)
  let x := x ^^^ (x >>> 33)
  let x := x * 0xFF51AFD7ED558CCD % m
  let x := x ^^^ (x >>> 33)
  let x := x * 0xC4CEB9FE1A85EC53 % m
  let x := x ^^^ (x >>> 33)
  x >>> 32

/-! ## Encoding of results (R159 to R163) -/

/-- What encoding counts: output overflows, MX clips, specials written (Table 07-8). -/
structure OutCounts where
  overflow : Nat := 0
  clip : Nat := 0
  special : Nat := 0
  deriving DecidableEq, Repr

/-- Joins two counts. -/
def OutCounts.plus (a b : OutCounts) : OutCounts := ⟨a.overflow + b.overflow, a.clip + b.clip, a.special + b.special⟩

/-- Encodes one result outside MX form (R159, R160, R162). -/
def encodeOne (code : Nat) (draw : Option Nat) : Val → Nat × OutCounts
  | .nan => (canonNan code, ⟨0, 0, 1⟩)
  | .inf neg => if hasInf code || decide (code = 3) then (infCode code neg, ⟨0, 0, 1⟩) else (topCode code neg, ⟨1, 0, 0⟩)
  | .fin x =>
    if isInt code then
      let r := toIntFmt (signedOf x.neg (x.n * 2 ^ x.e.toNat)) code
      (r.1, ⟨b2n r.2, 0, 0⟩)
    else
      let r := toFloat x code draw
      (r.1, ⟨b2n r.2, 0, 0⟩)

/-- The greatest of two magnitudes. -/
def maxMag (a b : Mag) : Mag := let p := a.align b; if p.1 < p.2 then b else a

/-- The scale exponent of a block (R163 steps 1 and 2), over the values as they stand after a post-op: an infinity that the clamp
has replaced by a finite bound takes part in amax (R163 speaks of positions finite under R159: DESIGN CHOICE, assumption 67). -/
def blockScale (code : Nat) (l : List Val) : Int :=
  let top := l.foldl (fun (a : Option Mag) v => match v with
    | .fin x => some (match a with | some y => maxMag y x | none => x)
    | _ => a) none
  match top with
  | none => -127
  | some x =>
    if x.n = 0 then -127
    else max (-127) (min 127 (floorLog2 x.n x.d + x.e - (floatFmt code).emax))

/-- Encodes one element of a block under a scale exponent (R163 step 4): an element beyond the format is clipped. -/
def encodeInBlock (code : Nat) (sc : Int) (draw : Option Nat) : Val → Nat × OutCounts
  | .nan => (canonNan code, ⟨0, 0, 1⟩)
  | .inf neg => (infCode code neg, ⟨0, 0, 1⟩)
  | .fin x =>
    let y : Mag := { x with e := x.e - sc }
    let r := toFloat y code draw
    if r.2 then (topCode code x.neg, ⟨0, 1, 0⟩) else (r.1, {})

/-- The 33, 25 or 17 bytes of one block (R151, R159, R163); i0 is the index of its first element in the chunk. Elements
marked as empty count nothing (R197). -/
def encodeBlock (code : Nat) (draw : Nat → Option Nat) (i0 : Nat) (l : List (Val × Bool)) : List Byte × OutCounts :=
  let w := fmtWidth code
  let sc := blockScale code (l.map (·.1))
  let force := decide (5 ≤ code) && l.any (fun v => match v.1 with | .fin _ => false | _ => true)
  if force then (toBytes 1 0xFF ++ packElems w (l.map (fun _ => 0)), ⟨0, 0, 1⟩)
  else
    let es := (l.zip (List.range l.length)).map (fun p =>
      let r := encodeInBlock code sc (draw (i0 + p.2)) p.1.1
      (r.1, if p.1.2 then ({} : OutCounts) else r.2))
    (toBytes 1 (sc + 127).toNat ++ packElems w (es.map (·.1)), es.foldl (fun a e => a.plus e.2) {})

/-- The list in runs of k. -/
def runsOf {α : Type} (k : Nat) (l : List α) : List (List α) :=
  (List.range (ceilDiv l.length k)).map (fun j => (l.drop (j * k)).take k)

/-- The payload of results in an output form (R150, R151, R159 to R163), with what it counts; each result with whether
its position is empty (R197). -/
def encodeElems (code : Nat) (mx : Bool) (draw : Nat → Option Nat) (l : List (Val × Bool)) : List Byte × OutCounts :=
  if mx then
    let bs := (runsOf 32 l).zip (List.range (ceilDiv l.length 32))
    bs.foldl (fun a p => let b := encodeBlock code draw (32 * p.2) p.1; (a.1 ++ b.1, a.2.plus b.2)) ([], {})
  else
    let es := (l.zip (List.range l.length)).map (fun p =>
      let r := encodeOne code (draw p.2) p.1.1
      (r.1, if p.1.2 then ({} : OutCounts) else r.2))
    (packElems (fmtWidth code) (es.map (·.1)), es.foldl (fun a e => a.plus e.2) {})

/-! ## The LSE weight (R203) -/

/-- round(2^(2^(i−24)) × 2^96) for i from 0 to 23. The product of the factors of f's set bits errs by less than 2^−88,
and the nearest that 2^(f ÷ 2^24) × 2^23 comes to a tie is 3.9 × 10⁻⁸, so the rounding of R203 is exact. -/
def rootTable : List Nat :=
  [79228165787559418383175182041, 79228169060854634408312904164, 79228175607445472165130168567,
   79228188700628770505088420373, 79228214887001858491551355114, 79228267259773999700675265240,
   79228372005422143143813826733, 79228581497133874770443338218, 79229000482219122111440011082,
   79229838459036794155212045658, 79231514439261175779748764725, 79234866506068713947867698354,
   79241571065139888961741854322, 79254981885274639038225885637, 79281810334857995344526032841,
   79335494482037593178543608469, 79442971854562650309779985388, 79658363602065864296602447411,
   80090900639232773493759855183, 80963033366431698391403892407, 82735892943544661968409507608,
   86398923866664962375130072335, 94218694570555024373110687280, 112045541949572279837463876455]

/-- round_nearest(2^(f ÷ 2^24) × 2^23) for f below 2^24 (R203). -/
def weightSig (f : Nat) : Nat :=
  let p := (rootTable.zip (List.range 24)).foldl (fun a r => if bit f r.2 then (a * r.1) >>> 96 else a) (2 ^ 96)
  (p + 2 ^ 72) >>> 73

/-- The weight of a row of maximum m against the greatest mx, both finite and m ≤ mx (R203): none for 0, else the
significand and exponent. -/
def lseWeight (m mx : Mag) : Option (Nat × Int) :=
  let x := m.add { mx with neg := !mx.neg }
  let q := roundQuot (x.n * 2 ^ (x.e + 24).toNat) (x.d * 2 ^ (-(x.e + 24)).toNat) none
  if q > 256 * 2 ^ 24 then none
  else
    let xq : Int := -(q : Int)
    let n := xq / 2 ^ 24
    let f := (xq - n * 2 ^ 24).toNat
    let w := weightSig f
    if w = 2 ^ 24 then some (2 ^ 23, n + 1 - 23) else some (w, n - 23)

end Sys2Proof.Machine
end

