-- ==== Sys2Proof/Machine/Tab.lean ====
section
/-! DEFINITION. Sparse tables as plain data: an ascending list of key and value pairs, no entry equal to the table's
default, so that equal tables are equal data. -/

namespace Sys2Proof.Machine

/-- A sparse table from numbers to values. A key that is not listed holds the default that the reader names. -/
structure Tab (α : Type) where
  cells : List (Nat × α) := []
  deriving DecidableEq, Repr

/-- The table in which every key holds the default. -/
def Tab.empty {α : Type} : Tab α := ⟨[]⟩

/-- The value listed at a key, or the default. -/
def Tab.look {α : Type} (dflt : α) : List (Nat × α) → Nat → α
  | [], _ => dflt
  | (k, v) :: t, n => if k = n then v else Tab.look dflt t n

/-- The value of a table at a key. -/
def Tab.get {α : Type} (dflt : α) (t : Tab α) (n : Nat) : α := Tab.look dflt t.cells n

/-- Lists a value at a key that an ascending list does not hold. -/
def Tab.ins {α : Type} (n : Nat) (x : α) : List (Nat × α) → List (Nat × α)
  | [] => [(n, x)]
  | (k, v) :: t => if n < k then (n, x) :: (k, v) :: t else (k, v) :: Tab.ins n x t

/-- The table with a value put at a key; a value equal to the default is not listed. -/
def Tab.put {α : Type} [DecidableEq α] (dflt : α) (t : Tab α) (n : Nat) (x : α) : Tab α :=
  let r := t.cells.filter (fun p => decide (p.1 ≠ n))
  ⟨if x = dflt then r else Tab.ins n x r⟩

/-- The table with the value at a key changed by a function. -/
def Tab.upd {α : Type} [DecidableEq α] (dflt : α) (t : Tab α) (n : Nat) (f : α → α) : Tab α :=
  t.put dflt n (f (t.get dflt n))

/-- Listed values changed by a function of key and value; one that becomes the default is no longer listed. -/
def Tab.mapCells {α : Type} [DecidableEq α] (dflt : α) (f : Nat → α → α) : List (Nat × α) → List (Nat × α)
  | [] => []
  | (k, v) :: t =>
    let r := Tab.mapCells dflt f t
    if f k v = dflt then r.filter (fun p => decide (p.1 ≠ k)) else (k, f k v) :: r

/-- The table with every listed value changed by a function of its key. -/
def Tab.mapAll {α : Type} [DecidableEq α] (dflt : α) (t : Tab α) (f : Nat → α → α) : Tab α :=
  ⟨Tab.mapCells dflt f t.cells⟩

/-- Keys strictly rise. -/
def Tab.rising {α : Type} : List (Nat × α) → Bool
  | [] => true
  | [_] => true
  | (a, _) :: (b, y) :: t => decide (a < b) && Tab.rising ((b, y) :: t)

/-- The canonical form: keys strictly rise and no listed value is the default. -/
def Tab.wf {α : Type} [DecidableEq α] (dflt : α) (t : Tab α) : Bool :=
  Tab.rising t.cells && t.cells.all (fun p => decide (p.2 ≠ dflt))

/-- Applies a function to a value for every member of a list, in order. -/
def forAll {α β : Type} (l : List α) (f : β → α → β) (b : β) : β := l.foldl f b

/-- The list with the element at a position replaced. -/
def listSet {α : Type} : List α → Nat → α → List α
  | [], _, _ => []
  | _ :: t, 0, y => y :: t
  | x :: t, n + 1, y => x :: listSet t n y

/-- The list with the elements that satisfy a test removed once: the first one only. -/
def removeFirst {α : Type} (p : α → Bool) : List α → List α
  | [] => []
  | x :: t => if p x then t else x :: removeFirst p t

/-- The first element that satisfies a test, and the list without it. -/
def takeFirst {α : Type} (p : α → Bool) : List α → Option (α × List α)
  | [] => none
  | x :: t => if p x then some (x, t) else (takeFirst p t).map (fun r => (r.1, x :: r.2))

end Sys2Proof.Machine
end

