-- ==== Sys2Proof/Machine/Parts.lean ====
section
/-! DEFINITION. The pieces of the machine's state outside the data path: lanes, ports, links, time, Inventory, Attic,
Strongbox, telemetry, power. Each field names the rule that gives it; default field values are the values after cold reset. -/

namespace Sys2Proof.Machine

/-! ## Discovery (chapter 02) -/

/-- Lane status (Table 02-6). -/
inductive LaneStatus where
  | idle | locked | counting | match_ | mismatch | lost
  deriving DecidableEq, Repr

/-- The outcome of one valid hello (R33, R34): a match, or a mismatch of a reason. Reasons 3 and 4 are CROSSED, the
others UNEXPECTED (Table 02-5). -/
inductive HelloOutcome where
  | hit
  | miss (reason : Nat)
  deriving DecidableEq, Repr

/-- Lane verification state (R35). -/
structure Disc where
  /-- lane status; Table 02-6; [02 R35]; IDLE -/
  status : LaneStatus := .idle
  /-- outcome of the run of valid hellos being counted; [02 R35]; none -/
  run : Option HelloOutcome := none
  /-- valid hellos in a row with that outcome; [02 R35]; 0 -/
  count : Nat := 0
  /-- verify count in force when the run began; U8; [02 Table 02-9]; 0 -/
  need : Nat := 0
  /-- recorded mismatch reason, 0 none; [02 R34]; 0 -/
  reason : Nat := 0
  /-- seen neighbour identity; U64; [02 Table 02-9]; 0 -/
  seenId : Nat := 0
  /-- seen sender port; 10 bits; [02 Table 02-9]; 0 -/
  seenPort : Nat := 0
  /-- seen lane within port; 3 bits; [02 Table 02-9]; 0 -/
  seenLane : Nat := 0
  /-- sequence of the last accepted hello since LOCKED; U16; [02 R32]; none -/
  lastSeq : Option Nat := none
  /-- Verified bit of the last valid hello; [02 R36]; clear -/
  verified : Bool := false
  /-- a valid hello has come since the lane became LOCKED; [02 R35]; no -/
  hadValid : Bool := false
  /-- step of the last valid hello, or of the lock; U64; [02 R35 rule 6]; 0 -/
  lastStep : Nat := 0
  /-- a valid hello has come since the absence timeout began; [02 R36 row 8]; no -/
  helloSinceTimeout : Bool := false
  /-- the absence timeout has expired and the reasons 9 to 11 apply; [02 Table 02-9]; no -/
  late : Bool := false
  /-- sequence of the next hello sent; U16; [02 Table 02-4]; 0 -/
  txSeq : Nat := 0
  /-- the step whose hello the lane has sent; U64; [02 R31]; none -/
  helloStep : Option Nat := none
  /-- reason read while the lane is COUNTING: the one it last held; [02 Table 02-9]; 0 -/
  kept : Nat := 0
  /-- the lane gained PCS lock in the current step, so it sends no hello for it; [02 R31]; no -/
  freshLock : Bool := false
  /-- lane digest status; ENUM; [14 R322]; NO-HELLO -/
  digest : Nat := 0
  /-- lane digest disagreements; U64; [14 Table 14-11]; 0 -/
  disagreements : Nat := 0
  /-- the lane is in the spray set of a port that is UP or SUSPECT; [02 R38]; no -/
  inSpray : Bool := false
  deriving DecidableEq, Repr

/-- Port state (0x2580). -/
inductive PortState where
  | down | training | upUnverified | up | unexpected | crossed | absent | fenced | suspect
  deriving DecidableEq, Repr

/-- The fence governor's decision on a port (R365). -/
inductive Fence where
  | undecided | accepted | governed
  deriving DecidableEq, Repr

/-- A port, kept at its first lane (R36). -/
structure Port where
  /-- port state; Table 02-7; [02 R36]; DOWN -/
  state : PortState := .down
  /-- step at which the absence timeout began; U64; [02 R36]; 0 -/
  origin : Nat := 0
  /-- the absence timeout has expired; [02 R36]; no -/
  timeout : Bool := false
  /-- the governor's decision while the fence bit stays set; [16 R365]; none -/
  fence : Fence := .undecided
  /-- its enable bit was set while the device was BOOT-FAILED, so it is not enabled; [15 R337]; no -/
  barred : Bool := false
  deriving DecidableEq, Repr

/-! ## The link layer (chapter 03) -/

/-- A frame in a lane's replay buffer (R65). -/
structure Replay where
  /-- link sequence; U16 -/
  seq : Nat
  /-- the frame as first transmitted -/
  frame : Frame
  /-- fabric time at the start of its first transmission; 80 bits; [03 R68] -/
  start : FabricTime
  /-- its FCS as sent: a frame cut or bad in transmission carries the tail mark; [03 R61] -/
  fcs : Fcs := .good
  deriving DecidableEq, Repr

/-- The sending side of a lane's link layer. -/
structure LinkTx where
  /-- sequence of the next new frame; U16; [03 R65]; 0 -/
  next : Nat := 0
  /-- replay buffer, oldest first; [03 R65, R71]; empty -/
  replay : List Replay := []
  /-- consumed flits per virtual channel; 24 bits each; [03 R63]; 0 -/
  consumed : Tab Nat := {}
  /-- credit limit per virtual channel from the last valid LINK; 24 bits each; [03 R63]; 0 -/
  limit : Tab Nat := {}
  /-- a valid LINK frame has come since the gain of lock; [03 R70]; no -/
  credited : Bool := false
  /-- when the last LINK frame left; 80 bits; [03 R64]; none since the gain of lock -/
  linkSent : Option FabricTime := none
  /-- the present silence of LINK frames has been counted; [03 R64]; no -/
  lateCounted : Bool := false
  /-- sequence from which a replay is due at the next frame boundary; [03 R68]; none -/
  replayDue : Option Nat := none
  /-- frame whose replays are counted in a row; U16; [03 R69]; none -/
  replayOf : Option Nat := none
  /-- replays in a row of that frame; 0 to 8; [03 R69]; 0 -/
  replays : Nat := 0
  deriving DecidableEq, Repr

/-- A frame that is arriving on a lane, from its head to its tail. -/
structure Rx where
  /-- the frame as it arrives -/
  frame : Frame
  /-- receive timestamp; 80 bits; [13 R285] -/
  time : FabricTime
  /-- handle of the stored frame it becomes, or none when it is being discarded -/
  held : Option Nat
  /-- virtual channel of the ring whose positions it takes while it is being discarded, to be freed at its tail (R37, R77) -/
  freeVc : Option Nat := none
  deriving DecidableEq, Repr

/-- A run of flit positions of an ingress ring, in arrival order (R77). -/
structure RingRun where
  /-- handle of the frame that holds it; 0 for one that is being discarded -/
  held : Nat
  /-- flit positions -/
  flits : Nat
  /-- the frame has been released -/
  free : Bool := false
  /-- its positions are added to the freed count when they return (not so under R78) -/
  counts : Bool := true
  deriving DecidableEq, Repr

/-- One ingress ring of a lane (R76, R77). -/
structure Ring where
  /-- size in force, in flits; [04 R77, 10 R234]; 0 until the lane gains lock -/
  size : Nat := 0
  /-- runs held, in arrival order; [04 R77]; none -/
  runs : List RingRun := []
  /-- initial credit of the present link, in flits; [03 R70]; 0 -/
  initial : Nat := 0
  /-- flits freed since the gain of lock; 24 bits; [03 R63]; 0 -/
  freed : Nat := 0
  /-- flit position at which the oldest run begins; below the size; [04 R77]; 0 -/
  front : Nat := 0
  deriving DecidableEq, Repr

/-- The receiving side of a lane's link layer. -/
structure LinkRx where
  /-- PCS lock; [02 R35]; no -/
  lock : Bool := false
  /-- E, the next sequence expected; U16; [03 R66]; 0 -/
  expect : Nat := 0
  /-- when the LNACK(E) that holds back further ones was sent; 80 bits; [03 R67]; none -/
  nacked : Option FabricTime := none
  /-- LNACK to be sent at the next frame boundary: its E and reason; [03 R67]; none -/
  nackDue : Option (Nat × Nat) := none
  /-- the frame now arriving; none -/
  rx : Option Rx := none
  /-- ingress rings, by virtual channel; [04 R76]; empty -/
  rings : Tab Ring := {}
  /-- cells of its on-chip rings in force, of which none says the defaults; [03 R70, 04 Table 04-8]; none -/
  chip : Option Nat := none
  /-- staging buffer of a Cellar-store lane, newest first: frame and flits, at most 1,024 flits; [10 R235]; empty -/
  staged : List (Nat × Nat) := []
  /-- staging overflows; U64; [10 Table 10-5]; 0 -/
  stagingLost : Nat := 0
  deriving DecidableEq, Repr

/-! ## Time of a lane (chapter 13) -/

/-- STEP exchange and time record of a lane. -/
structure LaneTime where
  /-- last valid STEP: its transmit time; 80 bits; [13 R290]; 0 -/
  peerTx : Nat := 0
  /-- last valid STEP: its receive timestamp; 80 bits; [13 R290]; 0 -/
  peerRx : Nat := 0
  /-- a valid STEP has come since the gain of lock; [13 R290]; no -/
  echoed : Bool := false
  /-- a STEP has been sent since the gain of lock; [13 R290]; no -/
  sentFirst : Bool := false
  /-- step whose STEP frame the lane has sent; U64; [13 R290]; none -/
  sentStep : Option Nat := none
  /-- root identity of the last valid STEP; U64; [13 R293]; 0 -/
  root : Nat := 0
  /-- hop count of the last valid STEP; U8; [13 R293]; 0 -/
  hops : Nat := 0
  /-- clock state of the last valid STEP; 2 bits; [13 R293]; 0 -/
  clock : Nat := 0
  /-- time error bound of the last valid STEP; U32; [13 R297]; 0 -/
  bound : Nat := 0
  /-- step in which the last valid STEP came; U64; [13 R293]; none -/
  step : Option Nat := none
  /-- valid STEP frames received; U64; [13 Table 13-7]; 0 -/
  valid : Nat := 0
  /-- STEP frames discarded and measurements discarded; U64; [13 R291]; 0 -/
  discarded : Nat := 0
  /-- step disagreements; U64; [13 R301]; 0 -/
  disagree : Nat := 0
  /-- last delay; U64 in 2⁻¹⁶ ns; [13 R292]; 0 -/
  delay : Nat := 0
  deriving DecidableEq, Repr

/-- An entry of a timestamp queue (Table 13-2). -/
structure Stamp where
  tag : Nat
  lane : Nat
  time : FabricTime
  deriving DecidableEq, Repr

/-- The time unit (R283 to R297). -/
structure TimeUnit where
  /-- fabric time in 2⁻³² ns; 80 bits and 16 more of the increment's fraction; [13 R283, R284]; 0 -/
  fab : Nat := 0
  /-- time that the unit has run since reset, in 2⁻³² ns, jumps apart (the model's own: the islands' cycles follow it); 0 -/
  ran : Nat := 0
  /-- step counter; U64; [13 R296, R298]; 0 -/
  step : Nat := 0
  /-- clock state; Table 13-4; [13 R294]; 0 FREE-RUN -/
  clock : Nat := 0
  /-- a time jump has been made since ACQUIRING was entered; [13 Table 13-4]; no -/
  jumped : Bool := false
  /-- tracked frequency adjustment in ppb, signed; [13 R295]; 0 -/
  track : Int := 0
  /-- slew in force, ppb, signed; [13 R295]; 0 -/
  slew : Int := 0
  /-- correction that remains, 2⁻¹⁶ ns, signed; [13 R295]; 0 -/
  remain : Int := 0
  /-- last offset, I64 in 2⁻¹⁶ ns; [13 Table 13-7]; 0 -/
  offset : Int := 0
  /-- rate adjustments of the last 16 steps, ppb, newest first; [13 Table 13-4]; none -/
  recent : List Int := []
  /-- rate adjustment frozen in HOLDOVER, ppb; [13 Table 13-4]; 0 -/
  held : Int := 0
  /-- consecutive steps with |offset| within the lock threshold; [13 Table 13-4]; 0 -/
  goodSteps : Nat := 0
  /-- a measurement within this step was within the threshold; [13 Table 13-4]; none -/
  stepGood : Option Bool := none
  /-- consecutive measurements beyond the threshold in TRACKING; [13 R295]; 0 -/
  badRun : Nat := 0
  /-- parent lane; [13 R293]; none -/
  parent : Option Nat := none
  /-- own hop count; U8; [13 R293]; 255 -/
  hops : Nat := 255
  /-- root identity, 0 for none; U64; [13 R293]; 0 -/
  root : Nat := 0
  /-- time error bound on entry to HOLDOVER, ns; [13 R297]; unknown -/
  boundIn : Nat := 0xFFFFFFFF
  /-- fabric time of entry to HOLDOVER; 80 bits; [13 R297]; 0 -/
  holdFrom : FabricTime := 0
  /-- seconds of the next 1PPS edge under ROOT-PPS; U64; [13 R294]; none -/
  ppsNext : Option Nat := none
  /-- the next 1PPS edge is the first since a write of the seconds entry, which marks it; [13 R294]; no -/
  ppsSet : Bool := false
  /-- the source is present; [13 R294]; no -/
  source : Bool := false
  /-- REFCLK0 and REFCLK1 lost; [18 R400]; both good -/
  lost0 : Bool := false
  lost1 : Bool := false
  /-- clock driving the time unit; [18 R400]; 0 -/
  driver : Nat := 0
  /-- PPS_OUT pulses given, the pin's edges; [18 R399]; 0 (the model's own count of a pin) -/
  ppsOut : Nat := 0
  deriving DecidableEq, Repr

/-! ## Events and the Tally (chapters 16, 17) -/

/-- An event record (Table 16-1). -/
structure Event where
  seq : Nat
  code : Nat
  sev : Nat
  kind : Nat
  step : Nat
  time : FabricTime
  src : Nat
  a : Nat
  b : Nat
  c : Nat
  deriving DecidableEq, Repr

/-- The Strongbox's event log and alert (R352, R355). -/
structure EventLog where
  /-- records held, newest first, at most 4,096 of 48 bytes; [16 R352]; none -/
  recs : List Event := []
  /-- latest sequence; U32; [16 R352]; 0 -/
  latest : Nat := 0
  /-- records overwritten; U64; [16 R352]; 0 -/
  lost : Nat := 0
  /-- acknowledged sequence; U32; [16 R355]; 0 -/
  acked : Nat := 0
  /-- sequence of the latest record of each severity 0 to 3, 0 for none; U32; [16 R355]; 0 -/
  bySev : Tab Nat := {}
  /-- log read sequence; U32; [16 Table 16-8]; 0 -/
  readSeq : Nat := 0
  /-- step of the last record of each rate-limited code and source; [16 R352]; none -/
  windows : Tab (Option Nat) := {}
  /-- boot events queued until the Attic starts: code, source, A, B, C; [15 R349]; none -/
  queued : List (Nat × Nat × Nat × Nat × Nat) := []
  deriving DecidableEq, Repr

/-! ## The Inventory (chapter 14) -/

/-- The value of an item of a response: a number, or a digest named by what it is taken over, so that a response is
plain data whose digest is computed only by a reader (R320). -/
inductive RVal where
  | num (n : Nat)
  | deviceDigest (base : Tab Nat) (mac : Nat)
  | regionDigest (r : Nat) (base : Tab Nat) (mac : Nat)
  | indexDigest (i : Nat) (base : Tab Nat) (mac : Nat)
  deriving DecidableEq, Repr

/-- A transaction that is open (R308). -/
structure Trans where
  /-- transaction ID; 1 to 65,535 -/
  id : Nat
  /-- session that opened it (0: none) -/
  session : Nat
  /-- staged values, by address index × 256 + subindex: value and length in bytes; at most 1 MiB -/
  staged : Tab (Option (Nat × Nat)) := {}
  deriving DecidableEq, Repr

/-- A sealed commit that has not yet applied (R312). -/
structure Sealed where
  /-- commit step; U64 -/
  step : Nat
  /-- transaction -/
  trans : Nat
  /-- session of the request -/
  session : Nat
  /-- staged values by address -/
  staged : List (Nat × Nat)
  /-- broadcast stamp, epoch and sequence; [16 R370] -/
  stamp : Option (Nat × Nat)
  /-- device digest in force from its step, as recorded at its seal; [14 R312, 16 R370] -/
  digest : RVal
  deriving DecidableEq, Repr

/-- The result of a COMMIT (0xF000:0A). -/
structure CommitResult where
  status : Nat := 0
  index : Nat := 0
  sub : Nat := 0
  step : Nat := 0
  deriving DecidableEq, Repr

/-- One item of a response (Table 14-9). -/
structure RespItem where
  index : Nat
  sub : Nat
  status : Nat
  type : Nat := 0
  len : Nat := 0
  value : Option RVal := none
  deriving DecidableEq, Repr

/-- The body of a response or of a message the device sends (Table 14-9, R356, R389). -/
inductive Body where
  | items (l : List RespItem)
  | status (s : Nat)
  | commit (status index sub step : Nat) (digest : RVal)
  | state (step clock opens : Nat) (sealed : List Nat) (digest : RVal)
  | notice (recs : List Event)
  | telemetry (kind step offset : Nat) (data : List Byte)
  deriving DecidableEq, Repr

/-- A message the device sends to a peer: type, tag, transaction and item count of its header, and its body. -/
structure Message where
  type : Nat
  tag : Nat
  trans : Nat
  count : Nat
  body : Body
  deriving DecidableEq, Repr

/-- A response kept for a repeat of its request (R326). -/
structure Stored where
  src : Nat
  lane : Option Nat
  tag : Nat
  time : FabricTime
  resp : Message
  deriving DecidableEq, Repr

/-- The fabric and ring records whose digests hellos carry (Table 14-7). -/
structure FabricRecord where
  period : Nat := 8
  plane : Nat := 0
  anchorStep : Nat := 0
  anchorTime : Nat := 0
  etherType : Nat := 0x88B5
  label : Nat := 0
  halls : Nat := 1
  dateLine : Nat := 0
  spine : Nat := 0
  deriving DecidableEq, Repr

/-- The Inventory service and the configuration. -/
structure Inv where
  /-- committed base values by address, listed where they differ from the default; every RW-STAGED entry; [14 R317]; defaults -/
  base : Tab Nat := {}
  /-- value in force of an entry whose committed QUIESCE or COLD value is not yet in force; [14 R306, R313]; none -/
  held : Tab (Option Nat) := {}
  /-- step of the commit that left each held value pending; U64; [14 R311]; none -/
  heldBy : Tab Nat := {}
  /-- RW IMMEDIATE entries by address, listed where they differ from the default; [14 R306]; defaults -/
  imm : Tab Nat := {}
  /-- open transactions, at most four; [14 R308]; none -/
  trans : List Trans := []
  /-- last transaction ID given; U16; [14 R308]; 0 (DESIGN CHOICE: IDs are given in rising order) -/
  lastTrans : Nat := 0
  /-- sealed commits not yet applied, ascending, at most 16; [14 R310]; none -/
  sealed : List Sealed := []
  /-- the last 16 transactions closed by a COMMIT, newest first: ID, result, digest returned; [14 R310]; none -/
  closed : List (Nat × CommitResult × RVal) := []
  /-- last commit result; 16 bytes; [14 Table 14-11]; 0 -/
  result : CommitResult := {}
  /-- digest change step; U64; [14 R313]; 0 -/
  changeStep : Nat := 0
  /-- record whose digests are in force; [14 R321]; of the defaults -/
  fabricRec : FabricRecord := {}
  /-- record they replaced; [14 R322]; of the defaults -/
  prevRec : FabricRecord := {}
  /-- the last 64 responses, newest first; [14 R326]; none -/
  stored : List Stored := []
  /-- broadcast record: current epoch, highest sequence applied, its commit step; [16 R370]; 0 -/
  epoch : Nat := 0
  seqApplied : Nat := 0
  seqStep : Nat := 0
  /-- device digest recorded at the seal of that commit; [16 R370]; none -/
  seqDigest : RVal := .num 0
  /-- COLD values committed and not yet stored in flash, in the Strongbox's SRAM; [15 R333]; none -/
  coldDue : List (Nat × Nat) := []
  /-- context refusal detail (0x6000:05); 16 bytes; [08 R171]; 0 -/
  ctxRefusal : Nat := 0
  deriving DecidableEq, Repr

/-! ## The Attic and the Strongbox (chapter 15) -/

/-- The state of a management session (R345). -/
structure Session where
  /-- session ID, 1 to 65,535 -/
  id : Nat
  /-- open (SA verified) or half open -/
  isOpen : Bool := false
  /-- authority: 0 recovery key, 1 to 8 list position, 0xFF one-way -/
  authority : Nat := 0xFF
  /-- the peer's static public key; 64 bytes -/
  key : Nat := 0
  /-- the peer's ephemeral point and the device's own; 64 bytes each; [15 R345] -/
  ra : Nat := 0
  rb : Nat := 0
  /-- the key K that both sides derive, and the value that SA must equal; 256 bits each; [15 R345]; 0 -/
  shared : Nat := 0
  sa : Nat := 0
  /-- peer identity; U64 -/
  peer : Nat := 0
  /-- source ID and arrival lane of the peer (none: management port) -/
  src : Nat := 0xFFFFFF
  lane : Option Nat := none
  /-- highest sequence accepted; up to 2³² -/
  rxHigh : Nat := 0
  /-- sequences accepted among the 64 below it; [15 R347] -/
  rxSeen : List Nat := []
  /-- next sequence sent -/
  txNext : Nat := 1
  /-- records received, sent, discarded; U64, U64, U32 -/
  received : Nat := 0
  sent : Nat := 0
  dropped : Nat := 0
  /-- notice subscription: least severity; [16 R356] -/
  notices : Option Nat := none
  /-- sequence of the last record sent in a notice -/
  noticed : Nat := 0
  /-- telemetry subscription; [17 R389] -/
  telemetry : Nat := 0
  deriving DecidableEq, Repr

/-- Attic status (0xC000:01), and held in reset in BOOT-FAILED or before boot. -/
inductive AtticState where
  | off | starting | running | restarting
  deriving DecidableEq, Repr

/-- An attestation report (Table 15-10): bytes 0 to 191, what its two digests are taken over, and bytes 256 to 287. -/
structure Report where
  head : Nat
  base : Tab Nat
  mac : Nat
  record : FabricRecord
  tail : Nat
  deriving DecidableEq, Repr

/-- The Attic and the volatile half of the Strongbox. -/
structure Attic where
  /-- Attic status; ENUM; [15 Table 15-13]; off until boot step 8 -/
  state : AtticState := .off
  /-- boot sequence position, Table 15-5: the last step finished, 0 before; [15 R339]; 0 -/
  bootStep : Nat := 0
  /-- BOOT-FAILED; [15 R337]; no -/
  bootFailed : Bool := false
  /-- BOOT-FAILED seen since power-up, which outlives the cold reset that leaves it; [15 Table 15-13]; no -/
  failSeen : Bool := false
  /-- fabric clocks and rails allow running: held in cold reset; [18 R397, R398]; held -/
  holding : Bool := true
  /-- a cold reset starts after the response leaves; [15 R350]; no -/
  resetDue : Bool := false
  /-- an Attic restart starts after the response leaves; [15 R350]; no -/
  restartDue : Bool := false
  /-- a life-cycle request whose commit step has come and whose transition has not run; [15 R343]; none -/
  lifeDue : Option Nat := none
  /-- first watchdog stage has expired without service; [15 R331]; no -/
  dogBarked : Bool := false
  /-- Attic restarts since the last cold reset; U32; [15 Table 15-13]; 0 -/
  restarts : Nat := 0
  /-- last restart cause; ENUM; [15 Table 15-13]; 0 -/
  cause : Nat := 0
  /-- cause of the restart in progress; ENUM; [15 R332]; 0 -/
  causeNow : Nat := 0
  /-- slot booted last, 0 A, 1 B; [15 R337]; 0 -/
  slot : Nat := 0
  /-- running a trial image that is not confirmed; [15 R338]; no -/
  trial : Bool := false
  /-- boot record: failover, failure codes of slots A and B, microseconds to release, build identifier; 32 bytes; [15 R336]; 0 -/
  failover : Bool := false
  codeA : Nat := 0
  codeB : Nat := 0
  bootUs : Nat := 0
  build : Nat := 0
  /-- security version and signing key slot of the running image; [15 Table 15-12]; 0 -/
  imageVersion : Nat := 0
  imageKeySlot : Nat := 0
  /-- SM3 of the header and body of the image of the latest load, and of the configuration copy taken; [15 Table 15-10]; 0 -/
  headerMeas : Nat := 0
  bodyMeas : Nat := 0
  configMeas : Nat := 0
  /-- headers of slots A and B as read at the last load; 2 × 512 bytes; [15 Table 15-13]; 0 -/
  headerA : Nat := 0
  headerB : Nat := 0
  /-- Attic memory errors corrected, uncorrectable; 2 × U64; [15 Table 15-13]; 0 -/
  memCorrected : Nat := 0
  memFatal : Nat := 0
  /-- sessions, at most eight; [15 R346]; none -/
  sessions : List Session := []
  /-- last session ID given; U16; [15 R344]; 0 (DESIGN CHOICE: rising order) -/
  lastSession : Nat := 0
  /-- attestation: report status, nonce pending, report, reports made; [15 R348]; none, 0 -/
  reportStatus : Nat := 0
  nonce : Nat := 0
  report : Option Report := none
  reports : Nat := 0
  /-- refused fuse writes since cold reset; [15 R340]; 0 -/
  fuseFailures : Nat := 0
  /-- identity as derived at boot: node identity and public key; U64, 64 bytes; [15 R341]; 0 before boot step 2 -/
  nodeId : Nat := 0
  pubKey : Nat := 0
  /-- INITs answered, to number the ephemeral points; (the model's own); 0 -/
  inits : Nat := 0
  deriving DecidableEq, Repr

/-! ## Telemetry (chapter 17) -/

/-- A snapshot record (R378): the freeze copy of the Tally and of the copied entries. -/
structure Snap where
  step : Nat
  valid : Bool := true
  clock : Nat
  time : FabricTime
  tally : Tab Nat
  entries : List (Nat × Nat)
  base : Tab Nat
  mac : Nat
  deriving DecidableEq, Repr

/-- Per-lane and per-Crate material of a congestion map at the end of one step (R387). -/
structure MapStep where
  step : Nat
  /-- transmit and receive busy fractions by lane, as parts of `wholeStep` -/
  tx : Tab Nat
  rx : Tab Nat
  /-- greatest queued flits and the deepest virtual channel, by lane -/
  deep : Tab (Nat × Nat)
  /-- frames sent, sent with CE set by this device, and replayed, by lane -/
  sent : Tab (Nat × Nat × Nat)
  /-- least free cells and least free queue entries, by Crate -/
  least : Tab (Nat × Nat)
  /-- cycles and issue slots removed by derates, by Crate, at the step's beginning and at its end -/
  begins : Tab (Nat × Nat)
  ends : Tab (Nat × Nat)
  /-- time run at the step's beginning and at its end, 2⁻³² ns -/
  from_ : Nat
  till : Nat
  /-- reserved write rate by stack, in 1/48 MB/s (R237) -/
  reserved : Tab Nat
  deriving DecidableEq, Repr

/-- A congestion map (Table 17-7): its end step and window, and the steps it covers. -/
structure CMap where
  endStep : Nat
  window : Nat
  /-- bytes 20 to 31 of the header: node identity, plane, hall, spine index -/
  place : Nat := 0
  valid : Bool := true
  steps : List MapStep
  ports : List (Nat × Nat)
  deriving DecidableEq, Repr

/-- What a tagged item is followed by (R385): the eight stage times, none where the item never reached one. -/
structure Tagged where
  /-- 1 frame, 2 chunk round -/
  kind : Nat
  /-- the Crate that follows it -/
  crate : Nat
  /-- frame handle, or the key of the chunk group and round -/
  key : Nat
  tc : Nat := 0
  h : Nat := 0
  phase : Nat := 0
  lane : Nat := 0
  egress : Option Nat := none
  size : Nat := 0
  nameA : Nat := 0
  nameB : Nat := 0
  t0 : FabricTime := 0
  stages : Tab (Option Nat) := {}
  outcome : Nat := 0
  /-- a chunk round whose emission is written: its key is then the handle of the emission's last frame -/
  sent : Bool := false
  deriving DecidableEq, Repr

/-- A sample record (Table 17-6) in the sample ring, with its index. -/
structure Sample where
  index : Nat
  item : Tagged
  /-- cleared by an uncorrectable archive error (R386) -/
  valid : Bool := true
  deriving DecidableEq, Repr

/-- Telemetry state. -/
structure Telemetry where
  /-- Tally counters by code × 2,048 + source; U64 each; [17 R374]; 0 -/
  tally : Tab Nat := {}
  /-- named snapshot requests not yet passed; [17 R377]; none -/
  named : List Nat := []
  /-- freeze copy being written; [17 R377]; none -/
  freeze : Option Snap := none
  /-- snapshot ring, newest first; [17 R379]; none -/
  ring : List Snap := []
  /-- latest snapshot step; U64; [17 Table 17-10]; 0 -/
  latest : Nat := 0
  /-- snapshots taken, skipped, invalid; U64 each; [17 Table 17-10]; 0 -/
  taken : Nat := 0
  skipped : Nat := 0
  invalid : Nat := 0
  /-- sample ring write index; U64; [17 R386]; 0 -/
  writeIndex : Nat := 0
  /-- sample records held, newest first; [17 R386]; none -/
  samples : List Sample := []
  /-- frames tagged, chunks tagged, frame tags skipped, chunk tags skipped; U64 each; [17 R385]; 0 -/
  framesTagged : Nat := 0
  chunksTagged : Nat := 0
  frameSkips : Nat := 0
  chunkSkips : Nat := 0
  /-- items followed; at most 64 per Crate; [17 R385]; none -/
  items : List Tagged := []
  /-- map requests not yet passed; [17 R387]; none -/
  mapReqs : List Nat := []
  /-- map material of the latest steps, newest first; [17 R387]; none -/
  mapSteps : List MapStep := []
  /-- the four newest maps, newest first; [17 R387]; none -/
  maps : List CMap := []
  /-- records made while the Attic runs and not yet sent: kind (1 snapshot, 2 map) and step, oldest first; [17 R389]; none -/
  toSend : List (Nat × Nat) := []
  deriving DecidableEq, Repr

/-! ## The Cellar (chapter 10) -/

/-- Stack status (0x9010+k:03). -/
inductive StackState where
  | wiping | ready | failed
  deriving DecidableEq, Repr

/-- One Cellar stack (R228 to R245). -/
structure Stack where
  /-- stack status; ENUM; [10 Table 10-5]; WIPING -/
  status : StackState := .wiping
  /-- errors corrected, uncorrectable, scrub passes completed; 3 × U64; [10 Table 10-5]; 0 -/
  corrected : Nat := 0
  fatal : Nat := 0
  passes : Nat := 0
  /-- next burst the scrubber reads, of 2²⁹ in 32 GiB; [10 R241]; 0 -/
  scrubAt : Nat := 0
  /-- engine adds, read-clears; U64; [10 Table 10-5]; 0 -/
  adds : Nat := 0
  readClears : Nat := 0
  /-- KiB of the spill partition reserved by spill groups; [10 R238]; 0 -/
  spillUsed : Nat := 0
  /-- spill groups reserved now; [10 Table 10-5]; 0 -/
  spillGroups : Nat := 0
  /-- stalled flags of the channel arbiter; [10 R245]; clear -/
  stalled : List Nat := []
  deriving DecidableEq, Repr

/-! ## Hatches and optical links (chapter 11) -/

/-- Ring loop states (Table 11-5). -/
inductive LoopState where
  | off | sweep | acquire | verify | track | hold | fault
  deriving DecidableEq, Repr

/-- One ring loop (R250 to R256). -/
structure Loop where
  /-- loop state; Table 11-5; [11 R250]; OFF -/
  state : LoopState := .off
  /-- heater power, µW; 0 to 48,000; [11 Table 11-5]; 0 -/
  heater : Nat := 0
  /-- candidates still to be tried, heater powers in µW in the order of trial; [11 R251]; none -/
  cands : List Nat := []
  /-- consecutive updates with a detuning above 8 GHz; [11 R253]; 0 -/
  badRun : Nat := 0
  /-- temperature that feed-forward last predicted at the ring, 2⁻¹⁶ °C, signed; [11 R256]; 0 -/
  pred : Int := 0
  /-- change of that prediction in the last update of 1 µs, 2⁻¹⁶ °C; [11 R253]; 0 -/
  rate : Int := 0
  /-- part of the correction that is below the heater's step of 1 µW, 2⁻¹⁶ µW; [11 R256]; 0 -/
  rest : Int := 0
  /-- the heater has reached 0 or 48 mW in TRACK and stays there; [11 R253]; no -/
  atLimit : Bool := false
  /-- a re-verification is running; [11 R253]; no -/
  reverify : Bool := false
  /-- a re-verification is due and waits for the temperature to steady; [11 R253]; no -/
  reverifyDue : Bool := false
  deriving DecidableEq, Repr

/-- The optical side of a lane. -/
structure Optics where
  /-- loop of the modulator ring; [11 R250]; OFF -/
  modl : Loop := {}
  /-- loop of the drop ring; [11 R250]; OFF -/
  drop : Loop := {}
  /-- light at the drop ring; [11 R254]; none -/
  light : Bool := false
  /-- received power, 0.01 dBm, I16; [11 R267]; 0 -/
  power : Nat := 0
  /-- receive status 0 DARK to 4 LOCKED; [11 Table 11-9]; 0 -/
  status : Nat := 0
  /-- low-warning and low-alarm conditions; [11 R267]; clear -/
  warn : Bool := false
  alarm : Bool := false
  /-- codewords, corrected, uncorrectable, corrected bits, PCS lock losses; 5 × U64; [11 R268]; 0 -/
  codewords : Nat := 0
  corrected : Nat := 0
  uncorrectable : Nat := 0
  corrBits : Nat := 0
  lockLosses : Nat := 0
  /-- last BER estimate, 10⁻¹⁸; U64; [11 R268]; 0 -/
  ber : Nat := 0
  deriving DecidableEq, Repr

/-- State of a spare laser (0x3020+L:07). -/
inductive SpareState where
  | parked | tuning | active | failed
  deriving DecidableEq, Repr

/-- One spare: its state and, when ACTIVE or TUNING, its grid channel. -/
structure Spare where
  state : SpareState := .parked
  chan : Nat := 0
  deriving DecidableEq, Repr

/-- Where a sparing stands (R260). -/
inductive SparingStage where
  | tuning | verifying | relocking
  deriving DecidableEq, Repr

/-- A laser source module with its input (R257 to R261). -/
structure Module where
  /-- module status 0 ABSENT to 3 FAULT; [11 Table 11-11]; ABSENT -/
  status : Nat := 0
  /-- LSE_EN of the module; [18 R412]; low -/
  enable : Bool := false
  /-- LSE_PRS_N says that a module is present; [18 R412]; no (DESIGN CHOICE) -/
  present : Bool := false
  /-- source of grid channels 0 to 7: 0–7 own, 8 spare A, 9 spare B, 0xFF none; [11 Table 11-11]; 0x00–0x07 -/
  source : List Nat := [0, 1, 2, 3, 4, 5, 6, 7]
  /-- line powers of the grid channels, 0.01 dBm, I16; [11 R258]; 0 -/
  line : List Nat := [0, 0, 0, 0, 0, 0, 0, 0]
  /-- bias of the channels, in module steps from where the module's initialisation left it; [11 R258]; 0 -/
  bias : List Int := [0, 0, 0, 0, 0, 0, 0, 0]
  /-- channels declared failed, as a bitmap; [11 R259]; none -/
  failed : Nat := 0
  /-- channels disabled on the module, as a bitmap; [11 R260]; none -/
  disabled : Nat := 0
  /-- spare A and spare B; [11 Table 11-11]; PARKED -/
  spareA : Spare := {}
  spareB : Spare := {}
  /-- failed channels that are not spared, oldest first; [11 R260, R261]; none -/
  waiting : List Nat := []
  /-- channels whose sparing a spare command asks for, as a bitmap; [11 R260, R261]; none -/
  commanded : Nat := 0
  /-- channels whose return command waits for the Attic; [11 R246, R261]; none -/
  returns : List Nat := []
  /-- the module reports a fault that the Attic has not read; [11 R246, R269]; no -/
  alarm : Bool := false
  /-- sparing in progress: channel, spare (0 A, 1 B) and stage; [11 R260]; none -/
  sparing : Option (Nat × Nat × SparingStage) := none
  deriving DecidableEq, Repr

/-- One Hatch. -/
structure Hatch where
  /-- the laser modules are enabled and calibration has started; [11 R266]; no -/
  started : Bool := false
  /-- every loop that is not OFF has reached TRACK or FAULT since; [11 R266]; no -/
  calibrated : Bool := false
  /-- the four sensors have all read 35 °C, so loops may leave OFF; [18 R409]; no -/
  warm : Bool := false
  /-- sensors, 1/16 °C, 4 × I16; [11 Table 11-11]; 0 -/
  sensors : List Nat := [0, 0, 0, 0]
  /-- last activity word of each of the 16 Crates; [11 R256]; 0 -/
  activity : Tab Nat := {}
  deriving DecidableEq, Repr

/-! ## Power and heat (chapter 18) -/

/-- Pins and rails as the board holds them. -/
structure Board where
  /-- RESET_N as the board drives it; [18 R397]; low (DESIGN CHOICE: the state after a cold reset, before release) -/
  resetN : Bool := false
  /-- rails out of range, by number in Table 18-1; [18 R398]; none -/
  railsOut : List Nat := []
  /-- power is on; [18 R396]; on -/
  powered : Bool := true
  /-- THERMTRIP_N held low; [18 R407]; no -/
  thermtrip : Bool := false
  /-- both reference clocks were lost: waiting for both; [18 R400]; no -/
  clocksOut : Bool := false
  deriving DecidableEq, Repr

/-- Frequency, power and heat of the Crates (R404 to R406). -/
structure Power where
  /-- package power, W; U16; [18 Table 18-9]; 0 -/
  watts : Nat := 0
  /-- rail powers, mW, in the order of Table 18-1; 9 × U32; [18 Table 18-9]; 0 -/
  rails : List Nat := []
  /-- cap frequency, MHz; U16; [18 R405]; 1,800 -/
  cap : Nat := 1800
  /-- the cap binds; [18 R405]; no -/
  capBinds : Bool := false
  deriving DecidableEq, Repr

end Sys2Proof.Machine
end

