-- ==== Sys2Proof/Machine/Path.lean ====
section
/-! DEFINITION. The pieces of the machine's state on the data path: stored frames, queues, egress schedulers and shapers,
flow contexts, route versions, and the messages in flight in the mesh. -/

namespace Sys2Proof.Machine

/-- The account of a slice that holds a frame (R76, R234). -/
inductive Account where
  /-- positions of an ingress ring of a lane -/
  | ring (lane vc : Nat)
  /-- cells of the shared pool -/
  | shared
  /-- cells of the result account; an upward contribution counts against its context's share (R217) -/
  | result
  /-- cells of the Attic account -/
  | attic
  deriving DecidableEq, Repr

/-- What a RESULT serves (R95, R188): its context, generation, chunk and the context's home Crate. -/
structure ResultOf where
  ctx : Nat
  gen : Nat
  chunk : Nat
  home : Nat
  deriving DecidableEq, Repr

/-- The frame record of a frame sent by multicast (R92, R120). -/
structure MRecord where
  /-- replies still to come; 0 to 128; [04 R92] -/
  pending : Nat
  /-- copies enqueued and not yet released or skipped; [04 R94] -/
  refs : Nat
  /-- group of the pass now running; [05 R120] -/
  group : Nat
  /-- ring role excluded from the pass: 0 none, 2 ring-east, 3 ring-west; [05 R120] -/
  excluded : Nat := 0
  /-- column group still to be sent after the row pass; [05 R120] -/
  next : Option Nat := none
  /-- a member port in service was found, so the group is not empty; [04 R94]; no -/
  served : Bool := false
  deriving DecidableEq, Repr

/-- A frame held in a slice (R75), under a handle that stands for its cell address or ring position. -/
structure Held where
  /-- the frame, without a MAC header (R46); its correction is the correction in of Table 13-1 -/
  frame : Frame
  /-- holding Crate; [04 R75] -/
  crate : Nat
  /-- ingress lane, none for a frame the device originates -/
  lane : Option Nat
  /-- virtual channel it travels on within the device: class and half (R27, R28) -/
  vc : Nat
  /-- account that holds it; [04 R76] -/
  account : Account
  /-- start time of its residence; 80 bits; [13 Table 13-1] -/
  start : FabricTime
  /-- its tail has arrived; [04 R89] -/
  whole : Bool := false
  /-- it is bad; [04 R91] -/
  bad : Bool := false
  /-- marked by the policer, so CE is set at E3; [06 R142] -/
  mark : Bool := false
  /-- multicast frame record; [04 R92] -/
  mrec : Option MRecord := none
  /-- what a RESULT serves -/
  res : Option ResultOf := none
  /-- upward contribution of a context: (context, chunk, ring link group), kept until no CNACK can ask for it (R216) -/
  upward : Option (Nat × Nat × Nat) := none
  /-- a CNACK asked for that contribution again before its copy had gone; [09 R216]; no -/
  again : Bool := false
  /-- timestamp request tag of a frame the Attic sends; [13 R288] -/
  stampTag : Option Nat := none
  /-- one-step insert offset; [13 R288] -/
  insert : Option Nat := none
  /-- released by its egress Crate or consumer; the release is on its way or done -/
  gone : Bool := false
  deriving DecidableEq, Repr

/-- An entry of an output queue (R83). -/
structure QEntry where
  held : Nat
  flits : Nat
  multi : Bool := false
  /-- the marking decision (R128) -/
  mark : Bool := false
  /-- its place in the order in which entries came to the lane (R96) -/
  at_ : Nat := 0
  deriving DecidableEq, Repr

/-- The colour a shaper gives a head frame: not permitted, yellow, or green (R137, R138). -/
inductive Colour where
  | red | yellow | green
  deriving DecidableEq, Repr

/-- The frame that a lane has claimed or selected and not yet started (R87, R131). -/
structure Sel where
  held : Nat
  flits : Nat
  vc : Nat
  multi : Bool
  mark : Bool
  /-- a claimed push; otherwise the head of its queue -/
  claimed : Bool
  /-- its flits stream in: the pull has reached the holding Crate, or it was pushed -/
  pulled : Bool := false
  /-- its last flit has entered the replay buffer and the release has gone -/
  done : Bool := false
  /-- the colour of its charge as it was chosen; [06 R137, R138] -/
  colour : Colour := .green
  deriving DecidableEq, Repr

/-- The frame now in transmission on a lane. -/
structure Tx where
  held : Nat
  vc : Nat
  seq : Nat
  multi : Bool
  /-- the header as rewritten at E3, with extension and payload -/
  frame : Frame
  /-- transmit timestamp; 80 bits; [13 R285] -/
  start : FabricTime
  charge : Nat
  /-- its last flit has entered the replay buffer -/
  done : Bool
  /-- this device set its CE -/
  marks : Bool := false
  /-- it was bad when its last flit entered the replay buffer; [03 R61] -/
  bad : Bool := false
  deriving DecidableEq, Repr

/-- One queue shaper (R136 to R140). -/
structure Shaper where
  /-- shaper record installed; 20 bytes; [06 Table 06-1]; kind 0 -/
  record : Nat := 0
  /-- credit or Tc, with 16 fractional bits, signed; [06 R137, R138]; 0 -/
  c : Int := 0
  /-- Tp, with 16 fractional bits, signed; [06 R138]; 0 -/
  p : Int := 0
  /-- both counts as the last refill left them; [06 Table 06-3]; 0 -/
  atRefill : Int × Int := (0, 0)
  deriving DecidableEq, Repr

/-- The egress side of a lane (R83, R131 to R140, R380, R381). -/
structure Egress where
  /-- the 16 output queues, head first; [04 R83]; empty -/
  queues : Tab (List QEntry) := {}
  /-- place of the next entry in the order of arrival at the lane; (the model's own); 0 -/
  nextAt : Nat := 0
  /-- frame claimed or selected; [06 R131]; none -/
  sel : Option Sel := none
  /-- frame in transmission; none -/
  cur : Option Tx := none
  /-- the lane is open; [04 R86]; no -/
  isOpen : Bool := false
  /-- virtual time V; U64; [06 R133]; 0 -/
  v : Nat := 0
  /-- last finish tags by virtual channel; U64; [06 R133]; 0 -/
  fLast : Tab Nat := {}
  /-- finish tag of each queue's head; [06 R133]; none -/
  tags : Tab (Option Nat) := {}
  /-- marking generator; U16; [05 R128]; 0xACE1 -/
  gen : Nat := 0xACE1
  /-- shapers by virtual channel; [06 R136]; kind 0 -/
  shapers : Tab Shaper := {}
  /-- fabric time of the last refill, 2⁻¹⁶ ns; [06 R139]; 0 -/
  refilled : FabricTime := 0
  /-- lane traffic counts: 4 × class + (frames in, bytes in, frames out, bytes out); U64; [17 R380]; 0 -/
  traffic : Tab Nat := {}
  /-- peak queued flits by virtual channel since the last snapshot; U32; [17 Table 17-4]; 0 -/
  peaks : Tab Nat := {}
  /-- frames replayed; U64; [17 Table 17-4]; 0 -/
  replayed : Nat := 0
  /-- frames sent with CE set by this device; U64; [17 Table 17-4]; 0 -/
  marked : Nat := 0
  /-- charge bytes sent and received in the step now running; [09 R222]; 0 -/
  stepTx : Nat := 0
  stepRx : Nat := 0
  /-- transmit and receive busy fraction of the last ended step, as a part of `wholeStep`; [09 R222]; 0 -/
  busyTx : Nat := 0
  busyRx : Nat := 0
  /-- the same two fractions as of the last boundary, before order 6 of Table 13-5 puts them in their place; [13 R300]; 0 -/
  endTx : Nat := 0
  endRx : Nat := 0
  /-- most flits queued at once in the step now running, all channels together, and the deepest channel then; [17 R387]; 0 -/
  stepDeep : Nat := 0
  stepDeepVc : Nat := 0
  /-- frames sent, marked and replayed in the step now running; [17 R387]; 0 -/
  stepSent : Nat := 0
  stepMarked : Nat := 0
  stepReplayed : Nat := 0
  /-- grants of the egress arbiter by record (VCs 0 to 15, then claimed pushes); U64; [04 Table 04-6]; 0 -/
  grants : Tab Nat := {}
  /-- stalled flags of the egress arbiter's records; [04 Table 04-5]; clear -/
  stalled : List Nat := []
  deriving DecidableEq, Repr

/-- A message in flight between Crates (Table 04-4). -/
inductive Msg where
  /-- the head of a pushed frame, to its egress lane (VN2 or VN3) -/
  | push (held lane : Nat) (mark : Bool)
  /-- a unicast descriptor, to the Crate of its lane -/
  | desc (held lane : Nat) (mark : Bool)
  /-- a defer reply of an egress Crate: for a unicast descriptor of a lane, or for a multicast descriptor -/
  | deferReply (held egress : Nat) (lane : Option Nat) (mark : Bool)
  /-- free entries announced by an egress Crate to a holding Crate -/
  | announce (egress holder : Nat)
  /-- a pull, from the egress lane to the holding Crate (VN0) -/
  | pull (held lane : Nat)
  /-- the release of a frame's copy from a Crate, to its holding Crate -/
  | release (held src : Nat)
  /-- the skip of a multicast copy from a Crate, to its holding Crate -/
  | skip (held src : Nat)
  /-- a multicast descriptor and the Crates it has not yet reached, as a 128-bit map: a broadcast, or one sent again to a
  single Crate -/
  | mdesc (held : Nat) (crates : Nat) (again : Bool)
  /-- a Crate's reply to a multicast descriptor with its copy count -/
  | reply (held copies src : Nat)
  /-- a member-absent notice to a home Crate -/
  | memberAbsent (home ctx gen chunk port : Nat)
  /-- a change of a lane's open bit and the Crates it has not yet reached, as a 128-bit map -/
  | openBit (lane : Nat) (isOpen : Bool) (crates : Nat)
  deriving DecidableEq, Repr

/-- A descriptor that waits at its holding Crate for a Crate's free entries (R83, R85). -/
structure Wait where
  holder : Nat
  egress : Nat
  vc : Nat
  held : Nat
  /-- lane of a unicast descriptor; none for a multicast descriptor -/
  lane : Option Nat
  mark : Bool
  /-- it has been sent again and its answer has not come -/
  sent : Bool := false
  deriving DecidableEq, Repr

/-- A flow context (Table 06-2). -/
structure Flow where
  cir : Nat := 0
  pir : Nat := 0
  cbs : Nat := 0
  pbs : Nat := 0
  tc : Int := 0
  tp : Int := 0
  /-- fabric time in ns -/
  last : Nat := 0
  enable : Bool := false
  actG : Nat := 0
  actY : Nat := 0
  actR : Nat := 0
  nG : Nat := 0
  nY : Nat := 0
  nR : Nat := 0
  /-- struck by an uncorrectable Cellar error; [10 Table 10-2] -/
  poison : Bool := false
  deriving DecidableEq, Repr

/-- A fetch of a flow context that is outstanding (R143): index and the charges that joined it. -/
structure Fetch where
  index : Nat
  charges : List Nat
  deriving DecidableEq, Repr

/-- The data path of one Crate. -/
structure CratePath where
  /-- cells of the shared pool in use; [04 R80]; 0 -/
  shared : Nat := 0
  /-- least free cells of the shared pool noted since the last clear; U16; [04 Table 04-8]; none: those now free -/
  sharedLow : Option Nat := none
  /-- most cells and most queue entries in use at once in the step now running; [17 R387]; 0 -/
  stepCells : Nat := 0
  stepEntries : Nat := 0
  /-- cells of the result account in use; [04 R81]; 0 -/
  result : Nat := 0
  /-- cells of the Attic account in use; [04 R81]; 0 -/
  attic : Nat := 0
  /-- queue entries in use; [04 R83]; 0 of 16,384 -/
  entries : Nat := 0
  /-- queue entries in use by TC0 and TC1; [04 R83]; 0 -/
  lossy : Nat := 0
  /-- spray pointers of the ingress Crate by egress port, one more than the lane (0: at rest); [05 R112]; at rest -/
  spray : Tab Nat := {}
  /-- spray pointers by ring direction and link group, one more than the port (0: at rest); [05 R113]; at rest -/
  sprayGroup : Tab Nat := {}
  /-- open map: lanes whose open bit is set here; [04 R86]; none -/
  openMap : Tab Bool := {}
  /-- Crates that have frames deferred here and await an announcement; [04 R83]; none -/
  owed : List Nat := []
  /-- cached flow contexts, most recently used first within the whole list: index and context; [06 R143]; none -/
  cache : List (Nat × Flow) := []
  /-- fetches outstanding; [06 R143]; none -/
  fetches : List Fetch := []
  /-- cache hits, misses, fetch overflows, write-backs; U64; [06 Table 06-3]; 0 -/
  hits : Nat := 0
  misses : Nat := 0
  overflows : Nat := 0
  writeBacks : Nat := 0
  /-- tag generator; 32 bits; [17 R383]; 0 until boot seeds it -/
  tagGen : Nat := 0
  /-- grants of the Larder write, mesh router and Larder read arbiters since the last clear, by arbiter × 128 + requester; U64;
  [04 R101]; 0 -/
  grants : Tab Nat := {}
  /-- stalled flags of those arbiters' records; [04 R100]; clear -/
  stalled : List Nat := []
  deriving DecidableEq, Repr

/-- A route table version's state (Table 05-3). -/
inductive VState where
  | idle | prepared | active | draining
  deriving DecidableEq, Repr

/-- The route table versions (R108, R109). Their entries are Inventory entries 0x5100+16v+h. -/
structure Versions where
  /-- state of version 0; [05 R108]; ACTIVE -/
  v0 : VState := .active
  /-- state of version 1; [05 R108]; IDLE -/
  v1 : VState := .idle
  /-- retirement step, 0 when no version is DRAINING; U64; [05 R109]; 0 -/
  retire : Nat := 0
  deriving DecidableEq, Repr

end Sys2Proof.Machine
end

