-- ==== Sys2Proof/Machine/Ctx.lean ====
section
/-! DEFINITION. The pieces of a collective context's state: chunk groups, rounds and accumulators, shadow groups, held
contributions, mismatch records (chapters 07, 08, 09, 16). -/

namespace Sys2Proof.Machine

/-- Context states (Table 08-3). -/
inductive CtxState where
  | parked | installed | armed | active | draining | faulted
  deriving DecidableEq, Repr

/-- Slot states (Table 08-6). -/
inductive SlotState where
  | released | opened | complete | emitting
  deriving DecidableEq, Repr

/-- One element position of a slot: what the operator keeps there. -/
structure Pos where
  /-- some contribution has reached the position; [09 R197]; no -/
  got : Bool := false
  /-- accumulator of a SUM or of the scaled round; 48, 96 or 192 bits, signed; [07 R153, R158]; 0 -/
  sum : Int := 0
  /-- NaN, +∞ and −∞ flags; [07 R157]; clear -/
  nan : Bool := false
  pinf : Bool := false
  ninf : Bool := false
  /-- best value of MAX, MIN and the maximum round; [09 R198, R201]; none -/
  best : Option Val := none
  /-- pairs of ARGMAX and ARGMIN (one) or of a TOPK-MERGE list (at most k, best first): value bits and index; [09 R199,
  R206]; none -/
  pairs : List (Nat × Nat) := []
  /-- bit pattern of AND, OR and XOR; [09 R200]; none -/
  word : Option Nat := none
  deriving DecidableEq, Repr

/-- A row of an LSE-MERGE chunk (R201 to R205). -/
structure Row where
  /-- M of the row, once its maximum round has emitted; [09 R204]; none -/
  top : Option Val := none
  /-- normaliser accumulator, A192 on the window base −43; [09 R204]; 0 -/
  sum : Int := 0
  /-- NaN flag of the normaliser; [09 R204]; clear -/
  nan : Bool := false
  deriving DecidableEq, Repr

/-- What a contribution does to a sum's timing: its receive timestamp and its correction (Table 13-1). -/
structure Stamped where
  time : FabricTime
  corr : Nat
  deriving DecidableEq, Repr

/-- One round of a chunk group as a Combiner keeps it. -/
structure Round where
  /-- phase of the round: 0 data, 1 count, 2 maximum, 3 scaled; [08 R184, 09 R201]; 0 -/
  phase : Nat := 0
  /-- member bitmap: members added; [08 R179]; empty -/
  members : Nat := 0
  /-- members added, as a count; [08 R186]; 0 -/
  added : Nat := 0
  /-- members excluded after a partial earlier round, as a bitmap; [08 R186]; none -/
  excluded : Nat := 0
  /-- a contribution other than a barrier token was added; [08 R181]; no -/
  data : Bool := false
  /-- element positions; [07 R158]; 0 -/
  pos : List Pos := []
  /-- rows of an LSE-MERGE; [09 R204]; none -/
  rows : List Row := []
  /-- pieces of the movement operators by member: element count and payload; [09 R207, R208]; none -/
  pieces : List (Nat × Nat × List Byte) := []
  /-- counts declared in the count round, by member; [08 R184]; none -/
  declared : List (Nat × Nat) := []
  /-- operand fingerprint: XOR of the fingerprints of the contributions added to the group, in earlier rounds of the chunk too;
  U64; [16 R362]; 0 -/
  finger : Nat := 0
  /-- what the chunk's contributions and emissions have counted, in the order of Table 07-8; 8 × U64; [07 R167]; 0 -/
  counts : List Nat := [0, 0, 0, 0, 0, 0, 0, 0]
  deriving DecidableEq, Repr

/-- A contribution that has passed the checks, on its way into a Combiner. -/
structure Contrib where
  member : Nat
  count : Nat
  phase : Nat
  payload : List Byte
  /-- form it carries: format code and MX -/
  fmt : Nat
  mx : Bool
  at_ : Stamped
  /-- lane it arrived on -/
  lane : Nat
  /-- its frame in a ring of the Larder, until its payload has been consumed (R90); none when it was held -/
  held : Option Nat
  deriving DecidableEq, Repr

/-- What the reducing Crate sends its shadow partner, in order on one path (R361). -/
inductive ShadowMsg where
  | copy (c : Contrib)
  | notice
  deriving DecidableEq, Repr

/-- What two Crates compare at an emission of a shadowed chunk: the operand and the result fingerprint, and the numeric counts
of the chunk so far (R167, R362). -/
structure ShadowVal where
  operand : Nat
  result : Nat
  counts : List Nat
  deriving DecidableEq, Repr

/-- A shadowed chunk (R361, R362): its context, its group, its chunk, and the shadow group on the partner. -/
structure Shadow where
  /-- context, and its install record; [16 R361] -/
  ctx : Nat
  record : Nat
  /-- chunk group (position × 2¹⁷ + group), generation and chunk; [16 R361] -/
  key : Nat
  gen : Nat
  chunk : Nat
  /-- reducing Crate and partner; [16 R361] -/
  crate : Nat
  partner : Nat
  /-- Shelf slots it holds there, 0 once its last round has been computed; [16 R361] -/
  slots : Nat
  /-- plan B is kept with the group; [09 R221] -/
  planB : Bool
  /-- the partner's round -/
  round : Round
  /-- copies and completion notices on their way to the partner, oldest first; [16 R361] -/
  msgs : List ShadowMsg := []
  /-- values of the reducing Crate not yet compared, oldest first: operand and result fingerprint; [16 R362] -/
  own : List ShadowVal := []
  /-- the partner's values on their way back, oldest first; [16 R362] -/
  theirs : List ShadowVal := []
  /-- the chunk has emitted its last result, or was abandoned: only comparisons are left; [16 R362] -/
  ended : Bool := false
  deriving DecidableEq, Repr

/-- A frame that an emission still has to write, and the group it goes to (R184, R207, R208, R218). -/
structure Emit where
  frame : Frame
  group : Nat
  deriving DecidableEq, Repr

/-- A chunk group on its reducing Crate (R176). -/
structure Group where
  /-- slot state; Table 08-6; [08 R177]; RELEASED -/
  state : SlotState := .released
  /-- next chunk (generation, local ordinal); none while it is the first of the arming; [08 R176] -/
  next : Option (Nat × Nat) := none
  /-- generation, ordinal and index of the chunk that occupies it; [08 R176]; 0 -/
  gen : Nat := 0
  ord : Nat := 0
  chunk : Nat := 0
  /-- fabric time at which the slot became OPEN: the straggler timer; [08 R186]; 0 -/
  openAt : FabricTime := 0
  /-- plan B is in force for the chunk; [09 R221]; no -/
  planB : Bool := false
  /-- the present round -/
  round : Round := {}
  /-- emitted as a partial result; [08 R186]; no -/
  part : Bool := false
  /-- start time and correction in of the emission (Table 13-1); [13 R286] -/
  stamp : Stamped := ⟨0, 0⟩
  /-- frames the emission still has to write; [04 R81]; none -/
  emit : List Emit := []
  /-- spilled contributions that the engine has not acknowledged, oldest first; [10 R239]; none -/
  acks : List Stamped := []
  /-- the engine is clearing the abandoned spill group; [10 R239]; no -/
  clearing : Bool := false
  /-- contributions waiting at C1 for slots to be zeroed; [16 R361]; none -/
  waiting : List Contrib := []
  /-- slots of the group still being zeroed; [16 R361]; 0 -/
  zeroing : Nat := 0
  /-- it was emitting when its context was armed anew, so it counts for no generation; [08 R173]; no -/
  stale : Bool := false
  deriving DecidableEq, Repr

/-- Spill groups reserved on a stack for a position, side by side (R238). -/
structure SpillRun where
  /-- position; that of a remap target stands under the position plus 128 -/
  pos : Nat
  stack : Nat
  groups : Nat
  /-- KiB from the top of the spill partition down to the first group -/
  depth : Nat
  deriving DecidableEq, Repr

/-- A collective context that is not FREE (R169 to R189, R215 to R225). -/
structure Context where
  /-- install record, reserved bits 0; 512 bytes; [08 R170] -/
  record : Nat
  /-- context state; Table 08-3; [08 R172] -/
  state : CtxState
  /-- current generation gc; U8; [08 R178]; 0 -/
  gc : Nat := 0
  /-- generation of the latest ARM or RESET; U8; [08 R176]; 0 -/
  armGen : Nat := 0
  /-- fault reason; U16; [08 R192]; 0 -/
  fault : Nat := 0
  /-- last accepted alive values by member; U16 each; [03 R59]; 0xFFFF -/
  alive : Tab Nat := {}
  /-- a contribution has been accepted since the arming; [08 R173]; no -/
  touched : Bool := false
  /-- chunk groups, by position × 2¹⁷ + group; [08 R176]; RELEASED -/
  groups : Tab Group := {}
  /-- chunks of a generation that have returned to RELEASED, by generation; [08 R178]; 0 -/
  done : Tab Nat := {}
  /-- a drain ends in PARKED, not FREE; [08 R173]; no -/
  park : Bool := false
  /-- generations completed, chunks completed in full, partial results, member-absent notices, held contributions
  refused, late contributions dropped; 6 × U64; [08 Table 08-9]; 0 -/
  completed : Nat := 0
  full : Nat := 0
  partials : Nat := 0
  absent : Nat := 0
  refused : Nat := 0
  late : Nat := 0
  /-- numeric counts in the order of Table 07-8; 8 × U64; [07 R167]; 0 -/
  counts : List Nat := [0, 0, 0, 0, 0, 0, 0, 0]
  /-- the context has switched to plan B by level balance; [09 R223]; no -/
  onB : Bool := false
  /-- plan override in force: force B, force A, or none; [09 R223]; none -/
  override : Option Bool := none
  /-- consecutive steps meeting the pending switch condition; U16; [09 R223]; 0 -/
  hold : Nat := 0
  /-- the condition has held for Hold steps: a switch is due at the boundary now open; [09 R223]; no -/
  switchDue : Bool := false
  /-- outbound and inbound level; U8 each; [09 R222]; 0 -/
  bo : Nat := 0
  bi : Nat := 0
  /-- plan switches; U64; [09 Table 09-8]; 0 -/
  switches : Nat := 0
  /-- alive counter of upward contributions; U16; [09 R215]; 0 -/
  upAlive : Nat := 0
  /-- crate set in force, by position; [09 R225]; the record's, with remaps -/
  crates : List Nat
  /-- positions being moved to a remap target: position, target, and the groups that have not moved; [09 R225]; none -/
  moving : List (Nat × Nat × List Nat) := []
  /-- spill groups reserved, in order of allocation; [10 R238]; none -/
  spill : List SpillRun := []
  /-- template number while PARKED; [08 R172, 10 R232]; 0 -/
  template : Nat := 0
  deriving DecidableEq, Repr

/-- A contribution in a Crate's holding area (R182). -/
structure HoldC where
  /-- ingress Crate and lane -/
  crate : Nat
  lane : Nat
  ctx : Nat
  frame : Frame
  /-- receive timestamp -/
  time : FabricTime
  deriving DecidableEq, Repr

/-- A mismatch record (R358). -/
structure Mismatch where
  ctx : Nat
  member : Nat
  gen : Nat
  chunk : Nat
  alive : Nat
  /-- fingerprint of the first payload refused; U64 -/
  finger : Nat
  /-- check value received; U64 -/
  check : Nat
  /-- run count; 1 to 255 -/
  run : Nat
  /-- same-fingerprint flag -/
  same : Bool
  deriving DecidableEq, Repr

/-- A CNACK that waits for cells of its Crate's result account (R60, R81). -/
structure NackWait where
  lane : Nat
  frame : Frame
  at_ : Stamped
  deriving DecidableEq, Repr

end Sys2Proof.Machine
end

