-- ==== Sys2Proof/Machine/Nv.lean ====
section
/-! DEFINITION. The state that survives loss of power (R17): fuses, boot flash, Chute cells and pulse counts, and the
calibration memory of the Hatches. -/

namespace Sys2Proof.Machine

/-- The Strongbox fuses (R340, Tables 15-7 and 15-12). -/
structure Fuses where
  /-- life-cycle state; Table 15-6; [15 R342, 18 R415]; 0 BLANK -/
  life : Nat := 0
  /-- pending fuse: the target state of a transition begun; [15 R343]; none -/
  pending : Option Nat := none
  /-- owner image and recovery key digests of the pending transition; [15 R343]; 0 -/
  pendOwner : Nat := 0
  pendRecovery : Nat := 0
  /-- a transition has ended whose event 0x1001 has not been raised (the model's place for it); [15 R343]; no -/
  changed : Bool := false
  /-- owner image key digest; DIGEST; [15 Table 15-12]; 0 in BLANK -/
  ownerKey : Nat := 0
  /-- recovery management key digest; DIGEST; [15 Table 15-12]; 0 in BLANK -/
  recoveryKey : Nat := 0
  /-- Ferestum key slots fused, bits 0 to 3; [15 Table 15-12, 18 R415]; all fused -/
  slots : Nat := 0xF
  /-- Ferestum key slots revoked, bits 0 to 3; [15 Table 15-12]; none -/
  revoked : Nat := 0
  /-- Ferestum key digests of slots 0 to 3; 4 × 32 bytes; [15 Table 15-12]; fused at manufacture (DESIGN CHOICE: 0) -/
  keys : List Nat := [0, 0, 0, 0]
  /-- fused security version; 0 to 64; [15 Table 15-12, 18 R415]; 0 -/
  security : Nat := 0
  /-- seed of the identity key pair; 256 bits; [15 R341]; fused (DESIGN CHOICE: 0) -/
  seed : Nat := 0
  /-- stepping: 1 A1, 2 B0; [01 R1, 15 Table 15-7]; 2 -/
  stepping : Nat := 2
  /-- part code; U32; [18 R414]; CJ9600-B0-10M (DESIGN CHOICE among the B0 codes of Table 18-7) -/
  part : Nat := 0x96000211
  /-- manufacturing serial; 16 bytes; [15 Table 15-7]; fused (DESIGN CHOICE: 0) -/
  serial : Nat := 0
  /-- endorsement; 64 bytes; [15 R341]; fused (DESIGN CHOICE: 0) -/
  endorsement : Nat := 0
  /-- device MAC address; 48 bits; [03 Table 03-9]; fused (DESIGN CHOICE: 02-00-00-00-00-01) -/
  mac : Nat := 0x020000000001
  deriving DecidableEq, Repr

/-- One copy of the configuration area (R335): sequence, COLD values by address, and whether its tag is valid. -/
structure ConfigCopy where
  seq : Nat := 0
  values : List (Nat × Nat) := []
  tag : Nat := 0
  deriving DecidableEq, Repr

/-- The boot flash (Table 15-2). -/
structure Flash where
  /-- image slots A and B; 48 MiB each; [15 R334]; no image (DESIGN CHOICE) -/
  slotA : ImageSlot := {}
  slotB : ImageSlot := {}
  /-- copies of the configuration area; 8 MiB each; [15 R335]; erased: none valid (DESIGN CHOICE) -/
  confA : Option ConfigCopy := none
  confB : Option ConfigCopy := none
  /-- Attic firmware data, bytes by offset from 0x710_0000; the rest of the flash; [15 Table 15-2]; erased (DESIGN CHOICE) -/
  data : Tab Nat := {}
  deriving DecidableEq, Repr

/-- The flash after a write of its image slots and firmware data. -/
def Flash.written (f : Flash) (w : FlashWrite) : Flash :=
  { f with slotA := w.slotA.getD f.slotA, slotB := w.slotB.getD f.slotB
           data := w.data.foldl (fun (t : Tab Nat) p => t.put 0 p.1 (p.2 % 256)) f.data }

/-- The access to the device that IEEE 1149.1 gives in a life-cycle state: boundary scan, Ferestum's test instructions, debug of the
Attic (R342, Table 15-6). BOOT-FAILED leaves it as it is (R337). -/
structure TestAccess where
  boundaryScan : Bool
  testInstructions : Bool
  atticDebug : Bool
  deriving DecidableEq, Repr

/-- The Test access column of Table 15-6. -/
def Fuses.testAccess (f : Fuses) : TestAccess :=
  { boundaryScan := true, testInstructions := decide (f.life = 0 ∨ f.life = 3), atticDebug := decide (f.life ≤ 1) }

/-- One Chute's non-volatile state. -/
structure ChuteNv where
  /-- cells by 16 × receive fibre + transmit fibre; 256; [12 R271, 18 R415]; CLEAR -/
  cells : Tab Cell := {}
  /-- pulse counts by cell; [12 R281]; 0 -/
  pulses : Tab Nat := {}
  /-- cells whose endurance event 0x3033 has been raised; [12 R281]; none -/
  worn : List Nat := []
  deriving DecidableEq, Repr

/-- The calibration of a ring where none is listed: 24,000 µW at 60 °C and 125 µW per °C (R251; DESIGN CHOICE, assumption
28: the manual gives the coefficient as near 0.125 mW and a range only for the power). -/
def ringCalibration : Nat := 24000 * 2 ^ 16 + 125

/-- Everything that survives loss of power (R17). -/
structure Nv where
  /-- the Strongbox fuses -/
  fuses : Fuses := {}
  /-- the boot flash -/
  flash : Flash := {}
  /-- Chute cells and pulse counts, by Hatch -/
  chutes : Tab ChuteNv := {}
  /-- calibration by ring (2 × lane, + 1 for the drop ring): expected power at 60 °C in µW × 2¹⁶ + coefficient in µW per
  °C; [01 R17, 11 R251]; as written at manufacture -/
  calibration : Tab Nat := {}
  deriving DecidableEq, Repr

/-- The event of a transition that has ended has been raised (R343). -/
def Nv.announced (v : Nv) : Nv := { v with fuses := { v.fuses with changed := false } }

end Sys2Proof.Machine
end

