-- ==== Sys2Proof/Machine/Dev.lean ====
section
/-! DEFINITION. The volatile state of the device, from its parts. -/

namespace Sys2Proof.Machine

/-- One lane: verification, link layer, time, and its counts. -/
structure Lane where
  disc : Disc := {}
  rx : LinkRx := {}
  tx : LinkTx := {}
  time : LaneTime := {}
  egress : Egress := {}
  optics : Optics := {}
  /-- check mismatches, check-value faults, data faults, persistent runs; 4 × U64; [16 R358]; 0 -/
  checkBad : Nat := 0
  valueFaults : Nat := 0
  dataFaults : Nat := 0
  persistent : Nat := 0
  deriving DecidableEq, Repr

/-- One Crate. -/
structure Crate where
  /-- thermal frequency, MHz; [18 R406]; 1,800 -/
  thermal : Nat := 1800
  /-- island frequency, MHz; [01 R18]; 1,600 -/
  freq : Nat := 1600
  /-- cycles of its island up to `cyclesAt`, and the issue slots that derates removed in them; U64; [17 R381, R382]; 0 -/
  cycles : Nat := 0
  slotsOff : Nat := 0
  /-- time run, 2⁻³² ns, at which its frequency or its derate last changed (the model's own); 0 -/
  cyclesAt : Nat := 0
  /-- cycles of its island at the last clear of the arbiter records; U64; [04 R101]; 0 -/
  arbFrom : Nat := 0
  /-- hot-spot temperature, I16 in 1/16 °C; [18 Table 18-9]; 0 -/
  temp : Nat := 0
  path : CratePath := {}
  /-- timestamp queue, oldest first, at most 32; [13 R289]; empty -/
  stamps : List Stamp := []
  /-- timestamp queue overflows; U64; [13 R289]; 0 -/
  stampLost : Nat := 0
  /-- time run, 2⁻³² ns, at which the latest reset of its port group began; [16 R367]; none -/
  resetFrom : Option Nat := none
  /-- mismatch records, most recently used first, at most 256; [16 R358]; none -/
  mismatches : List Mismatch := []
  /-- mismatch records evicted, unresolved; 2 × U64; [16 Table 16-8]; 0 -/
  evicted : Nat := 0
  unresolved : Nat := 0
  /-- chunks shadowed for this Crate, skipped, matched, mismatched; 4 × U64; [16 Table 16-8]; 0 -/
  shadowed : Nat := 0
  shadowSkips : Nat := 0
  shadowGood : Nat := 0
  shadowBad : Nat := 0
  deriving DecidableEq, Repr

/-- One Chute's volatile state. -/
structure Chute where
  /-- PROGRAMMING since a commit step; [12 R276]; no -/
  programming : Bool := false
  /-- the pulses of the programme now running, in batches, each pulse with its cell and the cell's state before and after;
  [12 R276]; none -/
  pulsed : Option (List (List (Nat × Cell × Cell))) := none
  /-- cells that the programme now running pulsed and that missed their target; [12 R276]; none -/
  missed : List Nat := []
  /-- cells withheld by the last programme; [12 R276]; none -/
  withheld : List Nat := []
  /-- fibre pairs that circuits use, as the control island reads its cells; 16 bits; [12 R273]; as read -/
  used : Nat := 0
  /-- DEGRADED after the last programme; [12 R276]; no -/
  degraded : Bool := false
  /-- the control island has read the cells since power-good; [12 R278]; no -/
  read : Bool := false
  deriving DecidableEq, Repr

/-- What the device sends or drives at its boundary. -/
inductive Out where
  /-- a frame on a lane, with its FCS (R44, R61) and transmit timestamp -/
  | frame (lane : Nat) (f : Frame) (fcs : Nat) (t : FabricTime)
  /-- a management message to a peer in a DATA record of a session, and the MGMT frame that carries the record: out of the management
  port, or by a lane as every frame of the Attic (R324, R325, R347) -/
  | message (src : Nat) (lane : Option Nat) (session : Nat) (m : Message) (f : Frame)
  /-- a RESPONSE record that answers an INIT, with its MGMT frame as above (R345) -/
  | response (src : Nat) (lane : Option Nat) (session rb sb : Nat) (f : Frame)
  /-- an entry of a Crate's timestamp queue that the Attic has read, in the layout of Table 13-2 (R289) -/
  | stamp (crate entry : Nat)
  /-- a frame handed to the Attic's firmware, with its receive timestamp (R45, R287, Table 03-3) -/
  | toAttic (lane : Nat) (f : Frame) (t : FabricTime)
  deriving DecidableEq, Repr

/-- Work of Table 13-5 that waits at the step boundary now open. -/
inductive Due where
  /-- the snapshot named for the ended step, with the freeze copy taken at the boundary; none where it is skipped (R377) -/
  | snapshot (k : Nat) (copy : Option Snap)
  /-- the congestion map that ends with the ended step, as it stands at the boundary (R387) -/
  | map (m : CMap)
  /-- the servo's step and the review of the parent (R293, R295), after the freeze of order 1 -/
  | review
  /-- the retirement of a route version (R109) -/
  | retire
  /-- the commit sealed for the new step (R313) -/
  | commit
  /-- plan switches (R223) -/
  | switch
  /-- levels (R222) -/
  | levels
  /-- the shapers' refill (R139) -/
  | refill (t : FabricTime)
  deriving DecidableEq, Repr

/-- A frame that the Attic sends: on a lane or by its endpoint ID, with a timestamp request or a one-step insert (R81, R288). -/
structure AtticFrame where
  frame : Frame
  lane : Option Nat := none
  stamp : Option Nat := none
  insert : Option Nat := none
  deriving DecidableEq, Repr

/-- The die bridge's arbiters, and when the arbiter records were last cleared. -/
structure Arb where
  /-- grants of the bridge's row links by row × 16 + direction × 8 + requester, since the last clear; U64; [04 R101]; 0 -/
  bridge : Tab Nat := {}
  /-- stalled flags of those records; [04 R101]; clear -/
  stalled : List Nat := []
  /-- time run at the last clear, 2⁻³² ns; [04 R101]; 0 -/
  since : Nat := 0
  deriving DecidableEq, Repr

/-- The volatile state of the device. -/
structure Dev where
  lanes : Tab Lane := {}
  ports : Tab Port := {}
  crates : Tab Crate := {}
  chutes : Tab Chute := {}
  hatches : Tab Hatch := {}
  modules : Tab Module := {}
  stackTab : Tab Stack := {}
  arb : Arb := {}
  time : TimeUnit := {}
  log : EventLog := {}
  inv : Inv := {}
  attic : Attic := {}
  tele : Telemetry := {}
  power : Power := {}
  board : Board := {}
  /-- stored frames by handle; [04 R75]; none -/
  held : Tab (Option Held) := {}
  /-- next handle (the model's own name for a cell address or ring position) -/
  nextHeld : Nat := 1
  /-- messages in flight in the mesh, oldest first; [04 R98]; none -/
  net : List Msg := []
  /-- descriptors that wait at their holding Crates, oldest first; [04 R83]; none -/
  waits : List Wait := []
  /-- contributions consumed whose release has not gone; [04 R90]; none -/
  consumed : List Nat := []
  /-- frames of the Attic that wait for cells of its account, oldest first; [04 R81]; none -/
  atticWaits : List AtticFrame := []
  /-- collective contexts by ID, none for FREE; [08 R172]; all FREE -/
  contexts : Tab (Option Context) := {}
  /-- contributions in the holding areas, in order of arrival; [08 R182]; none -/
  holding : List HoldC := []
  /-- CNACKs that wait for cells of their Crate's result account, oldest first; [03 R60, 04 R81]; none -/
  nacks : List NackWait := []
  /-- shadow mismatch records, newest first, at most 16 of 64 bytes; [16 R362]; all 0 -/
  shadowRecs : List Nat := []
  /-- shadowed chunks, oldest first; [16 R361]; none -/
  shadows : List Shadow := []
  /-- route table versions; [05 R108] -/
  versions : Versions := {}
  /-- flow-context store of the Cellar, by index; 4,194,304 × 64 bytes; [06 R141]; zero (wiped) -/
  flows : Tab Flow := {}
  /-- steps of fences accepted, newest first; [16 R365]; none -/
  fences : List Nat := []
  /-- work of the step boundary now open, in the order of Table 13-5; [13 R300]; none -/
  due : List Due := []
  /-- what the device has sent, newest first (the model's own record of its outputs) -/
  out : List Out := []
  /-- how many free values have been drawn (the model's own) -/
  draws : Nat := 0
  /-- the device's fused MAC address as read at boot (R339); 48 bits -/
  mac : Nat := 0x020000000001
  deriving DecidableEq, Repr

end Sys2Proof.Machine
end

