-- ==== Sys2Proof/Machine/Codes.lean ====
section
/-! DEFINITION. Event and count codes: their source kinds, severities and rate limits (R351 to R354, R374, R375, and the
event table of each chapter). -/

namespace Sys2Proof.Machine

/-- Every event code with the source kind its record carries (Table 16-1), by the event tables of the chapters. -/
def eventKinds : List (Nat × Nat) :=
  [(0x1001, 0), (0x1002, 0),
   (0x2001, 2), (0x2002, 2), (0x2003, 2), (0x2004, 2), (0x2010, 2), (0x2011, 2), (0x2012, 2), (0x2013, 2),
   (0x2014, 2), (0x2020, 1), (0x2021, 1), (0x2030, 1), (0x2031, 1), (0x2032, 1), (0x2033, 1), (0x2034, 1),
   (0x2035, 1), (0x2040, 2), (0x2041, 2), (0x2050, 3)] ++
  [(0x3001, 1), (0x3002, 1), (0x3003, 1), (0x3004, 1), (0x3005, 1), (0x3010, 5), (0x3011, 5), (0x3012, 5),
   (0x3013, 5), (0x3014, 5), (0x3020, 1), (0x3021, 1), (0x3022, 1), (0x3023, 1), (0x3024, 1), (0x3025, 1),
   (0x3030, 4), (0x3031, 10), (0x3032, 10), (0x3033, 10), (0x3040, 4)] ++
  [(0x4001, 1), (0x4002, 3), (0x4003, 1), (0x4004, 1), (0x4005, 1), (0x4006, 3), (0x4010, 3), (0x4011, 1),
   (0x4020, 3), (0x4021, 3), (0x4030, 3), (0x4031, 0), (0x4032, 0)] ++
  [(0x5010, 3), (0x5011, 3), (0x5012, 3), (0x5013, 3), (0x5014, 3), (0x5015, 3), (0x5016, 0), (0x5017, 0)] ++
  [(0x6001, 7), (0x6002, 7), (0x6003, 7), (0x6004, 7), (0x6005, 7), (0x6010, 7), (0x6011, 7), (0x6012, 7),
   (0x6013, 3), (0x6014, 7), (0x6020, 1), (0x6021, 1), (0x6022, 7), (0x6023, 7), (0x6024, 3), (0x6040, 7),
   (0x6041, 7)] ++
  [(0x7001, 3), (0x7002, 3),
   (0x8001, 0), (0x8002, 0), (0x8003, 3), (0x8004, 1), (0x8005, 1), (0x8006, 1), (0x8007, 0), (0x8008, 1),
   (0x8009, 0),
   (0x9001, 6), (0x9002, 6), (0x9003, 6), (0x9004, 6), (0x9005, 1), (0x9006, 6)] ++
  [(0xA001, 0), (0xA002, 0), (0xB001, 0), (0xB002, 0), (0xB003, 9), (0xB004, 9), (0xB005, 0),
   (0xC001, 0), (0xC002, 0), (0xC003, 0), (0xC004, 0),
   (0xF001, 8), (0xF002, 8), (0xF003, 8), (0xF004, 8), (0xF005, 8), (0xF006, 8), (0xF010, 1), (0xF011, 1)]

/-- The count codes of Table 17-2 with their kinds. -/
def countKinds : List (Nat × Nat) :=
  [(0x2E01, 1), (0x2E02, 1), (0x2E03, 1), (0x2E04, 1), (0x2E05, 1), (0x2E06, 1), (0x2E07, 3),
   (0x4E01, 3), (0x4E02, 3), (0x4E03, 1), (0x4E04, 1), (0x4E05, 1), (0x4E06, 3),
   (0x5E01, 3), (0x5E02, 3), (0x5E03, 3), (0x5E04, 3), (0x5E05, 3), (0x5E06, 3), (0x5E07, 3), (0x5E08, 3),
   (0x6E01, 1), (0x6E02, 1), (0x8E01, 1), (0xBE01, 0)]

/-- The kind of a code in a list. -/
def kindIn (code : Nat) : List (Nat × Nat) → Option Nat
  | [] => none
  | (c, k) :: t => if c = code then some k else kindIn code t

/-- The source kind of an event code; none for a code that no event table lists (Table 16-8). -/
def eventKind (code : Nat) : Option Nat := kindIn code eventKinds

/-- The source kind of a code of the Tally (R374). -/
def tallyKind (code : Nat) : Option Nat :=
  match eventKind code with
  | some k => some k
  | none => kindIn code countKinds

/-- Counters per code of a source kind (Table 17-1). -/
def kindCount (k : Nat) : Nat :=
  if k = 1 ∨ k = 2 then 1024 else if k = 3 then 128 else if k = 4 then 8 else if k = 5 then 16
  else if k = 6 then 12 else if k = 10 then 2048 else 1

/-- Default severity (R354, Table 16-2). -/
def defaultSeverity (code : Nat) : Nat :=
  if code ∈ [0x2001, 0x2004, 0x2040, 0x3011, 0x3030, 0x5016, 0x5017, 0x6010, 0x6013, 0x8001, 0xF001, 0xF006] then 0
  else if code ∈ [0x2011, 0x2012, 0x2033, 0x2041, 0x3001, 0x3012, 0x3031, 0x4021, 0x6001, 0x6022, 0x6023, 0x6024,
                  0x9002, 0xB001, 0xC003] then 2
  else if code ∈ [0x1002, 0x9003] then 3
  else 1

/-- Codes raised at most once per source in any 1,024 steps (R352), by the event rule of each chapter: R32, R37, R72,
R102, R129, R146, R193, R227, R245, R269, R302, R328, R349, R372, R416. -/
def rateLimited (code : Nat) : Bool :=
  decide (code ∈ [0x2020, 0x2021, 0x2030, 0x2031, 0x2032, 0x2034, 0x2035,
    0x3001, 0x3002, 0x3003, 0x3004, 0x3005, 0x3013, 0x3014, 0x3020, 0x3021, 0x3022, 0x3023, 0x3024, 0x3025, 0x3040,
    0x4001, 0x4002, 0x4003, 0x4005, 0x4006, 0x4011, 0x4020, 0x4030, 0x4031, 0x4032]) ||
  decide (code ∈ [0x5010, 0x5011, 0x5012, 0x5013, 0x5014, 0x5015,
    0x6002, 0x6003, 0x6004, 0x6010, 0x6011, 0x6012, 0x6014, 0x6020, 0x6021, 0x6040, 0x6041, 0x7001, 0x7002,
    0x8003, 0x8004, 0x8005, 0x8008, 0x9001, 0x9004, 0x9005, 0xB003, 0xB004, 0xF010, 0xF011])

end Sys2Proof.Machine
end

