-- ==== Sys2Proof/Machine/Entries.lean ====
section
/-! DEFINITION. The entry maps of the Inventory (R304 to R306): one row for each family of entries, with its type, access,
default, commit class and range. -/

namespace Sys2Proof.Machine

/-- Entry types (Table 14-1). -/
inductive EType where
  | bool | u8 | u16 | u32 | u64 | i32 | i64 | enum
  | bitmap (bits : Nat)
  | blob (bytes : Nat)
  | digest
  deriving DecidableEq, Repr

/-- Type code (Table 14-1). -/
def EType.code : EType → Nat
  | .bool => 1 | .u8 => 2 | .u16 => 3 | .u32 => 4 | .u64 => 5 | .i32 => 6 | .i64 => 7 | .enum => 8
  | .bitmap _ => 9 | .blob _ => 10 | .digest => 11

/-- Length in bytes (Table 14-1). -/
def EType.len : EType → Nat
  | .bool => 1 | .u8 => 1 | .u16 => 2 | .u32 => 4 | .u64 => 8 | .i32 => 4 | .i64 => 8 | .enum => 1
  | .bitmap b => (b + 7) / 8 | .blob m => m | .digest => 32

/-- Access rights (Table 14-2). -/
inductive Access where
  | ro | rw | wo | staged
  deriving DecidableEq, Repr

/-- Commit classes (Table 14-2). -/
inductive Commit where
  | imm | step | quiesce | cold
  deriving DecidableEq, Repr

/-- A family of entries: indices base to base + n − 1, subindices lo to hi, all of one kind. -/
structure Fam where
  base : Nat
  n : Nat
  lo : Nat
  hi : Nat
  ty : EType
  acc : Access
  com : Commit
  /-- default by index offset and subindex -/
  dflt : Nat → Nat → Nat
  /-- legal values by index offset -/
  ok : Nat → Nat → Bool

/-- Any value. -/
def okAny : Nat → Nat → Bool := fun _ _ => true
/-- A port map: bit 0 set, and each port of 1, 2, 4 or 8 lanes, starting at a multiple of its width (R9). -/
def okPortMap : Nat → Nat → Bool := fun _ v =>
  let starts := (List.range 8).filter (fun k => v.testBit k)
  decide (v % 2 = 1) && starts.all (fun k =>
    let w := ((List.range 8).find? (fun j => decide (k < j) && v.testBit j)).getD 8 - k
    decide ((w = 1 ∨ w = 2 ∨ w = 4 ∨ w = 8) ∧ k % w = 0))
/-- Values from a to b. -/
def okRange (a b : Nat) : Nat → Nat → Bool := fun _ v => decide (a ≤ v ∧ v ≤ b)
/-- A constant default. -/
def dv (v : Nat) : Nat → Nat → Nat := fun _ _ => v

/-- An RW-STAGED entry. -/
def stg (base n lo hi : Nat) (ty : EType) (d : Nat) (com : Commit) (ok : Nat → Nat → Bool) : Fam :=
  ⟨base, n, lo, hi, ty, .staged, com, dv d, ok⟩
/-- An RO entry. -/
def roe (base n lo hi : Nat) (ty : EType) : Fam := ⟨base, n, lo, hi, ty, .ro, .imm, dv 0, okAny⟩
/-- A WO entry. -/
def woe (base n lo hi : Nat) (ty : EType) (com : Commit) (ok : Nat → Nat → Bool) : Fam :=
  ⟨base, n, lo, hi, ty, .wo, com, dv 0, ok⟩
/-- An RW IMMEDIATE entry. -/
def rwe (base n lo hi : Nat) (ty : EType) (d : Nat) (ok : Nat → Nat → Bool) : Fam :=
  ⟨base, n, lo, hi, ty, .rw, .imm, dv d, ok⟩

/-- Table 02-9. -/
def fams02 : List Fam :=
  [ stg 0x2000 1 1 1 .u8 0 .step (okRange 0 7),
    stg 0x2000 1 2 2 .u8 0 .step (okRange 0 15),
    stg 0x2000 1 3 3 .u32 0 .step okAny,
    stg 0x2000 1 4 4 .u8 3 .step (okRange 1 16),
    stg 0x2000 1 5 5 .u8 4 .step (okRange 2 255),
    stg 0x2000 1 6 6 .u32 125000 .step (okRange 1 0xFFFFFFFF),
    stg 0x2000 1 7 7 .enum 1 .step (okRange 0 1),
    stg 0x2100 128 1 1 (.bitmap 8) 1 .quiesce okPortMap,
    stg 0x2100 128 2 2 (.bitmap 8) 0 .step okAny,
    stg 0x2100 128 3 3 (.bitmap 8) 0 .step okAny,
    stg 0x2180 128 1 8 .enum 1 .step (okRange 0 3),
    stg 0x2200 128 1 8 .u64 0 .step (okRange 0 0xFFFFFFFFFFFFFFFE),
    stg 0x2280 128 1 8 .u16 0 .step (okRange 0 1023),
    roe 0x2500 128 1 8 .enum, roe 0x2580 128 1 8 .enum, roe 0x2600 128 1 8 .u64,
    roe 0x2680 128 1 8 .u16, roe 0x2700 128 1 8 .enum ]

/-- The port map's own range (R9): bit 0 set, and every port of 1, 2, 4 or 8 lanes at a multiple of its width. The
ports that a map makes: first lane and width. -/
def mapPorts (m : Nat) : List (Nat × Nat) :=
  (List.range 8).filterMap (fun k =>
    if bit m k then
      let next := ((List.range 9).filter (fun j => decide (k < j) && (bit m j || decide (j = 8)))).headD 8
      some (k, next - k)
    else none)

/-- Whether a port map is legal (R9, Table 02-9). -/
def mapOk (m : Nat) : Bool :=
  bit m 0 && (mapPorts m).all (fun p => decide (p.2 ∈ [1, 2, 4, 8]) && decide (p.1 % p.2 = 0))

/-- Table 03-9. The default of the device MAC address is fused, not the table's. -/
def fams03 : List Fam :=
  [ stg 0x2000 1 8 8 .u16 0x88B5 .step
      (fun _ v => decide (0x600 ≤ v ∧ v ≤ 0xFFFF ∧ v ≠ 0x8100 ∧ v ≠ 0x88A8 ∧ v ≠ 0x88F7)),
    stg 0x2000 1 9 9 .u16 512 .step (okRange 64 1024),
    stg 0x2000 1 10 10 .u64 0x020000000001 .step
      (fun _ v => decide (v % 2 ^ 48 ≠ 0) && !(bit v 40)),
    stg 0x2300 128 1 8 .enum 0 .quiesce (okRange 0 1),
    stg 0x2380 128 1 8 .u64 0xFFFFFFFFFFFF .step okAny,
    stg 0x2400 128 1 8 .enum 0 .step (okRange 0 1) ]

/-- Defaults of the ring sizes 0x4001:01–0A. -/
def ringDefault (s : Nat) : Nat := [64, 0, 128, 0, 128, 0, 256, 0, 16, 0].getD (s - 1) 0

/-- Table 04-8. -/
def fams04 : List Fam :=
  [ stg 0x4000 1 1 1 .u32 2048 .step (okRange 64 1048576),
    stg 0x4000 1 2 2 .bool 1 .step (okRange 0 1),
    stg 0x4000 1 3 3 .u16 256 .quiesce (okRange 17 4096),
    stg 0x4000 1 4 4 .u16 64 .quiesce (okRange 17 1024),
    stg 0x4000 1 5 5 .u32 1024 .step (okRange 0 8192),
    stg 0x4000 1 6 6 .u16 8192 .step (okRange 0 16384),
    ⟨0x4001, 1, 1, 10, .u16, .staged, .quiesce, fun _ s => ringDefault s, okRange 0 1024⟩,
    woe 0x4003 1 1 1 .u8 .imm (okRange 1 2),
    roe 0x4400 128 1 8 (.blob 64), roe 0x4480 128 1 8 .enum,
    roe 0x4500 128 1 4 .u16,
    roe 0x4600 128 1 8 (.blob 408), roe 0x4680 128 1 1 (.blob 240), roe 0x4680 128 2 2 (.blob 600),
    roe 0x4680 128 3 3 (.blob 3072), roe 0x4780 8 1 2 (.blob 192) ]

/-- A shaper record's own range (Table 06-1), for one record of 20 bytes; reserved fields are ignored (R5), but for kind 0, whose
bytes 4 to 19 must be 0 (R136). -/
def shaperOk (r : Nat) : Bool :=
  let kind := bits (bytesAt 20 r 0 0) 1 0
  let a := bytesAt 20 r 4 7
  let b := bytesAt 20 r 8 11
  let ba := bytesAt 20 r 12 15
  let bb := bytesAt 20 r 16 19
  if kind = 0 then decide (bytesAt 20 r 4 19 = 0)
  else if kind = 1 then
    decide (1 ≤ a ∧ a ≤ 200000 ∧ 4224 ≤ ba ∧ ba ≤ 16777216)
  else if kind = 2 then
    decide (1 ≤ a ∧ a ≤ 200000 ∧ a ≤ b ∧ b ≤ 200000 ∧ 4224 ≤ ba ∧ ba ≤ 16777216 ∧ 4224 ≤ bb ∧ bb ≤ 16777216)
  else false

/-- The shaper record of a virtual channel within the 320 bytes of a lane's records. -/
def shaperRecord (v vc : Nat) : Nat := bytesAt 320 v (20 * vc) (20 * vc + 19)

/-- A class slot map field: 0 to 3, or 0xF. -/
def slotMapOk (v : Nat) : Bool :=
  (List.range 4).all (fun k => let x := bits v (4 * k + 3) (4 * k); decide (x ≤ 3 ∨ x = 15))

/-- Default weights of VCs 0 to 15 (Table 06-3). -/
def weightDefault (s : Nat) : Nat := [8, 8, 16, 16, 64, 64, 64, 64, 128, 128, 64, 64, 1, 1, 8, 8].getD (s - 1) 0

/-- Table 05-5. -/
def fams05 : List Fam :=
  [ stg 0x5000 1 1 1 .u16 0 .step (okRange 0 1023), stg 0x5000 1 2 2 .u8 1 .step (okRange 1 16),
    stg 0x5000 1 3 3 .u8 0 .quiesce okAny,
    roe 0x5000 1 4 4 .u8, roe 0x5000 1 5 6 .enum,
    woe 0x5000 1 7 8 .u8 .step (okRange 0 1),
    stg 0x5000 1 9 9 .u32 125 .step (okRange 1 1048576), roe 0x5000 1 10 10 .u64,
    stg 0x5100 32 1 8 (.blob 512) 0 .step okAny,
    stg 0x5200 128 1 8 .u8 0 .step (okRange 0 3),
    ⟨0x5300, 8, 1, 1, .bool, .staged, .step, dv 0, fun t v => decide (v ≤ 1 ∧ (t ≠ 6 ∨ v = 0))⟩,
    stg 0x5300 8 2 2 .u32 256 .step (okRange 0 1048576), stg 0x5300 8 3 3 .u32 1024 .step (okRange 0 1048576),
    stg 0x5400 0x400 1 64 (.blob 128) 0 .step okAny ]

/-- Table 06-3. -/
def fams06 : List Fam :=
  [ stg 0x7000 1 1 1 .u16 64 .step (okRange 16 4096), stg 0x7000 1 2 2 .bool 0 .step (okRange 0 1),
    stg 0x7000 1 3 3 .u16 0xFFFF .step (fun _ v => slotMapOk v),
    ⟨0x7010, 4, 1, 16, .u8, .staged, .step, fun _ s => weightDefault s, okRange 1 255⟩,
    stg 0x7100 128 1 8 .u8 0 .step (okRange 0 3),
    stg 0x7200 128 1 8 (.blob 320) 0 .step
      (fun _ v => (List.range 16).all (fun vc => shaperOk (shaperRecord v vc) &&
        (decide (vc ≠ 12 ∧ vc ≠ 13) || decide (shaperRecord v vc / 2 ^ 152 % 4 = 0)))),
    roe 0x7280 128 1 8 (.blob 256), roe 0x7300 128 1 1 (.blob 32),
    woe 0x7400 1 1 64 (.blob 68) .step okAny,
    rwe 0x7480 1 1 1 .u32 0 (okRange 0 4194303), roe 0x7480 1 2 2 (.blob 64) ]

/-- The ten Cellar ring sizes of a lane, KiB (Table 10-5). -/
def cellarRing (v k : Nat) : Nat := bytesAt 40 v (4 * k) (4 * k + 3)

/-- The default Cellar ring sizes: 512 KiB for VCs 4–11, 64 KiB for VCs 14 and 15. -/
def cellarRingDefault : Nat := packBits ((List.replicate 8 (32, 512)) ++ [(32, 64), (32, 64)])

/-- Table 10-5. -/
def fams10 : List Fam :=
  [ stg 0x9000 1 1 1 .enum 1 .cold (okRange 0 1), stg 0x9000 1 2 2 .u32 2048 .cold (okRange 0 2048),
    stg 0x9000 1 3 3 .u8 16 .cold (okRange 0 64), stg 0x9000 1 4 4 .u16 24 .step (okRange 1 168),
    roe 0x9000 1 5 5 .u64,
    stg 0x9010 12 1 1 .u32 8192 .cold (okRange 0 16384), roe 0x9010 12 2 2 .u64, roe 0x9010 12 3 3 .enum,
    roe 0x9010 12 4 5 (.blob 24), roe 0x9010 12 6 6 .u32, roe 0x9010 12 7 7 (.blob 1608),
    stg 0x9100 128 1 8 (.blob 40) cellarRingDefault .quiesce
      (fun _ v => (List.range 10).all (fun k => decide (cellarRing v k ≤ 16384 ∧ cellarRing v k % 4 = 0))),
    stg 0x9180 128 1 8 .enum 0 .quiesce (okRange 0 1), roe 0x9200 128 1 8 .u64 ]

/-- A Chute map without a fault bit set. -/
def okMap : Nat → Nat → Bool := fun _ v => (List.range 16).all (fun j => !(bit v (8 * j + 6)))

/-- Table 12-4. A write of a map byte with its fault bit set is refused. -/
def fams12 : List Fam :=
  [ stg 0x3400 8 1 1 (.blob 16) 0 .step okMap,
    roe 0x3400 8 2 2 (.blob 256), roe 0x3400 8 3 3 .enum, roe 0x3400 8 4 4 (.blob 32), roe 0x3400 8 5 5 (.blob 1024),
    stg 0x3480 128 1 8 .bool 0 .step (okRange 0 1) ]

/-- A signed value between two bounds, of `w` bits. -/
def okSigned (w : Nat) (a b : Int) : Nat → Nat → Bool := fun _ v => decide (a ≤ toSigned w v ∧ toSigned w v ≤ b)

/-- Table 13-7. -/
def fams13 : List Fam :=
  [ stg 0x8000 1 1 1 .enum 1 .step (okRange 0 3),
    roe 0x8000 1 2 2 .enum, roe 0x8000 1 3 3 .u64,
    stg 0x8000 1 4 4 .u8 8 .step (okRange 1 64),
    stg 0x8000 1 5 5 .u64 0 .step okAny,
    stg 0x8000 1 6 6 .u64 0 .step okAny,
    roe 0x8000 1 7 7 .u64, roe 0x8000 1 8 8 (.blob 10),
    stg 0x8000 1 9 9 .u32 50 .step (okRange 1 1000000),
    stg 0x8000 1 10 10 .u32 100000 .step (okRange 1000 200000),
    stg 0x8000 1 11 11 .u8 8 .step (okRange 1 254),
    stg 0x8000 1 12 12 .u8 4 .step (okRange 2 255),
    stg 0x8000 1 13 13 .u32 100 .step (okRange 0 200000),
    roe 0x8000 1 14 14 (.blob 24),
    stg 0x8000 1 15 15 .bool 0 .step (okRange 0 1),
    woe 0x8000 1 16 16 .u64 .imm okAny,
    woe 0x8000 1 17 17 .i32 .imm (okSigned 32 (-200000) 200000),
    woe 0x8000 1 18 18 .i64 .imm okAny,
    stg 0x8100 128 1 8 .enum 0 .step (okRange 0 1),
    stg 0x8180 128 1 8 .bool 1 .step (okRange 0 1),
    roe 0x8200 128 1 1 .u8, roe 0x8200 128 2 2 .u64, roe 0x8280 128 1 8 (.blob 32) ]

/-- An overlay item (Table 14-5) as its 16 bytes. -/
def overlayItem (index sub scope value : Nat) : Nat :=
  packBits [(16, index), (8, sub), (3, scope), (5, 0), (32, 0), (64, value)]

/-- Factory overlays (Tables 14-6 and 17-8): item s of overlay k. -/
def factoryItem (k s : Nat) : Nat :=
  let lean := [overlayItem 0x3200 0 3 0, overlayItem 0x9180 0 3 0, overlayItem 0x6000 1 0 0,
               overlayItem 0x4000 2 0 1, overlayItem 0x2000 9 0 256]
  let deep := [overlayItem 0x9180 0 3 1]
  let ring := [overlayItem 0x3200 0 4 2, overlayItem 0x3000 0x0A 0 (ofSigned 64 (-650)),
               overlayItem 0x3000 0x0B 0 (ofSigned 64 (-750))]
  let survey := [overlayItem 0x2000 4 0 8, overlayItem 0x3000 1 0 10, overlayItem 0x3000 6 0 1024,
                 overlayItem 0xA000 2 0 8, overlayItem 0xA000 3 0 4, overlayItem 0xA000 4 0 125,
                 overlayItem 0xA000 5 0 125, overlayItem 0xA000 1 0 1250, overlayItem 0x6500 1 0 4]
  (if k = 0 then lean else if k = 1 then deep else if k = 2 then ring else if k = 3 then survey else []).getD (s - 1) 0

/-- Table 14-11. -/
def fams14 : List Fam :=
  [ stg 0xF000 1 1 1 .u16 16 .step (okRange 2 65535),
    stg 0xF000 1 2 2 (.bitmap 8) 0 .step okAny,
    stg 0xF000 1 3 3 (.blob 32) 0 .step okAny,
    stg 0xF000 1 4 4 .u16 60 .step (okRange 1 3600),
    roe 0xF000 1 5 7 .digest, roe 0xF000 1 8 8 .u64, roe 0xF000 1 9 9 (.blob 128), roe 0xF000 1 10 10 (.blob 16),
    roe 0xF000 1 11 11 .u8,
    roe 0xF010 1 1 16 .digest,
    rwe 0xF020 1 1 1 .u16 0 okAny, roe 0xF020 1 2 2 .digest,
    ⟨0xF100, 8, 1, 64, .blob 16, .staged, .step, factoryItem, okAny⟩,
    roe 0xF200 128 1 8 .enum, roe 0xF280 128 1 8 .u64 ]

/-- Tables 15-7, 15-12 and 15-13. -/
def fams15 : List Fam :=
  [ roe 0x1000 1 1 1 .u64, roe 0x1000 1 2 2 .enum, roe 0x1000 1 3 3 .u32, roe 0x1000 1 4 4 .enum,
    woe 0x1000 1 5 5 (.blob 72) .step okAny, roe 0x1000 1 6 6 (.blob 16),
    roe 0xB000 1 1 2 (.blob 64), roe 0xB000 1 3 3 (.bitmap 8), roe 0xB000 1 4 4 (.blob 128), roe 0xB000 1 5 6 .digest,
    roe 0xB000 1 7 7 .u8, woe 0xB000 1 8 8 .u8 .step okAny, woe 0xB000 1 9 9 .u8 .step (okRange 0 3),
    stg 0xB000 1 10 10 .u16 300 .step (okRange 10 65535), roe 0xB000 1 11 11 .u8,
    stg 0xB010 1 1 8 .digest 0 .step okAny,
    woe 0xB100 1 1 1 (.blob 32) .imm okAny, roe 0xB100 1 2 2 (.blob 352), roe 0xB100 1 3 3 .enum,
    roe 0xB180 1 1 8 (.blob 32) ] ++
  [ roe 0xC000 1 1 1 .enum, stg 0xC000 1 2 2 .u32 1000 .step (okRange 100 60000),
    woe 0xC000 1 3 3 .u32 .imm okAny, roe 0xC000 1 4 4 .u32, roe 0xC000 1 5 5 .enum,
    stg 0xC000 1 6 6 .enum 0 .cold (okRange 0 1), stg 0xC000 1 7 7 .bool 0 .cold (okRange 0 1),
    stg 0xC000 1 8 8 .u16 600 .step (okRange 10 65535), woe 0xC000 1 9 9 .bool .imm (okRange 0 1),
    roe 0xC000 1 10 10 (.blob 32), roe 0xC000 1 11 11 (.blob 1024), woe 0xC000 1 12 12 .u32 .imm okAny,
    roe 0xC000 1 13 13 (.blob 16) ]

/-- A shadow or chunk tag exponent: 0 to 24, or 255 for none. -/
def okExp24 : Nat → Nat → Bool := fun _ v => decide (v ≤ 24 ∨ v = 255)

/-- Table 16-8. A severity override (R354) is checked as its table gives: a valid slot names a code of an event table. -/
def fams16 : List Fam :=
  [ stg 0x2800 1 1 1 .u16 8 .step (okRange 0 1024), stg 0x2800 1 2 2 .u32 450000000 .step (okRange 1 0xFFFFFFFF),
    roe 0x2800 1 3 3 .u16, woe 0x2800 1 4 4 .u8 .imm (okRange 0 127),
    stg 0x6500 1 1 1 .u8 12 .step okExp24, stg 0x6500 1 2 2 .u8 4 .step okExp24,
    stg 0x6500 1 3 3 .enum 0 .step (okRange 0 1), roe 0x6500 1 4 4 (.blob 1024),
    ⟨0x6580, 128, 1, 1, .u8, .staged, .step, fun n _ => n ^^^ 1, fun n v => decide (v ≤ 127 ∧ v ≠ n)⟩,
    rwe 0x6580 128 2 2 .enum 0 (okRange 0 1), roe 0x6580 128 3 3 (.blob 32), roe 0x6580 128 4 4 (.blob 16),
    roe 0x6600 128 1 8 (.blob 32) ] ++
  [ stg 0xAF00 1 1 1 .enum 2 .step (okRange 0 3), woe 0xAF00 1 2 2 .u32 .imm okAny,
    roe 0xAF00 1 3 3 .u32, roe 0xAF00 1 4 4 .u64, rwe 0xAF00 1 5 5 .u32 0 okAny, roe 0xAF00 1 6 6 (.blob 768),
    woe 0xAF00 1 7 7 .enum .imm (okRange 0 4), roe 0xAF00 1 8 8 .u32,
    stg 0xAF10 1 1 32 (.blob 4) 0 .step
      (fun _ v => !(bit v 31) || (eventKind (v % 65536)).isSome),
    woe 0xF000 1 12 12 .u64 .step (fun _ v => decide (v / 2 ^ 48 ≠ 0 ∧ v % 2 ^ 48 ≠ 0)),
    roe 0xF000 1 13 13 (.blob 16) ]

/-- Table 17-10. -/
def fams17 : List Fam :=
  [ stg 0xA000 1 1 1 .u32 125000 .step okAny,
    stg 0xA000 1 2 2 .u8 16 .step (fun _ v => decide (v ≤ 31 ∨ v = 255)),
    stg 0xA000 1 3 3 .u8 12 .step okExp24,
    stg 0xA000 1 4 4 .u32 0 .step okAny,
    stg 0xA000 1 5 5 .u32 125 .step (okRange 1 1048576),
    stg 0xA000 1 6 6 .u8 4 .cold okAny,
    woe 0xA000 1 7 7 .enum .imm (okRange 0 3),
    roe 0xA000 1 8 8 .u64, roe 0xA000 1 9 9 (.blob 24), roe 0xA000 1 10 10 .u64, roe 0xA000 1 11 11 (.blob 32),
    woe 0xA010 1 1 16 .u64 .step okAny, woe 0xA020 1 1 1 .u64 .step okAny,
    rwe 0xA100 1 1 1 .u16 0x2001 (fun _ v => (tallyKind v).isSome), rwe 0xA100 1 2 2 .u16 0 (okRange 0 2047),
    roe 0xA100 1 3 3 (.blob 512),
    rwe 0xA180 1 1 1 .u64 0 okAny,
    rwe 0xA180 1 2 2 .u32 0 (fun _ v => decide (v % 2048 = 0 ∧ v < 4194304)),
    roe 0xA180 1 3 3 (.blob 2048) ] ++
  [ roe 0xA200 128 1 8 (.blob 256), roe 0xA280 128 1 8 (.blob 128), roe 0xA300 128 1 1 (.blob 48),
    rwe 0xA380 1 1 1 .u64 0 okAny, roe 0xA380 1 2 2 (.blob 2048),
    rwe 0xA400 1 1 1 .u8 0 (okRange 0 3),
    rwe 0xA400 1 2 2 .u32 0 (fun _ v => decide (v % 2048 = 0 ∧ v < 17632)),
    roe 0xA400 1 3 3 (.blob 2048), roe 0xA400 1 4 4 (.blob 32) ]

/-- Table 18-9. -/
def fams18 : List Fam :=
  [ roe 0x4800 128 1 1 (.blob 8),
    stg 0x4880 1 1 1 .u16 1600 .step (fun _ v => decide (1000 ≤ v ∧ v ≤ 1800 ∧ v % 25 = 0)),
    stg 0x4880 1 2 2 .u16 1650 .step (okRange 1000 1950), stg 0x4880 1 3 3 .u8 100 .step (okRange 80 105),
    roe 0x4880 1 4 4 .u16, roe 0x4880 1 5 5 (.blob 36), roe 0x4880 1 6 6 .u16, roe 0x8000 1 19 19 (.blob 4) ]

/-- Table 08-9. -/
def fams08 : List Fam :=
  [ stg 0x6000 1 1 1 .u8 2 .quiesce (okRange 0 16), stg 0x6000 1 2 2 .u32 10000 .step (okRange 0 1000000),
    roe 0x6000 1 3 3 .u16, roe 0x6000 1 4 5 .u32,
    woe 0x6100 1 1 16 (.blob 516) .step okAny, woe 0x6180 1 1 64 (.blob 16) .step okAny,
    rwe 0x6200 1 1 1 .u32 0 okAny, roe 0x6200 1 2 2 (.blob 512), roe 0x6200 1 3 3 (.blob 64),
    roe 0x6280 128 1 3 .u8 ]

/-- Table 09-8. -/
def fams09 : List Fam :=
  [ roe 0x6200 1 4 4 (.blob 64), roe 0x6200 1 5 5 (.blob 16),
    woe 0x6300 1 1 16 (.blob 4) .step (fun _ v => decide (v / 2 ^ 30 ≠ 3)),
    stg 0x6380 128 1 1 .enum 0 .step (okRange 0 2),
    stg 0x6380 128 2 2 .u8 0xFF .step (fun _ v => decide (v ≤ 127 ∨ v = 255)),
    roe 0x6380 128 3 3 .u16, roe 0x6400 1 1 1 (.blob 9) ]

/-- Table 11-11. -/
def fams11 : List Fam :=
  [ stg 0x3000 1 1 1 .u16 100 .step (okRange 10 10000), stg 0x3000 1 2 2 .u8 10 .step (okRange 6 30),
    stg 0x3000 1 3 3 .u16 960 .step (okRange 200 2400), stg 0x3000 1 4 4 .bool 1 .step (okRange 0 1),
    stg 0x3000 1 5 5 .u16 100 .step (okRange 1 60000),
    stg 0x3000 1 6 6 .u32 125000 .step (okRange 1024 0xFFFFFFFF),
    stg 0x3000 1 7 7 .u8 64 .step (okRange 1 254), stg 0x3000 1 8 8 .u8 192 .step (okRange 2 255),
    stg 0x3000 1 9 9 .u32 1 .step (okRange 1 0xFFFFFFFF),
    stg 0x3000 1 10 10 .i32 (ofSigned 32 (-350)) .step (okSigned 32 (-2000) 500),
    stg 0x3000 1 11 11 .i32 (ofSigned 32 (-450)) .step (okSigned 32 (-2000) 500),
    stg 0x3000 1 12 12 .u16 10 .step (okRange 1 1000), stg 0x3000 1 13 13 .bool 1 .step (okRange 0 1),
    roe 0x3010 8 1 1 .enum, roe 0x3010 8 2 2 (.blob 8), roe 0x3010 8 3 3 (.blob 14) ] ++
  [ roe 0x3020 16 1 1 .enum, roe 0x3020 16 2 2 (.blob 8), roe 0x3020 16 3 3 (.blob 16),
    stg 0x3020 16 4 4 .i32 300 .step (okSigned 32 (-300) 800), stg 0x3020 16 5 5 .enum 1 .step (okRange 0 1),
    woe 0x3020 16 6 6 .u16 .step (fun _ v => decide (v / 4096 = 1 ∨ v / 4096 = 2)),
    roe 0x3020 16 7 7 (.blob 2),
    stg 0x3200 128 1 8 .enum 1 .quiesce (okRange 0 2), roe 0x3280 128 1 8 (.blob 16),
    roe 0x3300 128 1 8 (.blob 48), roe 0x3380 128 1 8 (.blob 8) ]

end Sys2Proof.Machine
end

