-- ==== Sys2Proof/Machine/Families.lean ====
section
/-! DEFINITION. Every family of entries of the Inventory (R304). -/

namespace Sys2Proof.Machine

/-- The families of every chapter's entry map. -/
def families : List Fam :=
  fams02 ++ fams03 ++ fams04 ++ fams05 ++ fams06 ++ fams08 ++ fams09 ++ fams10 ++ fams11 ++ fams12 ++ fams13 ++ fams14 ++
  fams15 ++ fams16 ++ fams17 ++ fams18

/-- The families whose indices lie in a region (R307, Table 14-3). -/
def famsIn (r : Nat) : List Fam :=
  match r with
  | 1 => fams15
  | 2 => fams02 ++ fams03 ++ fams16
  | 3 => fams11 ++ fams12
  | 4 => fams04 ++ fams18
  | 5 => fams05
  | 6 => fams08 ++ fams09 ++ fams16
  | 7 => fams06
  | 8 => fams13 ++ fams18
  | 9 => fams10
  | 10 => fams16 ++ fams17
  | 11 => fams15
  | 12 => fams15
  | 15 => fams14 ++ fams16
  | _ => []

end Sys2Proof.Machine
end

