-- ==== Sys2Proof/Machine/Crc.lean ====
section
/-! DEFINITION. The check algorithms of Table 03-5 and the fingerprint of R357, bit by bit. -/

namespace Sys2Proof.Machine

/-- `n` shifts of a reflected CRC register. -/
def crcReflShift (poly : Nat) : Nat → Nat → Nat
  | 0, c => c
  | n + 1, c => crcReflShift poly n (if c % 2 = 1 then (c / 2) ^^^ poly else c / 2)

/-- A reflected CRC over bytes, from a register value. -/
def crcRefl (poly : Nat) (b : List Byte) (init : Nat) : Nat :=
  b.foldl (fun c x => crcReflShift poly 8 (c ^^^ x.toNat)) init

/-- `n` shifts of a CRC register of width `w` that is not reflected. -/
def crcFwdShift (w poly : Nat) : Nat → Nat → Nat
  | 0, c => c
  | n + 1, c => crcFwdShift w poly n (if 2 * c ≥ 2 ^ w then (2 * c - 2 ^ w) ^^^ poly else 2 * c)

/-- A CRC of width `w` that is not reflected over bytes, from a register value. -/
def crcFwd (w poly : Nat) (b : List Byte) (init : Nat) : Nat :=
  b.foldl (fun c x => crcFwdShift w poly 8 (c ^^^ (x.toNat <<< (w - 8)))) init

/-- CRC-32C (Table 03-5). -/
def crc32c (b : List Byte) : Nat := crcRefl 0x82F63B78 b 0xFFFFFFFF ^^^ 0xFFFFFFFF

/-- CRC-32 of IEEE 802.3 (Table 03-5). -/
def crc32 (b : List Byte) : Nat := crcRefl 0xEDB88320 b 0xFFFFFFFF ^^^ 0xFFFFFFFF

/-- CRC-64/ECMA-182 (Table 03-5). -/
def crc64ecma (b : List Byte) : Nat := crcFwd 64 0x42F0E1EBA9EA3693 b 0

/-- CRC-64/WE, the fingerprint of R357. -/
def crc64we (b : List Byte) : Nat :=
  crcFwd 64 0x42F0E1EBA9EA3693 b 0xFFFFFFFFFFFFFFFF ^^^ 0xFFFFFFFFFFFFFFFF

/-- CRC-16/IBM-3740 (Table 03-5). -/
def crc16ibm3740 (b : List Byte) : Nat := crcFwd 16 0x1021 b 0xFFFF

end Sys2Proof.Machine
end

