-- ==== Sys2Proof/Machine/Operands.lean ====
section
/-! DEFINITION. The forms of the commands' operands: the bytes, checks and sizes of a Swent frame (R47 to R56). -/

namespace Sys2Proof

open Machine

/-- The base header without its header check: bytes 0 to 27 (Table 03-1). -/
def hdrBytes (h : Hdr) (x : Bool) : List Byte :=
  toBytes 28 (packBits [(4, h.version), (1, b2n x), (1, b2n h.e), (1, b2n h.h), (1, b2n h.ce), (3, h.tc), (5, h.rsv1),
    (8, h.opcode), (1, b2n h.a), (7, h.rsv3), (24, h.dst), (24, h.src), (3, h.rsv10), (13, h.len), (16, h.seq),
    (16, h.ack), (32, h.corr), (64, h.pcheck)])

/-- The collective extension's 16 bytes (Table 03-2). -/
def extBytes (e : Ext) : List Byte :=
  toBytes 16 (packBits [(24, e.ctx), (8, e.gen), (32, e.chunk), (4, e.phase), (20, e.member), (16, e.alive), (4, e.fmt),
    (1, b2n e.mx), (1, b2n e.part), (2, e.rsv45), (2, e.rsv46), (14, e.count)])

/-- The header check of a header and extension (R49). -/
def headerCheck (h : Hdr) (x : Option Ext) : Nat :=
  crc32c (hdrBytes h x.isSome ++ (match x with | some e => extBytes e | none => []))

/-- A frame with its header check computed afresh (R49). -/
def Frame.sealed (f : Frame) : Frame := { f with hdr := { f.hdr with hcheck := headerCheck f.hdr f.ext } }

/-- The header check and version of a frame pass (R48, R49). -/
def Frame.headerOk (f : Frame) : Bool :=
  decide (f.hdr.hcheck = headerCheck f.hdr f.ext ∧ f.hdr.version = 1)

/-- The bytes of a MAC header (R45). -/
def MacHdr.bytes (m : MacHdr) : List Byte :=
  toBytes 6 m.dst ++ toBytes 6 m.src ++ m.tags.flatMap (toBytes 4) ++ toBytes 2 m.ether

/-- The length of a MAC header: h of R53 is that of a frame's, 0 in native mode. -/
def MacHdr.len (m : MacHdr) : Nat := 14 + 4 * m.tags.length

/-- h of R53. -/
def Frame.macLen (f : Frame) : Nat := match f.mac with | some m => m.len | none => 0

/-- The bytes of a frame's Swent header and extension; none for a raw frame. -/
def Frame.headLen (f : Frame) : Nat := if f.raw then 0 else 32 + (if f.ext.isSome then 16 else 0)

/-- The bytes a frame has before its FCS. -/
def Frame.size (f : Frame) : Nat := f.macLen + f.headLen + f.payload.length + f.pad.length

/-- The flits of a frame (R54); those of a raw frame hold all its bytes. -/
def Frame.flits (f : Frame) : Nat :=
  max 1 (ceilDiv (if f.raw then f.size else 32 + (if f.ext.isSome then 16 else 0) + f.hdr.len) 64)

/-- A frame's bytes before its FCS, in transmission order (R44, R45, R47, R51). -/
def Frame.wire (f : Frame) : List Byte :=
  (match f.mac with | some m => m.bytes | none => []) ++
  (if f.raw then [] else hdrBytes f.hdr f.ext.isSome ++ toBytes 4 f.hdr.hcheck ++
    (match f.ext with | some e => extBytes e | none => [])) ++ f.payload ++ f.pad

/-- The correct FCS of a frame: the CRC-32 over every byte from its first to the last of its pad (R44). -/
def Frame.fcs (f : Frame) : Nat := crc32 f.wire

/-- What a received FCS says of a frame: correct, the tail mark (its ones' complement), or neither (R61). -/
def Frame.fcsState (f : Frame) (w : Nat) : Fcs :=
  if w = f.fcs then .good else if w = 0xFFFFFFFF - f.fcs then .marked else .bad

/-- The FCS that a frame is sent with: the correct one, or the tail mark (R61). -/
def Frame.fcsWord (f : Frame) : Fcs → Nat
  | .good => f.fcs
  | .marked | .bad => 0xFFFFFFFF - f.fcs

/-- Bytes of a frame before its FCS under R53, for a MAC header of h bytes. -/
def Frame.legalSize (f : Frame) (h : Nat) : Nat := max 60 (h + 32 + (if f.ext.isSome then 16 else 0) + f.hdr.len)

/-- The frame breaks R53. -/
def Frame.badSize (f : Frame) : Bool := decide (f.size ≠ f.legalSize f.macLen)

/-- The frame with zero pad to 60 bytes where it has fewer (R44). -/
def Frame.padded (f : Frame) : Frame :=
  let n := f.macLen + f.headLen + f.payload.length
  { f with pad := List.replicate (60 - n) 0 }

/-- The virtual channel of a class and a half (R27). -/
def vcOf (tc : Nat) (h : Bool) : Nat := 2 * tc + b2n h

/-- A virtual channel is credited (R62). -/
def credited (vc : Nat) : Bool := decide ((4 ≤ vc ∧ vc ≤ 11) ∨ vc = 14 ∨ vc = 15)

/-- The credited virtual channels in the order of Table 03-7. -/
def creditedVcs : List Nat := [4, 5, 6, 7, 8, 9, 10, 11, 14, 15]

/-- Adds a time in 2⁻⁸ ns to a correction field, with the saturation of R50. -/
def addCorr (c : Nat) (t : Int) : Nat :=
  if c = 0x7FFFFFFF then c
  else
    let v := toSigned 32 c + t
    if v ≥ 0x7FFFFFFF then 0x7FFFFFFF else ofSigned 32 v

/-- A span of fabric time in 2⁻⁸ ns, to the nearest, a half rounded up (R286). -/
def spanCorr (a b : FabricTime) : Int := (((a : Int) - b) + 128) / 256

/-- An ID is an endpoint's (R48). -/
def isEndpoint (i : Nat) : Bool := decide (i ≠ 0xFFFFFF)

/-- The frame keeps its row of Table 03-3: opcode, X, TC, IDs and length (R52, Table 03-4). -/
def Frame.rowOk (f : Frame) : Bool :=
  let h := f.hdr
  let x := f.ext.isSome
  let dE := isEndpoint h.dst
  let sE := isEndpoint h.src
  if h.opcode = 0x01 then !x && decide (h.tc ≤ 3) && dE && sE && decide (h.len ≤ 4096)
  else if h.opcode = 0x10 then x && decide (3 ≤ h.tc ∧ h.tc ≤ 5) && !dE && decide (h.len ≤ 4096)
  else if h.opcode = 0x11 then x && decide (3 ≤ h.tc ∧ h.tc ≤ 5) && !dE && !sE && decide (h.len ≤ 4096)
  else if h.opcode = 0x12 then x && decide (3 ≤ h.tc ∧ h.tc ≤ 5) && !sE && decide (h.len = 16)
  else if 0x20 ≤ h.opcode ∧ h.opcode ≤ 0x23 then !x && decide (h.tc = 6) && !dE && !sE && decide (h.len = 64)
  else if h.opcode = 0x30 then !x && decide (h.tc = 7) && decide (h.len ≤ 4096)
  else false

end Sys2Proof
end

