-- ==== Sys2Proof/Machine/Sm3.lean ====
section
/-! DEFINITION. SM3 (GB/T 32905, R7): the hash of the digests, measurements and identities. The spec names the
standard and gives no algorithm: PRESUMED from the standard (assumption 1). -/

namespace Sys2Proof.Machine

/-- A word of SM3. -/
abbrev W32 := BitVec 32

/-- The permutation P0. -/
def sm3P0 (x : W32) : W32 := x ^^^ x.rotateLeft 9 ^^^ x.rotateLeft 17

/-- The permutation P1. -/
def sm3P1 (x : W32) : W32 := x ^^^ x.rotateLeft 15 ^^^ x.rotateLeft 23

/-- The sixteen words of a 64-byte block. -/
def sm3Words (b : List Byte) : List W32 :=
  (List.range 16).map (fun i => BitVec.ofNat 32 (bytesFrom b (4 * i) 4))

/-- One more expanded word, from the words so far, latest first. -/
def sm3Next (w : List W32) : W32 :=
  let g := fun (i : Nat) => w.getD i 0
  sm3P1 (g 15 ^^^ g 8 ^^^ (g 2).rotateLeft 15) ^^^ (g 12).rotateLeft 7 ^^^ g 5

/-- Expands to `n` more words. -/
def sm3Expand : Nat → List W32 → List W32
  | 0, w => w
  | n + 1, w => sm3Expand n (sm3Next w :: w)

/-- The eight registers of the compression. -/
structure Sm3State where
  a : W32
  b : W32
  c : W32
  d : W32
  e : W32
  f : W32
  g : W32
  h : W32

/-- The initial value. -/
def sm3Init : Sm3State :=
  ⟨0x7380166f, 0x4914b2b9, 0x172442d7, 0xda8a0600, 0xa96f30bc, 0x163138aa, 0xe38dee4d, 0xb0fb0e4e⟩

/-- One round j with its words. -/
def sm3Round (s : Sm3State) (j : Nat) (w w4 : W32) : Sm3State :=
  let t : W32 := if j < 16 then 0x79cc4519 else 0x7a879d8a
  let ss1 := (s.a.rotateLeft 12 + s.e + t.rotateLeft (j % 32)).rotateLeft 7
  let ss2 := ss1 ^^^ s.a.rotateLeft 12
  let ff := if j < 16 then s.a ^^^ s.b ^^^ s.c else (s.a &&& s.b) ||| (s.a &&& s.c) ||| (s.b &&& s.c)
  let gg := if j < 16 then s.e ^^^ s.f ^^^ s.g else (s.e &&& s.f) ||| (~~~ s.e &&& s.g)
  let tt1 := ff + s.d + ss2 + (w ^^^ w4)
  let tt2 := gg + s.h + ss1 + w
  ⟨tt1, s.a, s.b.rotateLeft 9, s.c, sm3P0 tt2, s.e, s.f.rotateLeft 19, s.g⟩

/-- The 64 rounds over expanded words. -/
def sm3Rounds : Nat → Nat → List W32 → Sm3State → Sm3State
  | 0, _, _, s => s
  | n + 1, j, w, s => sm3Rounds n (j + 1) (w.drop 1) (sm3Round s j (w.getD 0 0) (w.getD 4 0))

/-- The compression of one block. -/
def sm3Block (s : Sm3State) (b : List Byte) : Sm3State :=
  let w := (sm3Expand 52 (sm3Words b).reverse).reverse
  let r := sm3Rounds 64 0 w s
  ⟨r.a ^^^ s.a, r.b ^^^ s.b, r.c ^^^ s.c, r.d ^^^ s.d, r.e ^^^ s.e, r.f ^^^ s.f, r.g ^^^ s.g, r.h ^^^ s.h⟩

/-- The compression of `n` blocks. -/
def sm3Blocks : Nat → List Byte → Sm3State → Sm3State
  | 0, _, s => s
  | n + 1, b, s => sm3Blocks n (b.drop 64) (sm3Block s (b.take 64))

/-- The padding of a message of `l` bytes. -/
def sm3Pad (l : Nat) : List Byte :=
  [0x80] ++ List.replicate ((55 + 64 - l % 64) % 64) 0 ++ toBytes 8 (8 * l)

/-- The SM3 digest of bytes, as a number of 256 bits, most significant byte first. -/
def sm3 (b : List Byte) : Nat :=
  let m := b ++ sm3Pad b.length
  let r := sm3Blocks (m.length / 64) m sm3Init
  packBits [(32, r.a.toNat), (32, r.b.toNat), (32, r.c.toNat), (32, r.d.toNat),
            (32, r.e.toNat), (32, r.f.toNat), (32, r.g.toNat), (32, r.h.toNat)]

end Sys2Proof.Machine
end

