-- ==== Sys2Proof/Machine/Ops.lean ====
section
/-! DEFINITION. The named operations that every meaning uses: records of lanes, ports and Crates, configuration values in
force, the Tally, events, free values. -/

namespace Sys2Proof.Machine

/-! ## Places -/

/-- The Crate of a lane (R8). -/
def crateOf (l : Nat) : Nat := l / 8
/-- A lane's place in its Crate (R8). -/
def laneIn (l : Nat) : Nat := l % 8
/-- The Hatch that serves a Crate (R14). -/
def hatchOf (n : Nat) : Nat := n / 16
/-- The die of a Crate (R8). -/
def dieOf (n : Nat) : Nat := n / 64
/-- The mesh column of a Crate (R8). -/
def colOf (n : Nat) : Nat := n % 8
/-- The mesh row of a Crate (R8). -/
def rowOf (n : Nat) : Nat := n % 64 / 8
/-- The lanes of a Crate. -/
def lanesOf (n : Nat) : List Nat := (List.range 8).map (fun k => 8 * n + k)
/-- Every lane. -/
def allLanes : List Nat := List.range 1024
/-- Every Crate. -/
def allCrates : List Nat := List.range 128

/-- The lane named by an identifier. -/
def Dev.lane (d : Dev) (l : Nat) : Lane := d.lanes.get {} l
/-- The lanes that are not as after reset, each once. -/
def Dev.livingLanes (d : Dev) : List Nat := (d.lanes.cells.map (fun p => p.1)).eraseDups
/-- Changes a lane. -/
def Dev.modLane (d : Dev) (l : Nat) (f : Lane → Lane) : Dev := { d with lanes := d.lanes.upd {} l f }
/-- Changes a lane's verification state. -/
def Dev.modDisc (d : Dev) (l : Nat) (f : Disc → Disc) : Dev := d.modLane l (fun x => { x with disc := f x.disc })
/-- Changes the sending side of a lane's link layer. -/
def Dev.modTx (d : Dev) (l : Nat) (f : LinkTx → LinkTx) : Dev := d.modLane l (fun x => { x with tx := f x.tx })
/-- Changes the receiving side of a lane's link layer. -/
def Dev.modRx (d : Dev) (l : Nat) (f : LinkRx → LinkRx) : Dev := d.modLane l (fun x => { x with rx := f x.rx })
/-- Changes a lane's time record. -/
def Dev.modLaneTime (d : Dev) (l : Nat) (f : LaneTime → LaneTime) : Dev :=
  d.modLane l (fun x => { x with time := f x.time })
/-- The port at a first lane. -/
def Dev.port (d : Dev) (p : Nat) : Port := d.ports.get {} p
/-- Changes a port. -/
def Dev.modPort (d : Dev) (p : Nat) (f : Port → Port) : Dev := { d with ports := d.ports.upd {} p f }
/-- A stack. -/
def Dev.stack (d : Dev) (k : Nat) : Stack := d.stackTab.get {} k
/-- Changes a stack. -/
def Dev.modStack (d : Dev) (k : Nat) (f : Stack → Stack) : Dev := { d with stackTab := d.stackTab.upd {} k f }
/-- A Crate's record. -/
def Dev.crate (d : Dev) (n : Nat) : Crate := d.crates.get {} n
/-- Changes a Crate's record. -/
def Dev.modCrate (d : Dev) (n : Nat) (f : Crate → Crate) : Dev := { d with crates := d.crates.upd {} n f }
/-- Fabric time as it reads: 80 bits in 2⁻¹⁶ ns (R283). -/
def Dev.now (d : Dev) : FabricTime := d.time.fab / 2 ^ 16 % 2 ^ 80
/-- The current step (R298). -/
def Dev.step (d : Dev) : Nat := d.time.step
/-- The Attic runs (R16, R332): it is neither halted nor restarting. -/
def Dev.atticRuns (d : Dev) : Bool := decide (d.attic.state = .running)
/-- The device sends something, recorded newest first. -/
def Dev.emit (d : Dev) (o : Out) : Dev := { d with out := o :: d.out }
/-- A fresh free value, and the device that has drawn it. -/
def Dev.draw (d : Dev) : Nat × Dev := (Config.freeNat d.draws, { d with draws := d.draws + 1 })

/-! ## Configuration values (R306, R317) -/

/-- The address of an entry as one number. -/
def ad (index sub : Nat) : Nat := index * 256 + sub

/-- The family row of an entry, if the manual defines it. -/
def famOf (index sub : Nat) : Option Fam :=
  (famsIn (index / 4096)).find? (fun f => decide (f.base ≤ index ∧ index < f.base + f.n ∧ f.lo ≤ sub ∧ sub ≤ f.hi))

/-- The highest subindex of an index that exists (R304). -/
def maxSub (index : Nat) : Option Nat :=
  (famsIn (index / 4096)).foldl (fun a f => if f.base ≤ index ∧ index < f.base + f.n then some (max f.hi (a.getD 0)) else a) none

/-- The default of an entry; that of the device MAC address is fused (Table 03-9). -/
def Dev.defaultOf (d : Dev) (a : Nat) : Nat :=
  if a = 0x20000A then d.mac
  else match famOf (a / 256) (a % 256) with
    | some f => f.dflt (a / 256 - f.base) (a % 256)
    | none => 0

/-- The committed base value in a table of base values. -/
def Dev.baseIn (d : Dev) (b : Tab Nat) (a : Nat) : Nat :=
  match (b.cells.find? (fun p => decide (p.1 = a))) with
  | some p => p.2
  | none => d.defaultOf a

/-- The committed base value of an entry. -/
def Dev.baseOf (d : Dev) (index sub : Nat) : Nat := d.baseIn d.inv.base (ad index sub)

/-- Whether an overlay item (Table 14-5) covers an entry, by the lane roles of a base table. -/
def Dev.itemCovers (d : Dev) (b : Tab Nat) (item a : Nat) : Bool :=
  let index := bytesAt 16 item 0 1
  let sub := bytesAt 16 item 2 2
  let scope := bits (bytesAt 16 item 3 3) 7 5
  let i := a / 256
  let s := a % 256
  if item = 0 then false
  else if scope = 0 then decide (i = index ∧ s = sub)
  else if ¬ (index ≤ i ∧ i < index + 128) then false
  else if scope = 1 then decide (s = sub)
  else
    let role := d.baseIn b (ad (0x2180 + (i - index)) s)
    decide (1 ≤ s ∧ s ≤ 8) &&
      (if scope = 2 then decide (role ≠ 0) else if scope = 3 then decide (role = 1)
       else if scope = 4 then decide (role = 2 ∨ role = 3) else false)

/-- The value that an overlay item gives an entry of a length in bytes. -/
def itemValue (item len : Nat) : Nat := item % 2 ^ 64 % 2 ^ (8 * len)

/-- The items of the overlays active under a base table. -/
def Dev.activeItems (d : Dev) (b : Tab Nat) : List Nat :=
  (setBits 8 (d.baseIn b (ad 0xF000 2))).flatMap (fun k =>
    (List.range 64).filterMap (fun s =>
      let v := d.baseIn b (ad (0xF100 + k) (s + 1))
      if v = 0 then none else some v))

/-- The value an entry has under a base table once no pending value holds it back: that of the active overlay item
that covers it, else the base value (R317). -/
def Dev.targetIn (d : Dev) (b : Tab Nat) (a : Nat) : Nat :=
  let i := a / 256
  if i / 4096 = 0xF ∨ i / 4096 = 0xB ∨ i / 4096 = 0xC ∨ i / 4096 = 1 ∨ (0x2180 ≤ i ∧ i < 0x2200) then d.baseIn b a
  else match (d.activeItems b).find? (fun it => d.itemCovers b it a) with
    | some it => itemValue it (match famOf i (a % 256) with | some f => f.ty.len | none => 8)
    | none => d.baseIn b a

/-- The value in force of a staged entry (R317). -/
def Dev.cfg (d : Dev) (index sub : Nat) : Nat :=
  match d.inv.held.get none (ad index sub) with
  | some v => v
  | none => d.targetIn d.inv.base (ad index sub)

/-- The key of a unit's held value of an address: the address plus (unit + 1) × 2²⁴. -/
def unitKey (a unit : Nat) : Nat := a + (unit + 1) * 2 ^ 24

/-- The value in force in one unit of a staged entry that each unit applies on its own (R311). -/
def Dev.cfgAt (d : Dev) (unit index sub : Nat) : Nat :=
  match d.inv.held.get none (unitKey (ad index sub) unit) with
  | some v => v
  | none => d.cfg index sub

/-- The value of an RW IMMEDIATE entry. -/
def Dev.imm (d : Dev) (index sub : Nat) : Nat :=
  match d.inv.imm.cells.find? (fun p => decide (p.1 = ad index sub)) with
  | some p => p.2
  | none => d.defaultOf (ad index sub)

/-- Held values give way to the committed ones (R311). -/
def Dev.unhold (d : Dev) (keys : List Nat) : Dev :=
  { d with inv := { d.inv with held := keys.foldl (fun (t : Tab (Option Nat)) k => t.put none k none) d.inv.held
                               heldBy := keys.foldl (fun (t : Tab Nat) k => t.put 0 k 0) d.inv.heldBy } }

/-- Writes an RW IMMEDIATE entry (R306). -/
def Dev.setImm (d : Dev) (index sub v : Nat) : Dev :=
  { d with inv := { d.inv with imm := d.inv.imm.put (d.defaultOf (ad index sub)) (ad index sub) v } }

/-- Commits a base value of an RW-STAGED entry (R313). -/
def Dev.setBase (d : Dev) (a v : Nat) : Dev :=
  { d with inv := { d.inv with base := d.inv.base.put (d.defaultOf a) a v } }

/-- A per-lane entry's value in force: family base, lane. -/
def Dev.laneCfg (d : Dev) (fam l : Nat) : Nat := d.cfg (fam + crateOf l) (laneIn l + 1)

/-- The role of a lane: 0 unused, 1 leaf-facing, 2 ring-east, 3 ring-west (Table 02-9). -/
def Dev.role (d : Dev) (l : Nat) : Nat := d.laneCfg 0x2180 l
/-- A lane has a ring role. -/
def Dev.isRing (d : Dev) (l : Nat) : Bool := decide (d.role l = 2 ∨ d.role l = 3)

/-! ## Step boundaries (R298) -/

/-- The step period in 2⁻¹⁶ ns (R298). -/
def Dev.stepUnits (d : Dev) : Nat := d.cfg 0x8000 4 * 1000 * 65536

/-- The fabric time of the boundary of step k, in 2⁻¹⁶ ns (R298). -/
def Dev.boundaryOf (d : Dev) (k : Nat) : Int :=
  (d.cfg 0x8000 6 * 65536 : Nat) + ((k : Int) - d.cfg 0x8000 5) * d.stepUnits

/-- The device's step at a timestamp: the step that R298 gives that fabric time, or the counter while it holds its value
after a backward jump (R296, R301). -/
def Dev.stepAt (d : Dev) (t : FabricTime) : Nat :=
  if (d.now : Int) < d.boundaryOf d.step then d.step
  else ((d.cfg 0x8000 5 : Int) + ((t : Int) - (d.cfg 0x8000 6 * 65536 : Nat)) / d.stepUnits).toNat

/-! ## Ports (R9) -/

/-- The ports of a Crate under the map in force: first lane and width. -/
def Dev.portsOf (d : Dev) (n : Nat) : List (Nat × Nat) :=
  (mapPorts (d.cfg (0x2100 + n) 1)).map (fun p => (8 * n + p.1, p.2))

/-- The first lane of the port that a lane belongs to, and its width. -/
def Dev.portOf (d : Dev) (l : Nat) : Nat × Nat :=
  ((d.portsOf (crateOf l)).find? (fun p => decide (p.1 ≤ l ∧ l < p.1 + p.2))).getD (l, 1)

/-- The lanes of the port at a first lane. -/
def Dev.portLanes (d : Dev) (p : Nat) : List Nat :=
  (List.range (d.portOf p).2).map (fun k => p + k)

/-! ## The Tally and events (R351 to R356, R374) -/

/-- Advances the Tally counter of a code and a source number by n, wrapping at 2⁶⁴ (R374). -/
def Dev.countN (d : Dev) (code src n : Nat) : Dev :=
  { d with tele := { d.tele with tally := d.tele.tally.upd 0 (code * 2048 + src) (fun v => wrapAdd 64 v n) } }

/-- Advances the Tally counter of a code and a source number (R374). -/
def Dev.count (d : Dev) (code src : Nat) : Dev := d.countN code src 1

/-- The Tally counter of a code and a source number. -/
def Dev.tallyOf (d : Dev) (code src : Nat) : Nat := d.tele.tally.get 0 (code * 2048 + src)

/-- `a` comes after `b` modulo 2³² (R355). -/
def seqAfter (a b : Nat) : Bool := decide (1 ≤ wrapSub 32 a b ∧ wrapSub 32 a b ≤ 2 ^ 31 - 1)

/-- The severity of a code: an override slot (0xAF10), else its default (R354). -/
def Dev.severity (d : Dev) (code : Nat) : Nat :=
  match (List.range 32).find? (fun s =>
      let v := d.cfg 0xAF10 (s + 1)
      bit v 31 && decide (v % 65536 = code)) with
  | some s => bits (d.cfg 0xAF10 (s + 1)) 17 16
  | none => defaultSeverity code

/-- Writes an event record into the log (R352): the next sequence number, the oldest record replaced when the log
holds 4,096. -/
def Dev.logEvent (d : Dev) (code kind src a b c : Nat) : Dev :=
  let sev := d.severity code
  let q := if d.log.latest = 0xFFFFFFFF then 1 else d.log.latest + 1
  let e : Event := ⟨q, code, sev, kind, d.step, d.now, src, a % 2 ^ 32, b % 2 ^ 64, c % 2 ^ 64⟩
  { d with log := { d.log with
      recs := (e :: d.log.recs).take 4096
      latest := q
      lost := if d.log.recs.length ≥ 4096 then d.log.lost + 1 else d.log.lost
      bySev := d.log.bySev.put 0 sev q } }

/-- Whether the rate limit of R352 lets an occurrence of a code and a source be raised now. -/
def Dev.mayRaise (d : Dev) (code key : Nat) : Bool :=
  !(rateLimited code) ||
    (match d.log.windows.get none (code * 2 ^ 32 + key) with
     | none => true
     | some s => decide (d.step - s ≥ 1024))

/-- Raises an event whose rate-limit source and Tally counter are named apart from its record's source number. -/
def Dev.raiseBy (d : Dev) (code kind tallySrc key src a b c : Nat) : Dev :=
  let d := d.count code tallySrc
  if d.mayRaise code key then
    let d := d.logEvent code kind src a b c
    if rateLimited code then
      { d with log := { d.log with windows := d.log.windows.put none (code * 2 ^ 32 + key) (some d.step) } }
    else d
  else d

/-- Raises an event of a source: its Tally count advances on every occurrence, and a record is written unless the rate
limit keeps it back (R352, R374). Kinds with one counter count at 0. -/
def Dev.raise (d : Dev) (code src : Nat) (a b c : Nat := 0) : Dev :=
  let k := (eventKind code).getD 0
  d.raiseBy code k (if kindCount k = 1 then 0 else src) src (if k = 0 ∨ k = 7 ∨ k = 8 then 0 else src) a b c

/-- Raises an event of the time unit: the device's root identity stands in detail B, 64 bits (R302). -/
def Dev.raiseTime (d : Dev) (code src : Nat) : Dev := d.raise code src 0 d.time.root

/-- Raises an event of a context (kind 7): generation in [31:24] and context ID in [23:0] of detail A (R353). -/
def Dev.raiseCtx (d : Dev) (code ctx gen : Nat) (b c : Nat := 0) : Dev :=
  d.raiseBy code 7 0 ctx 0 (gen % 256 * 2 ^ 24 + ctx % 2 ^ 24) b c

/-- Raises an event of a Chute cell (kind 10): source 16i + j, the Hatch in detail A (Table 16-1, Table 17-1). -/
def Dev.raiseCell (d : Dev) (code h cell : Nat) : Dev :=
  d.raiseBy code 10 (256 * h + cell) (256 * h + cell) cell h 0 0

/-- The alert sequence: that of the latest record at or above the alert threshold, 0 when there is none (R355). -/
def Dev.alertSeq (d : Dev) : Nat :=
  let thr := d.cfg 0xAF00 1
  (List.range 4).foldl (fun a v =>
    if v < thr then a
    else
      let q := d.log.bySev.get 0 v
      if q = 0 then a else if a = 0 ∨ seqAfter q a then q else a) 0

/-- ALERT_N is driven low (R355). -/
def Dev.alert (d : Dev) : Bool :=
  (decide (d.alertSeq ≠ 0) && seqAfter d.alertSeq d.log.acked) ||
    decide (d.attic.state = .restarting) || d.attic.bootFailed

end Sys2Proof.Machine
end

