-- ==== Sys2Proof/Machine/Mesh.lean ====
section
/-! DEFINITION. The mesh and the die bridge: the dimension-order route between two Crates, its hops, and the channels that
its routers grant (R8, R10, R98, R99, R101). -/

namespace Sys2Proof.Machine

/-- The Crate at a die, column and row (R8). -/
def crateAt (die x y : Nat) : Nat := 64 * die + 8 * y + x

/-- The positions from a to b along one axis, both included. -/
def walk (a b : Nat) : List Nat :=
  if a ≤ b then (List.range (b - a + 1)).map (fun k => a + k) else (List.range (a - b + 1)).map (fun k => a - k)

/-- The column at which a die's routers meet the bridge: x = 7 on the west die, x = 0 on the east die. -/
def bridgeCol (die : Nat) : Nat := if die = 0 then 7 else 0

/-- The Crates whose routers a flit passes from Crate a to Crate b, both included: x on the die where it starts, the bridge
on its own row, x on the destination die, then y (R10). -/
def meshPath (a b : Nat) : List Nat :=
  let rise := ((walk (rowOf a) (rowOf b)).drop 1).map (fun y => crateAt (dieOf b) (colOf b) y)
  if dieOf a = dieOf b then (walk (colOf a) (colOf b)).map (fun x => crateAt (dieOf a) x (rowOf a)) ++ rise
  else
    (walk (colOf a) (bridgeCol (dieOf a))).map (fun x => crateAt (dieOf a) x (rowOf a)) ++
      (walk (bridgeCol (dieOf b)) (colOf b)).map (fun x => crateAt (dieOf b) x (rowOf a)) ++ rise

/-- The distance between two positions on an axis. -/
def apart (a b : Nat) : Nat := (a - b) + (b - a)

/-- Mesh hops from Crate a to Crate b (R10). -/
def meshHops (a b : Nat) : Nat :=
  let dy := apart (rowOf a) (rowOf b)
  if dieOf a = dieOf b then apart (colOf a) (colOf b) + dy
  else if dieOf a = 0 then (7 - colOf a) + colOf b + dy
  else colOf a + (7 - colOf b) + dy

/-- Bridge crossings from Crate a to Crate b (R10). -/
def bridgeHops (a b : Nat) : Nat := if dieOf a = dieOf b then 0 else 1

/-- One hop of a route: the Crate whose router passes the flit on, the input it entered by (0 local, 1 x−, 2 x+, 3 y−,
4 y+), and the next Crate. A hop between the dies is a crossing of the bridge. -/
structure Hop where
  at_ : Nat
  input : Nat
  next : Nat
  deriving DecidableEq, Repr

/-- A hop crosses the die bridge. -/
def Hop.crosses (h : Hop) : Bool := decide (dieOf h.at_ ≠ dieOf h.next)

/-- The input of a router that faces the Crate a flit came from. -/
def inputFrom (here prev : Nat) : Nat :=
  if dieOf prev ≠ dieOf here then (if dieOf prev = 0 then 1 else 2)
  else if colOf prev < colOf here then 1 else if colOf here < colOf prev then 2
  else if rowOf prev < rowOf here then 3 else 4

/-- The hops along a list of Crates, entered by an input. -/
def hopsAlong : Nat → List Nat → List Hop
  | i, a :: b :: t => ⟨a, i, b⟩ :: hopsAlong (inputFrom b a) (b :: t)
  | _, _ => []

/-- The hops of the route from Crate a to Crate b; none from a Crate to itself. -/
def hops (a b : Nat) : List Hop := hopsAlong 0 (meshPath a b)

/-- Grants one channel for a hop of a message of a virtual network from a Crate: by the router, or by the arbiter of the
bridge's row link, whose requester is the sending Crate (R99, Table 04-6). -/
def Dev.grantHop (vn src : Nat) (d : Dev) (h : Hop) : Dev :=
  if h.crosses then
    let r := rowOf h.at_ * 16 + dieOf h.at_ * 8 + colOf src
    { d with arb := { d.arb with bridge := d.arb.bridge.upd 0 r (fun n => wrapAdd 64 n 1) } }
  else d.modCrate h.at_ (fun c => { c with path := { c.path with
    grants := c.path.grants.upd 0 (128 + 5 * vn + h.input) (fun n => wrapAdd 64 n 1) } })

/-- A message or a worm of a virtual network goes from Crate a to Crate b: a channel is granted at each hop (R99). -/
def Dev.trip (d : Dev) (vn a b : Nat) : Dev := (hops a b).foldl (Dev.grantHop vn a) d

/-- A broadcast, which replicates at each router along the paths of R10, reaches Crate b: the last hop of its path is its
own (R98). -/
def Dev.tripLast (d : Dev) (vn a b : Nat) : Dev :=
  match (hops a b).getLast? with | some h => d.grantHop vn a h | none => d

end Sys2Proof.Machine
end

