-- ==== Sys2Proof/Machine/Larder.lean ====
section
/-! DEFINITION. The Larder and the egress queues: storage accounts, open bits, queue entries, releases, skips and flushes
(R75 to R97), and the egress scheduler's charges (R131 to R140). -/

namespace Sys2Proof.Machine

/-- A Crate's data path. -/
def Dev.path (d : Dev) (n : Nat) : CratePath := (d.crate n).path
/-- Changes a Crate's data path. -/
def Dev.modPath (d : Dev) (n : Nat) (f : CratePath → CratePath) : Dev :=
  d.modCrate n (fun c => { c with path := f c.path })
/-- A lane's egress side. -/
def Dev.egress (d : Dev) (l : Nat) : Egress := (d.lane l).egress
/-- Changes a lane's egress side. -/
def Dev.modEgress (d : Dev) (l : Nat) (f : Egress → Egress) : Dev :=
  d.modLane l (fun x => { x with egress := f x.egress })
/-- A stored frame. -/
def Dev.heldAt (d : Dev) (h : Nat) : Option Held := d.held.get none h
/-- Stores or replaces a frame under its handle. -/
def Dev.putHeld (d : Dev) (h : Nat) (x : Held) : Dev := { d with held := d.held.put none h (some x) }
/-- Changes a stored frame. -/
def Dev.modHeld (d : Dev) (h : Nat) (f : Held → Held) : Dev :=
  match d.heldAt h with | some x => d.putHeld h (f x) | none => d
/-- Puts a message into the mesh. -/
def Dev.send (d : Dev) (m : Msg) : Dev := { d with net := d.net ++ [m] }
/-- The device with the messages in flight replaced. -/
def Dev.setNet (d : Dev) (n : List Msg) : Dev := { d with net := n }
/-! ## Messages of the mesh (R98, Table 04-4) -/

/-- The virtual network that carries a frame: VN3 for TC0 and TC1, else VN2. -/
def Dev.vnOf (d : Dev) (h : Nat) : Nat :=
  match d.heldAt h with | some x => if x.vc < 4 then 3 else 2 | none => 2

/-- The virtual network of a message. -/
def Dev.msgVn (d : Dev) : Msg → Nat
  | .pull _ _ => 0
  | .mdesc _ _ _ => 0
  | .push h _ _ => d.vnOf h
  | .desc h _ _ => d.vnOf h
  | .deferReply _ _ _ _ => 1
  | .announce _ _ => 1
  | .release _ _ => 1
  | .skip _ _ => 1
  | .reply _ _ _ => 1
  | .memberAbsent _ _ _ _ _ => 1
  | .openBit _ _ _ => 1

/-- The holding Crate of a stored frame. -/
def Dev.holder (d : Dev) (h : Nat) : Nat := match d.heldAt h with | some x => x.crate | none => 0

/-- The Crate a message comes from. -/
def Dev.msgFrom (d : Dev) : Msg → Nat
  | .push h _ _ => d.holder h
  | .desc h _ _ => d.holder h
  | .mdesc h _ _ => d.holder h
  | .pull _ l => crateOf l
  | .deferReply _ e _ _ => e
  | .announce e _ => e
  | .release _ s => s
  | .skip _ s => s
  | .reply _ _ s => s
  | .memberAbsent _ _ _ _ port => crateOf port
  | .openBit l _ _ => crateOf l

/-- A frame is held by a Crate. -/
def Dev.heldBy (d : Dev) (h c : Nat) : Bool := (d.heldAt h).any (fun x => decide (x.crate = c))

/-- A message is on its way to a Crate. -/
def Dev.msgTo (d : Dev) (c : Nat) : Msg → Bool
  | .push _ l _ => decide (crateOf l = c)
  | .desc _ l _ => decide (crateOf l = c)
  | .mdesc _ map _ => bit map c
  | .openBit _ _ map => bit map c
  | .pull h _ => d.heldBy h c
  | .deferReply h _ _ _ => d.heldBy h c
  | .release h _ => d.heldBy h c
  | .skip h _ => d.heldBy h c
  | .reply h _ _ => d.heldBy h c
  | .announce _ holder => decide (holder = c)
  | .memberAbsent home _ _ _ _ => decide (home = c)

/-- What is left of a message once it has reached a Crate: a broadcast goes on to the Crates it has still to reach. -/
def Msg.rest (c : Nat) : Msg → List Msg
  | .mdesc h map again => if clearBit map c = 0 then [] else [.mdesc h (clearBit map c) again]
  | .openBit l b map => if clearBit map c = 0 then [] else [.openBit l b (clearBit map c)]
  | _ => []

/-- Takes out the first message that satisfies a test and that no earlier one of the same path precedes; what is left of it
keeps its place. A path is a network and a source, none for a message that goes elsewhere; `seen` are those passed. -/
def takePath (path : Msg → Option (Nat × Nat)) (left : Msg → List Msg) (p : Msg → Bool) :
    List Msg → List (Nat × Nat) → Option (Msg × List Msg)
  | [], _ => none
  | m :: t, seen =>
    if p m && (path m).any (fun q => decide (q ∉ seen)) then some (m, left m ++ t)
    else (takePath path left p t (match path m with | some q => q :: seen | none => seen)).map (fun r => (r.1, m :: r.2))

/-- The path of a message to a Crate: messages of one virtual network from one Crate to another arrive in the order in which
they were sent (R94; for every network: DEDUCED, assumption 59). -/
def Dev.pathTo (d : Dev) (c : Nat) (m : Msg) : Option (Nat × Nat) :=
  if d.msgTo c m then some (d.msgVn m, d.msgFrom m) else none

/-- The channels that a message's way to a Crate takes (R98, R99). -/
def Dev.msgTrip (d : Dev) (c : Nat) (m : Msg) : Dev :=
  match m with
  | .mdesc _ _ false => d.tripLast (d.msgVn m) (d.msgFrom m) c
  | .openBit _ _ _ => d.tripLast (d.msgVn m) (d.msgFrom m) c
  | _ => d.trip (d.msgVn m) (d.msgFrom m) c

/-- The first message to a Crate that satisfies a test and may arrive now, and the device that it has reached. -/
def Dev.deliver (d : Dev) (c : Nat) (p : Msg → Bool) : Option (Msg × Dev) :=
  (takePath (d.pathTo c) (Msg.rest c) p d.net []).map (fun r => (r.1, (d.setNet r.2).msgTrip c r.1))

/-- Cells of a frame of f flits in an account or the shared pool (R80). -/
def cellsOf (f : Nat) : Nat := ceilDiv f 4

/-! ## Tagged frames (R383 to R386) -/

/-- An item follows a stored frame: a tagged frame, or a chunk round whose emission it is. -/
def Tagged.follows (i : Tagged) (h : Nat) : Bool := decide (i.key = h) && (decide (i.kind = 1) || i.sent)

/-- The stage of an item that stage k of the frame it follows gives: a chunk round has the first copy's transmit
timestamp at 6 and the last release at 7 (Table 17-6). -/
def Tagged.stageOf (i : Tagged) (k : Nat) : Option Nat :=
  if i.kind = 1 then some k else if k = 5 then some 6 else if k = 7 then some 7 else none

/-- Records a stage time of an item, the first time it is reached. -/
def Tagged.reach (i : Tagged) (k : Nat) (t : FabricTime) : Tagged :=
  match i.stageOf k with
  | some s => if i.stages.get none s = none then { i with stages := i.stages.put none s (some t) } else i
  | none => i

/-- Changes the items that follow a stored frame. -/
def Dev.mapItems (d : Dev) (h : Nat) (f : Tagged → Tagged) : Dev :=
  if d.tele.items.isEmpty then d
  else { d with tele := { d.tele with items := d.tele.items.map (fun (i : Tagged) => if i.follows h then f i else i) } }

/-- Records a stage time of a tagged frame, the first time it is reached (R385). -/
def Dev.stage (d : Dev) (h k : Nat) (t : FabricTime) : Dev := d.mapItems h (fun i => i.reach k t)

/-- Records the lane of a tagged frame's first copy (Table 17-6). -/
def Dev.stageLane (d : Dev) (h l : Nat) : Dev :=
  d.mapItems h (fun i => if i.egress = none then { i with egress := some l } else i)

/-- Sets the outcome of a tagged frame: 1 discarded, 2 tail-marked, 3 flushed (Table 17-6). -/
def Dev.tagOutcome (d : Dev) (h o : Nat) : Dev :=
  d.mapItems h (fun i => if i.kind = 1 then { i with outcome := o } else i)

/-- Records the sample ring holds: the COLD size in force in GiB, of 64 bytes each (R386). -/
def Dev.sampleCapacity (d : Dev) : Nat := d.cfg 0xA000 6 * 2 ^ 24

/-- The place of a record in the sample ring lies on a FAILED stack (R232, R242). -/
def Dev.sampleStruck (d : Dev) (index : Nat) : Bool :=
  decide (d.sampleCapacity ≠ 0 ∧ (d.stack (index % d.sampleCapacity * 64 / 4096 % 12)).status = .failed)

/-- Writes a finished item's sample record to the sample ring (R385, R386); on a FAILED stack it is struck at once, with event
0xA002 (R242, R393). -/
def Dev.writeSample (d : Dev) (i : Tagged) : Dev :=
  let n := d.tele.writeIndex
  let bad := d.sampleStruck n
  let d := { d with tele := { d.tele with
    writeIndex := wrapAdd 64 n 1, samples := ((⟨n, i, !bad⟩ : Sample) :: d.tele.samples).take d.sampleCapacity } }
  if bad then d.raise 0xA002 0 0 d.step else d

/-- A tagged frame is finished: its last copy has been released or discarded (R385). -/
def Dev.finishFrame (d : Dev) (h : Nat) : Dev :=
  match takeFirst (fun (i : Tagged) => i.follows h) d.tele.items with
  | none => d
  | some (i, rest) =>
    { d with tele := { d.tele with items := rest } }.writeSample
      (i.reach 7 d.now)

/-! ## Rings and accounts (R76 to R81) -/

/-- A lane's ring for a virtual channel. -/
def Dev.ring (d : Dev) (l vc : Nat) : Ring := (d.lane l).rx.rings.get {} vc
/-- Changes a lane's ring. -/
def Dev.modRing (d : Dev) (l vc : Nat) (f : Ring → Ring) : Dev :=
  d.modRx l (fun r => { r with rings := r.rings.upd {} vc f })

/-- Positions of a ring in use (R77). -/
def Ring.used (r : Ring) : Nat := r.runs.foldl (fun a x => a + x.flits) 0

/-- Returns to use the positions at the front of a ring whose frames are released: the runs left, the flits that count as
freed, and all the flits returned (R77, R78). -/
def ringReturn : List RingRun → List RingRun × Nat × Nat
  | [] => ([], 0, 0)
  | x :: t =>
    if x.free then
      let r := ringReturn t
      (r.1, (if x.counts then r.2.1 + x.flits else r.2.1), r.2.2 + x.flits)
    else (x :: t, 0, 0)

/-- A ring with the positions at its front returned to use: those that count are added to the freed count. -/
def Ring.settle (r : Ring) : Ring :=
  let q := ringReturn r.runs
  { r with runs := q.1, freed := wrapAdd 24 r.freed q.2.1
           front := if r.size = 0 then 0 else (r.front + q.2.2) % r.size }

/-- Takes positions of a ring behind all others for a frame (R77). -/
def Dev.takeRun (d : Dev) (l vc h flits : Nat) : Dev :=
  d.modRing l vc (fun r => { r with runs := r.runs ++ [⟨h, flits, false, true⟩] })

/-- Releases the positions a frame holds of a ring (R77); without credit under R78. -/
def Dev.freeRun (d : Dev) (l vc h : Nat) (counts : Bool) : Dev :=
  d.modRing l vc (fun r => { r with runs := r.runs.map (fun (x : RingRun) =>
    if x.held = h then { x with free := true, counts := x.counts && counts } else x) }.settle)

/-- The positions of a frame that is taken and passes on at once, behind any frames still held (R66, R77). -/
def Dev.passRun (d : Dev) (l vc flits : Nat) (counts : Bool) : Dev :=
  if credited vc then (d.takeRun l vc 0 flits).freeRun l vc 0 counts else d

/-- A frame's ring positions return without credit when they return (R78). -/
def Dev.uncount (d : Dev) (h : Nat) : Dev :=
  match d.heldAt h with
  | some x => match x.account with
    | .ring l vc => d.modRing l vc (fun q => { q with runs := q.runs.map (fun (y : RingRun) =>
        if y.held = h then { y with counts := false } else y) })
    | _ => d
  | none => d

/-- Frees what a stored frame holds in its account. -/
def Dev.freeStorage (d : Dev) (h : Nat) (x : Held) (counts : Bool) : Dev :=
  let n := cellsOf x.frame.flits
  match x.account with
  | .ring l vc => d.freeRun l vc h counts
  | .shared => d.modPath x.crate (fun p => { p with shared := p.shared - n })
  | .result => d.modPath x.crate (fun p => { p with result := p.result - n })
  | .attic => d.modPath x.crate (fun p => { p with attic := p.attic - n })

/-- Frees a stored frame's cells or ring positions and forgets it (R90, R94). -/
def Dev.dropHeld (d : Dev) (h : Nat) (counts : Bool := true) : Dev :=
  match d.heldAt h with
  | some x =>
    let d := d.freeStorage h x counts
    { d with held := d.held.put none h none }.finishFrame h
  | none => d

/-- The cells that the on-chip rings of a leaf-facing lane hold: those that its last gain of lock with empty rings took, or
the defaults (R70, Table 04-8). -/
def Dev.chipCells (d : Dev) (l : Nat) : Nat :=
  (d.lane l).rx.chip.getD ((List.range 10).foldl (fun b s => b + ringDefault (s + 1)) 0)

/-- Cells of the shared pool of a Crate: those given to no ring and no account (R76). Only leaf-facing
lanes have rings there. -/
def Dev.sharedSize (d : Dev) (n : Nat) : Nat :=
  let rings := (lanesOf n).foldl (fun a l =>
    if d.role l = 1 then a + d.chipCells l else a) 0
  8192 - rings - d.cfgAt n 0x4000 3 - (if n = 0 then d.cfg 0x4000 4 else 0)

/-- Free cells of the shared pool (R80). -/
def Dev.sharedFree (d : Dev) (n : Nat) : Nat := d.sharedSize n - (d.path n).shared

/-- Notes the free cells of the shared pool for its low-water mark (Table 04-8). -/
def Dev.notePool (d : Dev) (n : Nat) : Dev :=
  let f := d.sharedFree n
  d.modPath n (fun p => { p with sharedLow := some (min (p.sharedLow.getD f) f) })

/-- The shared pools whose free cells a change of configuration has moved are noted, before and after it (Table 04-8). -/
def Dev.notePools (d old : Dev) : Dev :=
  allCrates.foldl (fun (d : Dev) n =>
    let f0 := old.sharedFree n
    let f1 := d.sharedFree n
    if f0 = f1 then d
    else d.modPath n (fun p => { p with sharedLow := some (min (p.sharedLow.getD f0) (min f0 f1)) })) d

/-- A lane keeps its receive rings in the Cellar: it has a ring role, or its ring store is 1 (R76, R234). -/
def Dev.cellarStore (d : Dev) (l : Nat) : Bool := d.isRing l || decide (d.laneCfg 0x9180 l = 1)

/-- Cells of a ring with a flit position in use (R77, Table 04-8). -/
def Ring.cellsUsed (r : Ring) : Nat :=
  let u := r.used
  if u = 0 then 0 else min (ceilDiv r.size 4) ((r.front + u - 1) / 4 - r.front / 4 + 1)

/-- Free cells of a slice. -/
def Dev.freeCells (d : Dev) (n : Nat) : Nat :=
  let p := d.path n
  let rings := ((lanesOf n).filter (fun l => !d.cellarStore l)).foldl (fun (a : Nat) l =>
    creditedVcs.foldl (fun (a : Nat) vc => a + (d.ring l vc).cellsUsed) a) 0
  8192 - rings - p.shared - p.result - p.attic

/-- Records the most cells and queue entries that a Crate has had in use in the step now running (R387, Table 17-7). -/
def Dev.noteLeast (d : Dev) (n : Nat) : Dev :=
  let used := 8192 - d.freeCells n
  d.modPath n (fun p => { p with stepCells := max p.stepCells used, stepEntries := max p.stepEntries p.entries })

/-! ## Lanes that carry data -/

/-- The Crate may transmit on a lane: its modulator ring is in TRACK (R255). -/
def Dev.canSend (d : Dev) (l : Nat) : Bool := decide ((d.lane l).optics.modl.state = .track)

/-- A lane is confirmed: MATCH, its last valid hello carried Verified (R36), and its modulator ring in TRACK (R255). -/
def Dev.confirmed (d : Dev) (l : Nat) : Bool :=
  decide ((d.lane l).disc.status = .match_) && (d.lane l).disc.verified && d.canSend l

/-- A port carries data: UP or SUSPECT (Table 02-7). -/
def Dev.portCarries (d : Dev) (p : Nat) : Bool :=
  decide ((d.port p).state = .up) || decide ((d.port p).state = .suspect)

/-- A lane carries data (R37). -/
def Dev.carries (d : Dev) (l : Nat) : Bool := d.portCarries (d.portOf l).1 && d.confirmed l

/-- The lanes of a port that carry data, in order. -/
def Dev.carryingLanes (d : Dev) (p : Nat) : List Nat := (d.portLanes p).filter d.carries

/-- Flits of a lane's replay buffer: 64 KiB on a leaf-facing lane, 1 MiB on a lane with a ring role (R71). -/
def Dev.replayFlits (d : Dev) (l : Nat) : Nat := if d.isRing l then 16384 else 1024

/-- Flits that a lane's replay buffer holds, with the room reserved for a frame claimed or selected (R65, R88). -/
def Dev.replayUsed (d : Dev) (l : Nat) : Nat :=
  (d.lane l).tx.replay.foldl (fun a r => a + r.frame.flits) 0 +
    (match (d.egress l).sel with | some s => s.flits | none => 0)

/-- The replay buffer has room for f flits, and fewer than 32,768 frames are unacknowledged (R65). -/
def Dev.replayRoom (d : Dev) (l f : Nat) : Bool :=
  decide (d.replayUsed l + f ≤ d.replayFlits l ∧ (d.lane l).tx.replay.length < 32768)

/-- A queue of a lane. -/
def Egress.queue (e : Egress) (vc : Nat) : List QEntry := e.queues.get [] vc
/-- The flits queued on a virtual channel. -/
def Egress.depth (e : Egress) (vc : Nat) : Nat := (e.queue vc).foldl (fun a x => a + x.flits) 0
/-- The cells queued on a virtual channel (R84). -/
def Egress.cells (e : Egress) (vc : Nat) : Nat := (e.queue vc).foldl (fun a x => a + cellsOf x.flits) 0
/-- The 16 queues are empty. -/
def Egress.empty (e : Egress) : Bool := (List.range 16).all (fun vc => (e.queue vc).isEmpty)

/-- The lane meets the conditions of an open lane. -/
def Dev.openNow (d : Dev) (l : Nat) : Bool :=
  let e := d.egress l
  d.carries l && e.empty && e.sel.isNone && e.cur.isNone && d.replayRoom l 65

/-- Brings a lane's open bit up to date, and broadcasts a change (R86). -/
def Dev.refreshOpen (d : Dev) (l : Nat) : Dev :=
  let b := d.openNow l
  if b = (d.egress l).isOpen then d
  else (d.modEgress l (fun e => { e with isOpen := b })).send (.openBit l b (2 ^ 128 - 1))

/-- When all queues of a lane are empty and nothing is being transmitted, V and every last finish tag are 0 (R133). -/
def Dev.restTags (d : Dev) (l : Nat) : Dev :=
  let e := d.egress l
  if e.empty && e.cur.isNone && e.sel.isNone then
    d.modEgress l (fun e => { e with v := 0, fLast := {}, tags := {} })
  else d

/-! ## Charge and tags (R132, R133) -/

/-- A lane's port runs in Ethernet mode (R43). -/
def Dev.ethernet (d : Dev) (l : Nat) : Bool := decide (d.laneCfg 0x2300 l = 1)

/-- The MAC header that the device builds on a lane: neighbour and device address, no VLAN tag, the Swent EtherType; none
in native mode (R46). -/
def Dev.macOut (d : Dev) (l : Nat) : Option MacHdr :=
  if d.ethernet l then some ⟨d.laneCfg 0x2380 l % 2 ^ 48, d.cfg 0x2000 0xA % 2 ^ 48, [], d.cfg 0x2000 8⟩ else none

/-- Bytes of the MAC header on a lane's egress: 14 in Ethernet mode, without a VLAN tag (R46). -/
def Dev.macLen (d : Dev) (l : Nat) : Nat := if d.ethernet l then 14 else 0

/-- The charge of a frame: the bytes it occupies on the medium, of a Swent frame with a MAC header of h bytes (R132). -/
def chargeOf (f : Frame) (h : Nat) : Nat := (if f.raw then max 60 f.size else f.legalSize h) + 24

/-- A frame as it leaves a lane: its MAC header, its zero pad, its header check afresh (R44, R46, R49). -/
def Dev.dressed (d : Dev) (l : Nat) (f : Frame) : Frame := { f with mac := d.macOut l }.padded.sealed

/-- The weight of a virtual channel in a lane's profile (R135). -/
def Dev.weight (d : Dev) (l vc : Nat) : Nat := d.cfg (0x7010 + d.laneCfg 0x7100 l) (vc + 1)

/-- The finish tag of R133. -/
def finishTag (v fLast charge w : Nat) : Nat := (max v fLast + charge * 65536 / w) % 2 ^ 64

/-- Gives the head of a queue its finish tag if it has none (R133). -/
def Dev.tagHead (d : Dev) (l vc : Nat) : Dev :=
  let e := d.egress l
  match e.queue vc, e.tags.get none vc with
  | q :: _, none =>
    match d.heldAt q.held with
    | some x =>
      let t := finishTag e.v (e.fLast.get 0 vc) (chargeOf x.frame (d.macLen l)) (d.weight l vc)
      d.modEgress l (fun e => { e with tags := e.tags.put none vc (some t), fLast := e.fLast.put 0 vc t })
    | none => d
  | _, _ => d

/-! ## Congestion marking (R128) -/

/-- One step of the marking generator (R128). -/
def markStep (g : Nat) : Nat :=
  let fb := (g ^^^ (g >>> 2) ^^^ (g >>> 3) ^^^ (g >>> 5)) % 2
  (g >>> 1) ||| (fb <<< 15)

/-- The marking decision for a frame of class tc on a lane with q flits queued: whether it is marked, and the lane's
generator advanced where the decision draws (R128). -/
def Dev.markDecision (d : Dev) (l tc q : Nat) : Bool × Dev :=
  if tc = 6 ∨ d.cfg (0x5300 + tc) 1 = 0 then (false, d)
  else
    let lo := d.cfg (0x5300 + tc) 2
    let hi := d.cfg (0x5300 + tc) 3
    if q ≥ hi then (true, d)
    else if q < lo then (false, d)
    else
      let g := markStep (d.egress l).gen
      (decide (g < 65536 * (q - lo) / (hi - lo)), d.modEgress l (fun e => { e with gen := g }))

/-! ## Queue entries (R83) -/

/-- Queue entries of a Crate that are free. -/
def Dev.freeEntries (d : Dev) (n : Nat) : Nat := 16384 - (d.path n).entries

/-- Puts an entry at the end of a queue, with its marking decision and, at the head, its finish tag (R83, R128, R133). -/
def Dev.enqueue (d : Dev) (l vc h flits : Nat) (multi mark : Bool) : Dev :=
  let q := (d.egress l).depth vc
  let m := d.markDecision l (vc / 2) q
  let d := m.2
  let d := d.modEgress l (fun e =>
    let qs := e.queues.put [] vc (e.queue vc ++ [⟨h, flits, multi, mark || m.1, e.nextAt⟩])
    let deep := q + flits
    let all := (List.range 16).foldl (fun a c => a + (if c = vc then deep else e.depth c)) 0
    { e with queues := qs
             nextAt := e.nextAt + 1
             peaks := e.peaks.put 0 vc (max (e.peaks.get 0 vc) deep)
             stepDeep := max e.stepDeep all
             stepDeepVc := if all > e.stepDeep then
                 (List.range 16).foldl (fun b c =>
                   let dc := fun x => if x = vc then deep else e.depth x
                   if dc c > dc b then c else b) 0
               else e.stepDeepVc })
  let d := d.modPath (crateOf l) (fun p => { p with entries := p.entries + 1,
                                                     lossy := if vc < 4 then p.lossy + 1 else p.lossy })
  let d := d.noteLeast (crateOf l)
  ((d.tagHead l vc).refreshOpen l).stage h 2 d.now

/-- Queue entries have come free at a Crate: announces them to the Crates that have frames deferred there (R83). -/
def Dev.announceFree (d : Dev) (n : Nat) : Dev :=
  let owed := (d.path n).owed
  (owed.foldl (fun d h => d.send (.announce n h)) d).modPath n (fun p => { p with owed := [] })

/-- Counts n entries of a queue's class as free again. -/
def Dev.freeEntry (d : Dev) (l vc : Nat) : Dev :=
  (d.modPath (crateOf l) (fun p => { p with entries := p.entries - 1,
                                             lossy := if vc < 4 then p.lossy - 1 else p.lossy })).announceFree (crateOf l)

/-- Takes the head entry off a queue; the entry behind it becomes the head and is tagged (R133). -/
def Dev.popHead (d : Dev) (l vc : Nat) : Dev :=
  let d := d.modEgress l (fun e => { e with queues := e.queues.put [] vc ((e.queue vc).drop 1),
                                            tags := e.tags.put none vc none })
  (d.freeEntry l vc).tagHead l vc

/-! ## Releases, skips and member-absent notices (R90, R94, R95) -/

/-- Reports a skipped copy: the fenced-drop count and event 0x4005 of the lane, and, for a RESULT, a member-absent
notice to the context's home Crate (R95). -/
def Dev.skipReport (d : Dev) (l h : Nat) : Dev :=
  let x := d.heldAt h
  let d := d.raise 0x4005 l (match x with | some x => x.crate | none => 0)
  match x.bind (·.res) with
  | some r => d.send (.memberAbsent r.home r.ctx r.gen r.chunk (d.portOf l).1)
  | none => d

/-- Gives up a copy that was enqueued: a unicast frame is released, a multicast copy is skipped (R95, R96). -/
def Dev.giveUp (d : Dev) (l h : Nat) (multi : Bool) : Dev :=
  if multi then (d.skipReport l h).send (.skip h (crateOf l)) else (d.tagOutcome h 3).send (.release h (crateOf l))

/-- Sends the multicast descriptor of a stored frame to every Crate; to one for which a descriptor of its channel is deferred it
goes behind that one (R85, R92). -/
def Dev.sendMulticast (d : Dev) (h : Nat) : Dev :=
  match d.heldAt h with
  | none => d
  | some x =>
    let late := (d.waits.filter (fun w => decide (w.holder = x.crate ∧ w.vc = x.vc))).map (·.egress) |>.eraseDups
    let map := late.foldl clearBit (2 ^ 128 - 1)
    let d := { d with waits := d.waits ++ late.map (fun e => ⟨x.crate, e, x.vc, h, none, x.mark, false⟩) }
    if map = 0 then d else d.send (.mdesc h map false)

/-- Frees a frame of multicast once nothing is pending and no copy remains (R94), sending the column pass first when a
row pass has ended (R120). -/
def Dev.settleRecord (d : Dev) (h : Nat) : Dev :=
  match d.heldAt h with
  | none => d
  | some x =>
    match x.mrec with
    | none => d
    | some m =>
      if m.pending = 0 then
        match m.next with
        | some g =>
          (d.putHeld h { x with mrec := some { m with pending := 128, group := g, excluded := 0, next := none } }).sendMulticast h
        | none =>
          if m.refs = 0 then
            (if m.served then d else d.count 0x4E06 x.crate).dropHeld h
          else d
      else d

/-! ## The credit of a link (R63) -/

/-- The credit a lane holds on a virtual channel (R63). -/
def LinkTx.credit (t : LinkTx) (vc : Nat) : Nat :=
  if t.credited then
    let c := wrapSub 24 (t.limit.get 0 vc) (t.consumed.get 0 vc)
    if c ≥ 2 ^ 23 then 0 else c
  else 0

/-- The link credit covers f flits, or the channel needs none (R62, R63). -/
def Dev.creditCovers (d : Dev) (l vc f : Nat) : Bool :=
  !(credited vc) || decide ((d.lane l).tx.credit vc ≥ f)

/-! ## Shapers (R136 to R140) -/

/-- The kind of a shaper record. -/
def shKind (r : Nat) : Nat := bits (bytesAt 20 r 0 0) 1 0
/-- Rate A of a record: idleSlope or CIR, Mb/s. -/
def shRateA (r : Nat) : Nat := bytesAt 20 r 4 7
/-- Rate B of a record: PIR, Mb/s. -/
def shRateB (r : Nat) : Nat := bytesAt 20 r 8 11
/-- Burst A: hiCredit or the committed burst, bytes. -/
def shBurstA (r : Nat) : Nat := bytesAt 20 r 12 15
/-- Burst B: the peak burst, bytes. -/
def shBurstB (r : Nat) : Nat := bytesAt 20 r 16 19

/-- What a rate in Mb/s adds over a span of fabric time: rate × ns ÷ 8,000 bytes, with 16 fractional bits (R139). -/
def earned (rate span : Nat) : Int := ((rate * span / 8000 : Nat) : Int)

/-- Refills a shaper over a span, its queue empty or not (R137 to R139). -/
def Shaper.refill (s : Shaper) (queueEmpty : Bool) (span : Nat) : Shaper :=
  if shKind s.record = 1 then
    if !queueEmpty || decide (s.c < 0) then
      { s with c := min (s.c + earned (shRateA s.record) span) (shBurstA s.record * 65536) }
    else { s with c := min s.c 0 }
  else if shKind s.record = 2 then
    { s with c := min (s.c + earned (shRateA s.record) span) (shBurstA s.record * 65536)
             p := min (s.p + earned (shRateB s.record) span) (shBurstB s.record * 65536) }
  else s

/-- Installs a record: counts kept and clipped when the kind is unchanged, set afresh when it changes (R140). -/
def Shaper.install (s : Shaper) (r : Nat) : Shaper :=
  if shKind r = shKind s.record then
    if shKind r = 1 then { s with record := r, c := min s.c (shBurstA r * 65536) }
    else if shKind r = 2 then
      { s with record := r, c := min s.c (shBurstA r * 65536), p := min s.p (shBurstB r * 65536) }
    else { s with record := r }
  else if shKind r = 2 then { record := r, c := shBurstA r * 65536, p := shBurstB r * 65536 }
  else { record := r }

/-- The colour of a charge under a shaper: kinds 0 and 1 permit or hold (R137, R138). The credit tested is that of the moment:
the last refill's less the charges since (DESIGN CHOICE, assumption 60). -/
def Shaper.colour (s : Shaper) (charge : Nat) : Colour :=
  if shKind s.record = 1 then (if s.c ≥ 0 then .green else .red)
  else if shKind s.record = 2 then
    if s.p < charge * 65536 then .red else if s.c < charge * 65536 then .yellow else .green
  else .green

/-- Charges a shaper when a frame starts, by the colour it had when it was chosen. A claimed push may be red; it then takes
its charge from Tp only, as a yellow frame does (R137, R138; DESIGN CHOICE, assumption 60). -/
def Shaper.charged (s : Shaper) (charge : Nat) (col : Colour) : Shaper :=
  if shKind s.record = 1 then { s with c := s.c - charge * 65536 }
  else if shKind s.record = 2 then
    if col = .green then { s with c := s.c - charge * 65536, p := s.p - charge * 65536 }
    else { s with p := s.p - charge * 65536 }
  else s

/-- A shaper with its counts noted as its refill left them (Table 06-3). -/
def Shaper.noted (s : Shaper) : Shaper := { s with atRefill := (s.c, s.p) }

/-- Refills every shaper of a lane up to an instant (R139); at a step boundary also installs the records in force
(R140). -/
def Dev.refillLane (d : Dev) (l : Nat) (t : FabricTime) (boundary : Bool) : Dev :=
  let recs := if boundary then d.laneCfg 0x7200 l else 0
  d.modEgress l (fun e =>
    let span := t - e.refilled
    { e with refilled := t
             shapers := (List.range 16).foldl (fun s vc =>
               let x := (s.get {} vc).refill (e.queue vc).isEmpty span
               s.put {} vc (if boundary then x.install (shaperRecord recs vc) else x).noted) e.shapers })

/-! ## The order of sources at a frame boundary (R131) -/

/-- A lane is at a frame boundary: the Crate may transmit and no frame is in transmission. -/
def Dev.atBoundary (d : Dev) (l : Nat) : Bool := d.canSend l && (d.egress l).cur.isNone

/-- A LINK frame is due: the first after the gain of lock, or a link-frame interval has passed since the last (R64). -/
def Dev.linkDue (d : Dev) (l : Nat) (t : FabricTime) : Bool :=
  (d.lane l).rx.lock && (match (d.lane l).tx.linkSent with
    | none => true
    | some t0 => decide (t0 + d.cfg 0x2000 9 * 65536 ≤ t))

/-- The hello of the step is due on a lane (R31). -/
def Dev.helloDue (d : Dev) (l : Nat) : Bool :=
  let x := d.lane l
  x.rx.lock && !x.disc.freshLock && decide ((d.port (d.portOf l).1).state ≠ .down) && decide (x.disc.helloStep ≠ some d.step)

/-- The STEP frame of the step is due on a lane (R290). -/
def Dev.stepDue (d : Dev) (l : Nat) : Bool :=
  let x := d.lane l
  x.rx.lock && !x.disc.freshLock && decide (x.time.sentStep ≠ some d.step)

/-- A source of a lane's frames, in the order of R131. -/
inductive Source where
  | lnack | link | hello | step | replay | frame
  deriving DecidableEq, Repr

/-- A lane is at a frame boundary at an instant and no source that comes first has a frame due, so a frame of a source may
start (R131). -/
def Dev.mayStart (d : Dev) (l : Nat) (t : FabricTime) (s : Source) : Bool :=
  let x := d.lane l
  let lnack := x.rx.nackDue.isSome && x.rx.lock
  d.atBoundary l && (match s with
    | .lnack => true
    | .link => !lnack
    | .hello => !lnack && !d.linkDue l t
    | .step => !lnack && !d.linkDue l t && !d.helloDue l
    | .replay => !lnack && !d.linkDue l t && !d.helloDue l && !d.stepDue l
    | .frame => !lnack && !d.linkDue l t && !d.helloDue l && !d.stepDue l && x.tx.replayDue.isNone)

/-! ## Flush (R96) -/

/-- The queues of a lane and their heads' frames: the channel whose head arrived first, by its place in the order of storage
(R96). -/
def Egress.oldestHead (e : Egress) : Option Nat :=
  (List.range 16).foldl (fun b vc =>
    match (e.queue vc).head? with
    | none => b
    | some q =>
      match b.bind (fun w => (e.queue w).head?) with
      | none => some vc
      | some r => if q.at_ < r.at_ then some vc else b) none

/-- Removes n entries of a lane's queues, oldest first over the lane, and gives each copy up (R96). -/
def Dev.flushEntries : Nat → Dev → Nat → Dev
  | 0, d, _ => d
  | n + 1, d, l =>
    match (d.egress l).oldestHead with
    | none => d
    | some vc =>
      match ((d.egress l).queue vc).head? with
      | none => d
      | some q =>
        let chosen := (d.egress l).sel.any (fun s => decide (s.vc = vc) && !s.claimed)
        let done := chosen && (d.egress l).sel.any (·.done)
        let d := d.modEgress l (fun e => { e with
          queues := e.queues.put [] vc ((e.queue vc).drop 1), tags := e.tags.put none vc none
          sel := if chosen then none else e.sel })
        let d := (if done then d else d.giveUp l q.held q.multi).count 0x4E05 l
        Dev.flushEntries n (d.modPath (crateOf l) (fun p =>
          { p with entries := p.entries - 1, lossy := if vc < 4 then p.lossy - 1 else p.lossy })) l

/-- Entries in a lane's queues. -/
def Egress.entries (e : Egress) : Nat := (List.range 16).foldl (fun a vc => a + (e.queue vc).length) 0

/-- A frame abandoned in transmission is not counted as transmitted (R96). -/
def Egress.untransmit (e : Egress) (c : Tx) : Egress :=
  let tc := c.vc / 2
  { e with
    traffic := (e.traffic.upd 0 (4 * tc + 2) (fun n => wrapSub 64 n 1)).upd 0 (4 * tc + 3) (fun n => wrapSub 64 n c.charge)
    stepSent := e.stepSent - 1
    stepMarked := if c.marks then e.stepMarked - 1 else e.stepMarked
    marked := if c.marks then wrapSub 64 e.marked 1 else e.marked
    cur := none }

/-- Flushes one lane (R96): the open bit closes, a frame in transmission finishes only while the lane keeps lock, a
claimed push and every queue entry are given up. Answers how many frames. -/
def Dev.flushLane (d : Dev) (l : Nat) : Dev × Nat :=
  let e := d.egress l
  let d := if e.isOpen then
      (d.modEgress l (fun e => { e with isOpen := false })).send (.openBit l false (2 ^ 128 - 1)) else d
  let r1 : Dev × Nat :=
    match e.cur with
    | some c =>
      if (d.lane l).rx.lock then (d, 0)
      else (((if c.done then d else d.giveUp l c.held c.multi).count 0x4E05 l).modEgress l (fun e => e.untransmit c), 1)
    | none => (d, 0)
  let r2 : Dev × Nat :=
    match e.sel with
    | some s =>
      if s.claimed then
        (((if s.done then r1.1 else r1.1.giveUp l s.held s.multi).count 0x4E05 l).modEgress l (fun e => { e with sel := none }), r1.2 + 1)
      else r1
    | none => r1
  let d := Dev.flushEntries e.entries r2.1 l
  ((d.announceFree (crateOf l)).restTags l, r2.2 + e.entries)

/-- Flushes lanes: event 0x4004 once when at least one frame was removed or abandoned (R96). For a port of several lanes it
names the first (DESIGN CHOICE, assumption 61). -/
def Dev.flush (d : Dev) (ls : List Nat) : Dev :=
  let r := ls.foldl (fun (r : Dev × Nat) l => let x := r.1.flushLane l; (x.1, r.2 + x.2)) (d, 0)
  if r.2 = 0 then r.1 else r.1.raise 0x4004 (ls.headD 0) r.2

/-! ## Bad frames (R91) -/

/-- Removes the copies of a frame that no lane has begun: its entries in the queues and a selection not started; each
is released without transmission (R91). -/
def Dev.purge (d : Dev) (h : Nat) : Dev :=
  d.livingLanes.foldl (fun d l =>
    let e := d.egress l
    if (e.sel.any (fun s => decide (s.held = h))) || (List.range 16).any (fun vc => (e.queue vc).any (fun q => decide (q.held = h))) then
      let done := fun vc => e.sel.any (fun s => decide (s.held = h ∧ s.vc = vc) && s.done && !s.claimed)
      let d := match e.sel with
        | some s =>
          if s.held = h then
            (if s.claimed && !s.done then d.send (.release h (crateOf l)) else d).modEgress l (fun e => { e with sel := none })
          else d
        | none => d
      let d := (List.range 16).foldl (fun d vc =>
        let q := (d.egress l).queue vc
        let gone := q.filter (fun x => decide (x.held = h))
        if gone.isEmpty then d
        else
          let head := q.head?.any (fun x => decide (x.held = h))
          let d := d.modEgress l (fun e => { e with
            queues := e.queues.put [] vc (q.filter (fun x => decide (x.held ≠ h)))
            tags := if head then e.tags.put none vc none else e.tags })
          let d := (gone.drop (b2n (done vc))).foldl (fun d _ => d.send (.release h (crateOf l))) d
          (gone.foldl (fun d _ => d.freeEntry l vc) d).tagHead l vc) d
      (d.refreshOpen l).restTags l
    else d) d

/-- A stored frame becomes bad (R91): copies not yet begun are removed; one in transmission is tail-marked at its end. -/
def Dev.makeBad (d : Dev) (h : Nat) : Dev :=
  ((d.modHeld h (fun x => { x with bad := true })).tagOutcome h 1).purge h

/-! ## The staging buffer of a Cellar-store lane (R235) -/

/-- Keeps the newest flits of a staging buffer, 1,024 at most; answers what leaves it, a frame in part where only some of its
flits do (R235). -/
def stagingTrim : List (Nat × Nat) → Nat → List (Nat × Nat) × List (Nat × Nat)
  | [], _ => ([], [])
  | (h, f) :: t, room =>
    if f ≤ room then
      let r := stagingTrim t (room - f)
      ((h, f) :: r.1, r.2)
    else (if room = 0 then [] else [(h, room)], (h, f - room) :: t)

/-- The flit positions that a frame holds of a ring: the first, and how many (R77). -/
def Ring.place (r : Ring) (h : Nat) : Option (Nat × Nat) :=
  let before := r.runs.takeWhile (fun x => decide (x.held ≠ h))
  match r.runs.drop before.length with
  | [] => none
  | x :: _ => some ((r.front + before.foldl (fun a x => a + x.flits) 0) % max 1 r.size, x.flits)

/-- The stack on which a flit position of a Cellar ring lies: the rings are interleaved over the twelve stacks in units of
4 KiB, 64 flits (R234); that each begins on stack 0: DESIGN CHOICE, assumption 66. -/
def ringStack (pos : Nat) : Nat := pos / 64 % 12

/-- The stack on which the oldest of a frame's newest n flits lies, of a frame in a Cellar ring. -/
def Dev.flitStack (d : Dev) (h n : Nat) : Nat :=
  match d.heldAt h with
  | none => 0
  | some x => match x.account with
    | .ring l vc => (match (d.ring l vc).place h with
      | some q => ringStack ((q.1 + (q.2 - n)) % max 1 (d.ring l vc).size)
      | none => 0)
    | _ => 0

/-- A frame's flits enter the staging buffer of a Cellar-store lane; the oldest flits leave a full buffer. Those of a frame not
yet released are evicted; on a leaf-facing lane, whether the eviction write can be issued is the arbiter's timing, a free
value, and where it cannot the frame is discarded with event 0x9005, of the lane and of the stack of the oldest of those flits
(R235, R237, R244). -/
def Dev.stageFlits (d : Dev) (l h flits : Nat) : Dev :=
  if !(d.cellarStore l) then d
  else
    let r := stagingTrim ((h, flits) :: (d.lane l).rx.staged) 1024
    let d := d.modRx l (fun q => { q with staged := r.1 })
    let left := fun h => ((r.1.find? (fun q => decide (q.1 = h))).map (·.2)).getD 0
    r.2.foldl (fun d p =>
      match d.heldAt p.1 with
      | none => d
      | some x =>
        if d.isRing l || x.bad || x.gone then d
        else
          let c := d.draw
          if c.1 % 2 = 0 then c.2
          else ((c.2.modRx l (fun q => { q with stagingLost := wrapAdd 64 q.stagingLost 1 })).makeBad p.1).raise 0x9005 l
            (d.flitStack p.1 (p.2 + left p.1))) d

/-- A stored frame holds positions of a Cellar ring on a stack. -/
def Dev.heldOnStack (d : Dev) (h k : Nat) : Bool :=
  (d.heldAt h).any (fun x => match x.account with
    | .ring l vc => d.cellarStore l && (match (d.ring l vc).place h with
        | some p => (List.range p.2).any (fun i => decide (ringStack ((p.1 + i) % max 1 (d.ring l vc).size) = k))
        | none => false)
    | _ => false)

/-- A flit of a stored frame has left the staging buffer for its position on a stack (R235). -/
def Dev.evictedTo (d : Dev) (h k : Nat) : Bool :=
  (d.heldAt h).any (fun x => match x.account with
    | .ring l vc => d.cellarStore l && (match (d.ring l vc).place h with
        | some p =>
          let here := (((d.lane l).rx.staged.find? (fun q => decide (q.1 = h))).map (·.2)).getD 0
          (List.range (p.2 - here)).any (fun i => decide (ringStack ((p.1 + i) % max 1 (d.ring l vc).size) = k))
        | none => false)
    | _ => false)

/-- The shares of Cellar rings of these sizes in KiB include a stack (R234). -/
def ringsTouch (v k : Nat) : Bool := (List.range 10).any (fun j => decide (k < cellarRing v j / 4))

end Sys2Proof.Machine
end

