-- ==== Sys2Proof/Machine/Egress.lean ====
section
/-! DEFINITION. The egress side: descriptors, claims, selection, pulls, transmission, releases and multicast (R83 to R96,
R114, R120, R124, R131 to R134). -/

namespace Sys2Proof.Machine

/-! ## Acceptance of a descriptor (R83, R84, R96) -/

/-- A descriptor of a held frame that waited has been accepted: the next one behind it may go (R85). -/
def Dev.accepted (d : Dev) (h egress vc : Nat) : Dev :=
  match d.waits.find? (fun w => decide (w.held = h ∧ w.egress = egress)) with
  | none => d
  | some w0 =>
    let rest := d.waits.filter (fun w => !(decide (w.held = h ∧ w.egress = egress)))
    match rest.find? (fun w => decide (w.holder = w0.holder ∧ w.egress = egress ∧ w.vc = vc)) with
    | none => { d with waits := rest }
    | some n =>
      let d := { d with waits := rest.map (fun (w : Wait) =>
        if w.held = n.held ∧ w.egress = egress then { w with sent := true } else w) }
      match n.lane with
      | some l => d.send (.desc n.held l n.mark)
      | none => d.send (.mdesc n.held (2 ^ egress) true)

/-- An earlier frame of the same ingress lane and channel is still on its way to the same egress lane: its descriptor is
deferred, or in flight behind a deferral (R85). -/
def Dev.earlier (d : Dev) (l h : Nat) (x : Held) : Bool :=
  let mate := fun k => decide (k < h) && (d.heldAt k).any (fun y => decide (y.lane = x.lane ∧ y.vc = x.vc ∧ x.lane.isSome))
  d.waits.any (fun w => decide (w.lane = some l) && mate w.held) ||
    d.net.any (fun m => match m with
      | .deferReply k _ (some l') _ => decide (l' = l) && mate k
      | .desc k l' _ => decide (l' = l) && mate k
      | _ => false)

/-- A unicast descriptor at its egress lane: enqueued, deferred or refused (R83, R84, R96). One that an earlier deferred
frame of its ingress lane and channel would otherwise follow is deferred as well (R85; DEDUCED, assumption 59). -/
def Dev.takeDescriptor (d : Dev) (l h : Nat) (mark : Bool) : Dev :=
  match d.heldAt h with
  | none => d
  | some x =>
    let n := crateOf l
    let refuse := fun (d : Dev) => ((d.count 0x4E03 l).tagOutcome h 1).send (.release h n)
    if x.bad then (d.send (.release h n)).accepted h n x.vc
    else if !(d.carries l) then (refuse d).accepted h n x.vc
    else if x.vc < 4 then
      if (d.egress l).cells x.vc ≥ d.cfg 0x4000 5 then refuse (d.raise 0x4003 l)
      else if d.freeEntries n = 0 ∨ (d.path n).lossy ≥ d.cfg 0x4000 6 then refuse d
      else d.enqueue l x.vc h x.frame.flits false mark
    else if d.freeEntries n = 0 then
      let d := d.modPath n (fun p => { p with owed := if x.crate ∈ p.owed then p.owed else p.owed ++ [x.crate] })
      (d.raise 0x4006 n).send (.deferReply h n (some l) mark)
    else if d.earlier l h x then (d.raise 0x4006 n).send (.deferReply h n (some l) mark)
    else (d.enqueue l x.vc h x.frame.flits false mark).accepted h n x.vc

/-- DESCRIPTOR: the oldest unicast descriptor in flight to an egress lane arrives (R83). -/
def Dev.descriptor (d : Dev) (l : Nat) : Dev :=
  match d.deliver (crateOf l) (fun m => match m with | .desc _ l' _ => decide (l' = l) | _ => false) with
  | some (.desc h _ mark, d) => d.takeDescriptor l h mark
  | _ => d

/-- DEFER_REPLY: a defer reply reaches its holding Crate, which keeps the frame and waits (R83, R93). -/
def Dev.deferReply (d : Dev) (c : Nat) : Dev :=
  match d.deliver c (fun m => match m with | .deferReply _ _ _ _ => true | _ => false) with
  | some (.deferReply h egress lane mark, d) =>
    match d.heldAt h with
    | none => d
    | some x =>
      if d.waits.any (fun w => decide (w.held = h ∧ w.egress = egress)) then
        { d with waits := d.waits.map (fun (w : Wait) =>
            if w.held = h ∧ w.egress = egress then { w with sent := false } else w) }
      else { d with waits := d.waits ++ [⟨c, egress, x.vc, h, lane, mark, false⟩] }
  | _ => d

/-- FREE_ENTRY_ANNOUNCEMENT: a Crate's announcement reaches a holding Crate, which sends again the oldest descriptor
it has deferred there on each virtual channel (R83, R85). -/
def Dev.freeEntryAnnouncement (d : Dev) (egress holder : Nat) : Dev :=
  match d.deliver holder (fun m => decide (m = .announce egress holder)) with
  | some (_, d) =>
    (List.range 16).foldl (fun (d : Dev) vc =>
      match d.waits.find? (fun w => decide (w.holder = holder ∧ w.egress = egress ∧ w.vc = vc)) with
      | some w =>
        if w.sent then d
        else
          let d := { d with waits := d.waits.map (fun (y : Wait) =>
            if y.held = w.held ∧ y.egress = egress then { y with sent := true } else y) }
          match w.lane with
          | some l => d.send (.desc w.held l w.mark)
          | none => d.send (.mdesc w.held (2 ^ egress) true)
      | none => d) d
  | none => d

/-! ## The half a frame leaves in (R28, R124) -/

/-- The lane sends on a date-line link (R124, R280). -/
def Dev.dateLine (d : Dev) (l : Nat) : Bool :=
  let n := d.cfg 0x5000 2
  let dl := d.cfg 0x5000 3
  let hall := d.cfg 0x2000 2
  d.isRing l && (decide (d.laneCfg 0x3480 l = 1) ||
    (decide (n ≠ 1) && ((decide (d.role l = 2 ∧ hall = dl)) || (decide (d.role l = 3 ∧ hall = (dl + 1) % n)))))

/-- The virtual channel whose link credit a frame of a channel uses on a lane: that of half 1 once the date line raises it
(R63, R124). -/
def Dev.linkVc (d : Dev) (l vc : Nat) : Nat := if vc % 2 = 0 ∧ d.dateLine l = true then vc + 1 else vc

/-- PUSH_ARRIVAL: the head of a pushed frame reaches its egress lane, which claims it, or declines it and takes its
descriptor (R87, R96). -/
def Dev.pushArrival (d : Dev) (l : Nat) : Dev :=
  match d.deliver (crateOf l) (fun m => match m with | .push _ l' _ => decide (l' = l) | _ => false) with
  | some (.push h _ mark, d) =>
    match d.heldAt h with
    | none => d
    | some x =>
      if x.bad then d.send (.release h (crateOf l))
      else if !(d.carries l) then ((d.count 0x4E03 l).tagOutcome h 1).send (.release h (crateOf l))
      else if d.openNow l && d.creditCovers l (d.linkVc l x.vc) x.frame.flits && !d.earlier l h x then
        let m := d.markDecision l (x.vc / 2) 0
        let col := ((d.egress l).shapers.get {} x.vc).colour (chargeOf x.frame (d.macLen l))
        ((m.2.modEgress l (fun e =>
          { e with sel := some ⟨h, x.frame.flits, x.vc, false, mark || m.1, true, true, false, col⟩ })).refreshOpen l).stage h 2 d.now
      else (d.count 0x4E04 l).takeDescriptor l h mark
  | _ => d

/-! ## Selection (R131, R134) -/

/-- The colour of the head of a queue, none where the queue is not eligible (R134). -/
def Dev.eligible (d : Dev) (l vc : Nat) : Option Colour :=
  let e := d.egress l
  match (e.queue vc).head? with
  | none => none
  | some q =>
    match d.heldAt q.held with
    | none => none
    | some x =>
      let col := (e.shapers.get {} vc).colour (chargeOf x.frame (d.macLen l))
      if d.creditCovers l (d.linkVc l vc) q.flits && d.replayRoom l q.flits && decide (col ≠ .red) then some col else none

/-- The eligible queue with the smallest finish tag among those of a colour, the lower channel on a tie (R134). -/
def Dev.bestQueue (d : Dev) (l : Nat) (yellow : Bool) : Option Nat :=
  let vcs := [0, 1, 2, 3, 4, 5, 6, 7, 8, 9, 10, 11, 14, 15].filter (fun vc =>
    match d.eligible l vc with
    | some c => decide ((c = .yellow) = (yellow = true))
    | none => false)
  vcs.foldl (fun b vc =>
    match b with
    | none => some vc
    | some w =>
      let tag := fun c => ((d.egress l).tags.get none c).getD 0
      if tag vc < tag w then some vc else some w) none

/-- SCHEDULER_SELECTION: the lane's scheduler chooses the next queued frame and sends its pull (R88, R131, R134). -/
def Dev.schedulerSelection (d : Dev) (l : Nat) : Dev :=
  let e := d.egress l
  if e.sel.isSome then d
  else
    match (match d.bestQueue l false with | some vc => some vc | none => d.bestQueue l true) with
    | none => d
    | some vc =>
      match (e.queue vc).head? with
      | none => d
      | some q =>
        let col := (d.eligible l vc).getD .green
        let d := d.modEgress l (fun e => { e with sel := some ⟨q.held, q.flits, vc, q.multi, q.mark, false, false, false, col⟩ })
        ((d.send (.pull q.held l)).refreshOpen l).stage q.held 3 d.now

/-- The frame that the oldest pull of a lane asks for. -/
def Dev.pulled (d : Dev) (l : Nat) : Option Nat :=
  match d.net.find? (fun m => match m with | .pull _ l' => decide (l' = l) | _ => false) with
  | some (.pull h _) => some h
  | _ => none

/-- PULL: the oldest pull of a lane reaches the holding Crate, whose read port sends the frame's flits to the lane (R88). -/
def Dev.pull (d : Dev) (l : Nat) : Dev :=
  match d.pulled l with
  | some h =>
    match d.deliver (d.holder h) (fun m => decide (m = .pull h l)) with
    | some (_, d) =>
      let c := d.holder h
      let d := (d.modPath c (fun p => { p with grants := p.grants.upd 0 (2 * 128 + crateOf l) (fun n => wrapAdd 64 n 1) })).trip
        (d.vnOf h) c (crateOf l)
      d.modEgress l (fun e => { e with sel := e.sel.map (fun s => if s.held = h ∧ !s.claimed then { s with pulled := true } else s) })
    | none => d
  | none => d

/-! ## Transmission (R89, R131, E1 to E4) -/

/-- A lane's payload rate is the Strong one (Table 11-7). -/
def Dev.strong (d : Dev) (l : Nat) : Bool := decide (d.laneCfg 0x3200 l = 2)

/-- A frame may start before it is wholly stored: cut-through is enabled and the egress lane is no faster than the
lane it arrives on (R89). -/
def Dev.mayCutThrough (d : Dev) (l : Nat) (x : Held) : Bool :=
  decide (d.cfg 0x4000 2 = 1) &&
    (match x.lane with
     | some i => d.strong l || !(d.strong i)
     | none => false)

/-- Replaces n bytes of a list from an offset. -/
def patch (b : List Byte) (off : Nat) (new : List Byte) : List Byte :=
  b.take off ++ new ++ b.drop (off + new.length)

/-- A one-step insert (R288): the seconds and nanoseconds of the transmit timestamp at the originTimestamp's offset,
and its fraction added to the correctionField, bytes 8 to 15 of the message (IEEE 1588: PRESUMED, assumption 5). -/
def oneStep (b : List Byte) (off : Nat) (t : FabricTime) : List Byte :=
  let ns := t / 65536
  let b := patch b off (toBytes 6 (ns / 1000000000) ++ toBytes 4 (ns % 1000000000))
  patch b 8 (toBytes 8 ((bytesFrom b 8 8 + t % 65536) % 2 ^ 64))

/-- The frame as it leaves a lane at E3 and E4 (R46, R49, R124, R286, R288). -/
def Dev.rewrite (d : Dev) (l : Nat) (x : Held) (mark : Bool) (t : FabricTime) : Frame :=
  if x.frame.raw then
    match x.insert with
    | some off => { x.frame with payload := oneStep x.frame.payload off t }.padded
    | none => x.frame.padded
  else
    let tx := (d.lane l).tx
    let h := { x.frame.hdr with
      h := x.frame.hdr.h || d.dateLine l
      ce := x.frame.hdr.ce || mark || x.mark
      seq := tx.next
      a := true
      ack := (d.lane l).rx.expect
      corr := addCorr x.frame.hdr.corr (spanCorr t x.start) }
    d.dressed l { x.frame with hdr := h }

/-- Writes a timestamp queue entry, or counts an overflow (R288, R289). -/
def Dev.stampFor (d : Dev) (n tag l : Nat) (t : FabricTime) : Dev :=
  if (d.crate n).stamps.length ≥ 32 then
    (d.modCrate n (fun c => { c with stampLost := wrapAdd 64 c.stampLost 1 })).raiseTime 0x8003 n
  else d.modCrate n (fun c => { c with stamps := c.stamps ++ [⟨tag, l, t⟩] })

/-- FRAME_TRANSMISSION_START: the frame claimed or selected starts on its lane: its header is rewritten, it enters the
replay buffer, and credit, scheduler and shaper are charged (R65, R89, R131 to R138). -/
def Dev.transmissionStart (d : Dev) (l : Nat) (t : FabricTime) : Dev :=
  let e := d.egress l
  match e.sel, e.cur with
  | some s, none =>
    match d.heldAt s.held with
    | none => d
    | some x =>
      if !s.pulled || !(x.whole || d.mayCutThrough l x) || !(d.mayStart l t .frame) then d
      else
        let f := d.rewrite l x s.mark t
        let charge := chargeOf x.frame (d.macLen l)
        let sequenced := !x.frame.raw
        let cvc := d.linkVc l s.vc
        let tag := match e.tags.get none s.vc with
          | some g => if s.claimed then finishTag e.v (e.fLast.get 0 s.vc) charge (d.weight l s.vc) else g
          | none => finishTag e.v (e.fLast.get 0 s.vc) charge (d.weight l s.vc)
        let tc := x.frame.hdr.tc
        let marks := s.mark || x.mark
        let d := d.modEgress l (fun e => { e with
          sel := none
          cur := some ⟨s.held, s.vc, f.hdr.seq, s.multi, f, t, charge, s.done, marks, false⟩
          v := max e.v tag
          fLast := if s.claimed then e.fLast.put 0 s.vc tag else e.fLast
          shapers := e.shapers.upd {} s.vc (fun q => q.charged charge s.colour)
          traffic := (e.traffic.upd 0 (4 * tc + 2) (fun n => wrapAdd 64 n 1)).upd 0 (4 * tc + 3) (fun n => wrapAdd 64 n charge)
          grants := e.grants.upd 0 (if s.claimed then 16 else s.vc) (fun n => wrapAdd 64 n 1)
          stepTx := e.stepTx + charge
          stepSent := e.stepSent + 1
          stepMarked := if marks then e.stepMarked + 1 else e.stepMarked
          marked := if marks then wrapAdd 64 e.marked 1 else e.marked })
        let d := if s.claimed then d else d.popHead l s.vc
        let d := if sequenced then d.modTx l (fun q => { q with
            next := (q.next + 1) % 65536
            replay := q.replay ++ [⟨f.hdr.seq, f, t, .good⟩]
            consumed := if credited cvc then q.consumed.upd 0 cvc (fun n => wrapAdd 24 n s.flits) else q.consumed })
          else d
        let d := match x.stampTag with
          | some g => (d.stampFor (crateOf l) g l t).modHeld s.held (fun x => { x with stampTag := none })
          | none => d
        (((d.refreshOpen l).stage s.held 4 d.now).stage s.held 5 t).stageLane s.held l
  | _, _ => d

/-- The last flit of the frame claimed, selected or in transmission on a lane enters the replay buffer: its release
goes to the holding Crate (R90). -/
def Dev.releaseOn (d : Dev) (l : Nat) : Dev :=
  let e := d.egress l
  match e.cur with
  | some c =>
    if c.done || !((d.heldAt c.held).any (fun x => x.whole || x.bad)) then d
    else
      let bad := (d.heldAt c.held).any (·.bad)
      ((d.modEgress l (fun e => { e with cur := some { c with done := true, bad := bad } })).send
        (.release c.held (crateOf l))).stage c.held 6 d.now
  | none => d

/-- RELEASE: the last flit of a frame on its lane enters the replay buffer, or a contribution has been consumed
(R90); the release leaves for the holding Crate. -/
def Dev.release (d : Dev) (lane : Option Nat) (h : Nat) : Dev :=
  match lane with
  | some l =>
    let e := d.egress l
    match e.cur, e.sel with
    | some _, _ => d.releaseOn l
    | none, some s =>
      if s.pulled && !s.done && (d.heldAt s.held).any (fun x => x.whole) then
        ((d.modEgress l (fun e => { e with sel := some { s with done := true } })).send (.release s.held (crateOf l))).stage s.held 6 d.now
      else d
    | none, none => d
  | none =>
    if h ∈ d.consumed then
      { d with consumed := d.consumed.filter (fun k => decide (k ≠ h)) }.send (.release h (d.holder h))
    else d

/-- FRAME_TRANSMISSION_END: the lane finishes its frame; a frame that has become bad carries the tail mark, with
event 0x4011 (R61, R91). -/
def Dev.transmissionEnd (d : Dev) (l : Nat) : Dev :=
  match (d.egress l).cur with
  | none => d
  | some c =>
    let x := d.heldAt c.held
    if !c.done && !(x.any (fun x => x.whole || x.bad)) then d
    else
      let bad := c.bad || (x.any (·.bad) && !c.done)
      let d := if bad then (d.raise 0x4011 l).tagOutcome c.held 2 else d
      let d := if bad then d.modTx l (fun q => { q with replay := q.replay.map (fun r =>
          if r.seq = c.seq then { r with fcs := .marked } else r) }) else d
      let d := d.releaseOn l
      let d := d.emit (.frame l c.frame (c.frame.fcsWord (if bad then .marked else .good)) c.start)
      ((d.modEgress l (fun e => { e with cur := none })).restTags l).refreshOpen l

/-! ## Frame records (R90, R94) -/

/-- A release or a skip reaches the holding Crate of a frame (R90, R94). An upward contribution stays until its
context gives it up (R216). -/
def Dev.released (d : Dev) (h : Nat) : Dev :=
  match d.heldAt h with
  | none => d
  | some x =>
    match x.mrec with
    | some m => (d.putHeld h { x with mrec := some { m with refs := m.refs - 1 } }).settleRecord h
    | none => if x.upward.isSome then (d.putHeld h { x with gone := true }).finishFrame h else d.dropHeld h

/-- FRAME_RECORD_RELEASE: the oldest release or skip in flight to a holding Crate arrives. -/
def Dev.frameRecordRelease (d : Dev) (c : Nat) : Dev :=
  match d.deliver c (fun m => match m with | .release _ _ => true | .skip _ _ => true | _ => false) with
  | some (.release h _, d) => d.released h
  | some (.skip h _, d) => d.released h
  | _ => d

/-- REPLY: a descriptor reply reaches the holding Crate, which updates refs and pending (R94, R120). -/
def Dev.replyArrives (d : Dev) (c : Nat) : Dev :=
  match d.deliver c (fun m => match m with | .reply _ _ _ => true | _ => false) with
  | some (.reply h n _, d) =>
    (d.modHeld h (fun x => { x with mrec := x.mrec.map (fun m =>
        { m with pending := m.pending - 1, refs := m.refs + n }) })).settleRecord h
  | _ => d

/-! ## Multicast (R93, R114, R118, R120) -/

/-- Whether a port is a member of a group's pass: its bit is set and it is not in the excluded direction (R120). -/
def Dev.isMember (d : Dev) (g excluded p : Nat) : Bool :=
  bit (d.cfg (0x5400 + g / 64) (g % 64 + 1)) p && !(decide (excluded ≠ 0 ∧ d.role p = excluded))

/-- The lane of a member port for a copy: the fewest flits queued on the channel among the lanes that may carry data,
the lowest lane on a tie (R114). -/
def Dev.copyLane (d : Dev) (p vc : Nat) : Option Nat :=
  (d.carryingLanes p).foldl (fun b l =>
    match b with
    | none => some l
    | some w => if (d.egress l).depth vc < (d.egress w).depth vc then some l else some w) none

/-- Delivers a multicast descriptor to a Crate (R93): copies enqueued in ascending port order, skipped where a member
port carries no data, deferred or refused for want of entries, and the reply sent. -/
def Dev.testSlice (d : Dev) (c h : Nat) : Dev :=
  match d.heldAt h with
  | none => d
  | some x =>
    match x.mrec with
    | none => d
    | some m =>
      let ports := ((d.portsOf c).map (·.1)).filter (d.isMember m.group m.excluded)
      let lanes := ports.map (fun p => (p, if d.portCarries p then d.copyLane p x.vc else none))
      let want := (lanes.filter (fun q => q.2.isSome)).length
      let d := if want = 0 then d else d.modHeld h (fun x => { x with mrec := x.mrec.map (fun m => { m with served := true }) })
      let done := fun (d : Dev) (n : Nat) => (d.send (.reply h n c)).accepted h c x.vc
      if x.bad then done d 0
      else if x.vc ≥ 4 ∧ d.freeEntries c < want then
        let d := d.modPath c (fun p => { p with owed := if x.crate ∈ p.owed then p.owed else p.owed ++ [x.crate] })
        (d.raise 0x4006 c).send (.deferReply h c none x.mark)
      else
        let r := lanes.foldl (fun (r : Dev × Nat) q =>
          let d := r.1
          match q.2 with
          | none => (d.skipReport q.1 h, r.2)
          | some l =>
            if x.frame.hdr.h && d.dateLine l then (d.raise 0x5013 c x.frame.hdr.dst, r.2)
            else if x.vc < 4 ∧ (d.egress l).cells x.vc ≥ d.cfg 0x4000 5 then ((d.count 0x4E03 l).raise 0x4003 l, r.2)
            else if x.vc < 4 ∧ (d.freeEntries c = 0 ∨ (d.path c).lossy ≥ d.cfg 0x4000 6) then (d.count 0x4E03 l, r.2)
            else (d.enqueue l x.vc h x.frame.flits true x.mark, r.2 + 1)) (d, 0)
        done r.1 r.2

/-- MULTICAST_DESCRIPTOR: the oldest multicast descriptor still to reach a Crate arrives there. -/
def Dev.multicastDescriptor (d : Dev) (c : Nat) : Dev :=
  match d.deliver c (fun m => match m with | .mdesc _ _ _ => true | _ => false) with
  | some (.mdesc h _ _, d) => d.testSlice c h
  | _ => d

/-- OPEN_MAP_CHANGE: the oldest change of an open bit still to reach a Crate updates its open map (R86). -/
def Dev.openMapChange (d : Dev) (c l : Nat) : Dev :=
  match d.deliver c (fun m => match m with | .openBit l' _ _ => decide (l' = l) | _ => false) with
  | some (.openBit _ b _, d) => d.modPath c (fun p => { p with openMap := p.openMap.put false l b })
  | _ => d

/-! ## Descriptors that leave a holding Crate (R83, R85, R93) -/

/-- Stores the descriptor of a unicast frame in the mesh, behind any that waits for the same Crate and channel (R85). -/
def Dev.sendDescriptor (d : Dev) (h l : Nat) (x : Held) (mark : Bool) : Dev :=
  if d.waits.any (fun w => decide (w.holder = x.crate ∧ w.egress = crateOf l ∧ w.vc = x.vc)) then
    { d with waits := d.waits ++ [⟨x.crate, crateOf l, x.vc, h, some l, mark, false⟩] }
  else d.send (.desc h l mark)

end Sys2Proof.Machine
end

