-- ==== Sys2Proof/Machine/Link.lean ====
section
/-! DEFINITION. The link layer: sequences, replay, credits, LNACKs, and the gain and loss of PCS lock (R61 to R71). -/

namespace Sys2Proof.Machine

/-! ## Ring sizes and the gain of lock (R70, R77, R234) -/

/-- The committed size of a lane's ring for the k-th credited virtual channel, in flits (R77, R234). -/
def Dev.ringConfig (d : Dev) (l k : Nat) : Nat :=
  if d.cellarStore l then
    16 * cellarRing (d.targetIn d.inv.base (ad (0x9100 + crateOf l) (laneIn l + 1))) k
  else 4 * d.targetIn d.inv.base (ad 0x4001 (k + 1))

/-- The cells that the committed sizes give a lane's on-chip rings. -/
def Dev.chipConfig (d : Dev) : Nat := (List.range 10).foldl (fun b s => b + d.targetIn d.inv.base (ad 0x4001 (s + 1))) 0

/-- A lane's rings hold no frame. -/
def Dev.ringsEmpty (d : Dev) (l : Nat) : Bool := creditedVcs.all (fun vc => ((d.lane l).rx.rings.get {} vc).runs.isEmpty)

/-- A leaf-facing lane takes the committed sizes of its on-chip rings at a gain of lock: its rings hold no frame, and the
cells that they add are free in the shared pool (R70, R311). -/
def Dev.takesChip (d : Dev) (l : Nat) : Bool :=
  d.ringsEmpty l && !(d.isRing l) && decide (d.chipConfig ≤ d.chipCells l + d.sharedFree (crateOf l))

/-- A lane takes the committed sizes of the rings it uses at a gain of lock; those in the Cellar need no cells (R70, R234). -/
def Dev.takesSizes (d : Dev) (l : Nat) : Bool := if d.cellarStore l then d.ringsEmpty l else d.takesChip l

/-- The held ring sizes that a gain of lock brings into force: those of the on-chip rings that a leaf-facing lane takes, and those
of its Cellar rings where its rings hold no frame (R70, Tables 04-8, 10-5). -/
def Dev.sizesTaken (d : Dev) (l : Nat) : List Nat :=
  (if d.takesChip l then (List.range 10).map (fun k => unitKey (ad 0x4001 (k + 1)) l) else []) ++
    (if d.ringsEmpty l then [ad (0x9100 + crateOf l) (laneIn l + 1)] else [])

/-- The rings of a lane at a gain of lock: the committed sizes where it takes them, else those in force. Initial credit is the
size less the positions still held, which all count as freed when they return (R70). -/
def Dev.ringsAtLock (d : Dev) (l : Nat) : Tab Ring :=
  let old := (d.lane l).rx.rings
  let take := d.takesSizes l
  (List.range 10).foldl (fun t k =>
    let vc := creditedVcs.getD k 4
    let r := old.get {} vc
    let size := if take then d.ringConfig l k
      else if (d.lane l).rx.chip.isNone && !(d.cellarStore l) then 4 * ringDefault (k + 1) else r.size
    t.put {} vc { r with size := size, initial := size - r.used, freed := 0, runs := r.runs.map (fun x => { x with counts := true })
                         front := if size = r.size then r.front else 0 }) old

/-- The link layer of a lane starts afresh in both directions (R70), with its time exchange (R290). -/
def Dev.linkAfresh (d : Dev) (l : Nat) : Dev :=
  let d := d.notePool (crateOf l)
  let rings := d.ringsAtLock l
  let chip := if d.takesChip l then some d.chipConfig else (d.lane l).rx.chip
  ((d.unhold (d.sizesTaken l)).modLane l (fun x => { x with
    tx := {}
    rx := { x.rx with lock := true, expect := 0, nacked := none, nackDue := none, rx := none, rings := rings, chip := chip }
    time := { x.time with echoed := false, peerTx := 0, peerRx := 0, sentFirst := false, sentStep := none, step := none }
    egress := { x.egress with v := 0, fLast := {}, tags := {} } })).notePool (crateOf l)

/-! ## Acknowledgements (R65, R68) -/

/-- Sequences from the oldest unacknowledged frame to the next frame not yet sent, both included, hold e (R68). -/
def LinkTx.inWindow (t : LinkTx) (e : Nat) : Bool :=
  match t.replay with
  | [] => decide (e = t.next)
  | r :: _ => decide (wrapSub 16 e r.seq ≤ wrapSub 16 t.next r.seq)

/-- Acknowledges every sequence before e: the frames leave the replay buffer (R65). An e outside the window changes
nothing. -/
def LinkTx.ackBefore (t : LinkTx) (e : Nat) : LinkTx :=
  if t.inWindow e then
    match t.replay with
    | [] => t
    | r :: _ =>
      let n := wrapSub 16 e r.seq
      let left := t.replay.drop n
      let moved := decide (n ≠ 0)
      { t with replay := left
               replayOf := if moved then none else t.replayOf
               replays := if moved then 0 else t.replays
               replayDue := t.replayDue.bind (fun s =>
                 match left with
                 | [] => none
                 | q :: _ => if wrapSub 16 s q.seq < left.length then some s else some q.seq) }
  else t

/-- Takes an acknowledgement on a lane (R65). -/
def Dev.ackLane (d : Dev) (l e : Nat) : Dev := (d.modTx l (fun t => t.ackBefore e)).refreshOpen l

/-! ## LNACK requests (R66, R67) -/

/-- The acknowledgement deadline of a lane, 4 µs or 30 µs, in 2⁻¹⁶ ns (R69). -/
def Dev.ackDeadline (d : Dev) (l : Nat) : Nat := (if d.isRing l then 30000 else 4000) * 65536

/-- Asks at an instant for an LNACK(E) with a reason, unless one already sent holds further ones back: until E arrives
or the acknowledgement deadline has passed since it was sent (R67). One that has been asked for and not yet sent keeps the E
and the reason of the moment it was asked for (DESIGN CHOICE, assumption 62). -/
def Dev.askNack (d : Dev) (l reason : Nat) (t : FabricTime) : Dev :=
  let dl := d.ackDeadline l
  d.modRx l (fun r =>
    let holds := match r.nacked with | some t0 => decide (t < t0 + dl) | none => false
    if holds || r.nackDue.isSome then r else { r with nackDue := some (r.expect, reason) })

/-- A header in sequence E lets LNACKs flow again (R67). -/
def Dev.sawExpected (d : Dev) (l : Nat) : Dev := d.modRx l (fun r => { r with nacked := none })

/-- The frame at E is taken: E advances (R66). -/
def Dev.takeSeq (d : Dev) (l : Nat) : Dev := d.modRx l (fun r => { r with expect := (r.expect + 1) % 65536 })

/-! ## Lane resets and loss of lock (R35, R69, R91) -/

/-- What a lane's loss of PCS lock does to the frames on it: the frame arriving is cut short and bad, without credit
for its positions (R78, R91). -/
def Dev.cutArrival (d : Dev) (l : Nat) : Dev :=
  match (d.lane l).rx.rx with
  | none => d
  | some r =>
    let d := d.modRx l (fun q => { q with rx := none })
    match r.held with
    | none => (match r.freeVc with | some vc => d.freeRun l vc 0 false | none => d)
    | some h =>
      (d.uncount h).makeBad h

/-! ## TC6 frames the device sends -/

/-- The payload of a 64-byte control frame: its bytes 0 to 61 and their CRC-16 (Tables 02-4, 03-7, 13-3). -/
def controlPayload (b : List Byte) : List Byte := b ++ toBytes 2 (crc16ibm3740 b)

/-- The check of a control frame's payload passes. -/
def controlOk (p : List Byte) : Bool :=
  decide (p.length = 64) && decide (bytesFrom p 62 2 = crc16ibm3740 (p.take 62))

/-- A TC6 frame of an opcode with a payload, as a lane sends it: half 0, E = 0, link sequence 0, destination and
source 0xFF_FFFF (Table 03-3, R107). -/
def Dev.controlFrame (d : Dev) (l opcode : Nat) (p : List Byte) : Frame :=
  d.dressed l { hdr := { opcode := opcode, tc := 6, len := 64 }, payload := p }

/-- Sends a TC6 frame on a lane at an instant; the egress arbiter's record of VC 12 counts it (R131). -/
def Dev.sendControl (d : Dev) (l opcode : Nat) (p : List Byte) (t : FabricTime) : Dev :=
  let f := d.controlFrame l opcode p
  let charge := chargeOf f f.macLen
  (d.modEgress l (fun e => { e with
    grants := e.grants.upd 0 12 (fun n => wrapAdd 64 n 1)
    traffic := (e.traffic.upd 0 26 (fun n => wrapAdd 64 n 1)).upd 0 27 (fun n => wrapAdd 64 n charge) })).emit
      (.frame l f f.fcs t)

/-- The credit limit a lane reports for a virtual channel: the initial credit and all flits freed since the gain of
lock (R63). -/
def Dev.creditLimit (d : Dev) (l vc : Nat) : Nat :=
  let r := d.ring l vc
  (r.initial + r.freed) % 2 ^ 24

/-- LINK_SEND: the LINK frame that is due, with the credit limits and the next expected sequence (R63, R64). -/
def Dev.linkSend (d : Dev) (l : Nat) (t : FabricTime) : Dev :=
  if d.mayStart l t .link && d.linkDue l t then
    let b := creditedVcs.flatMap (fun vc => toBytes 3 (d.creditLimit l vc)) ++
      toBytes 2 (d.lane l).rx.expect ++ List.replicate 30 0
    (d.sendControl l 0x21 (controlPayload b) t).modTx l (fun q => { q with linkSent := some t })
  else d

/-- LNACK_SEND: the LNACK that is due is sent; event 0x2030 (R67, R72). -/
def Dev.lnackSend (d : Dev) (l : Nat) (t : FabricTime) : Dev :=
  match (d.lane l).rx.nackDue with
  | none => d
  | some (e, reason) =>
    if (d.lane l).rx.lock && d.mayStart l t .lnack then
      let b := toBytes 2 e ++ toBytes 1 reason ++ List.replicate 59 0
      let d := d.modRx l (fun r => { r with nackDue := none, nacked := some t })
      (d.sendControl l 0x22 (controlPayload b) t).raise 0x2030 l
    else d

/-- Starts a replay from a sequence, due at the lane's next frame boundary, unless it would be the ninth in a row of one
frame: then the lane is to be reset (R68, R69). Answers whether the lane must be reset. -/
def Dev.triggerReplay (d : Dev) (l e : Nat) : Dev × Bool :=
  let t := (d.lane l).tx
  match t.replay with
  | [] => (d, false)
  | r :: _ =>
    if t.replayOf = some r.seq ∧ t.replays ≥ 8 then (d, true)
    else (d.modTx l (fun t => { t with replayDue := some e }), false)

/-- REPLAY: the retransmission that is due begins at the lane's frame boundary: every frame from E on goes out again in
order, with A and acknowledgement current, the time since its first transmission added to its correction, and its
header check afresh (R68). Its frames are data, so it waits while the lane carries none (R37). -/
def Dev.replay (d : Dev) (l : Nat) (t : FabricTime) : Dev :=
  let q := (d.lane l).tx
  if !(d.mayStart l t .replay && d.carries l) then d else
  match q.replayDue, q.replay with
  | some e, r :: _ =>
    let from_ := q.replay.drop (wrapSub 16 e r.seq)
    let ack := (d.lane l).rx.expect
    let n := if q.replayOf = some r.seq then q.replays + 1 else 1
    let d := d.modTx l (fun q => { q with replayDue := none, replayOf := some r.seq, replays := n })
    from_.foldl (fun d x =>
      let f := { x.frame with hdr := { x.frame.hdr with
        a := true, ack := ack, corr := addCorr x.frame.hdr.corr (spanCorr t x.start) } }.sealed
      (d.modEgress l (fun e => { e with
        replayed := wrapAdd 64 e.replayed 1, stepReplayed := e.stepReplayed + 1,
        stepTx := e.stepTx + chargeOf f f.macLen })).emit (.frame l f (f.fcsWord x.fcs) t)) d
  | _, _ => d.modTx l (fun q => { q with replayDue := none })

end Sys2Proof.Machine
end

