-- ==== Sys2Proof/Machine/Discovery.lean ====
section
/-! DEFINITION. Discovery: hellos, lane status, port states, fences (R31 to R42, R365). -/

namespace Sys2Proof.Machine

/-! ## The configuration of a lane -/

/-- Planned neighbour identity of a lane, 0 for none (R29). -/
def Dev.planId (d : Dev) (l : Nat) : Nat := d.laneCfg 0x2200 l
/-- Planned neighbour port of a lane (R29). -/
def Dev.planPort (d : Dev) (l : Nat) : Nat := d.laneCfg 0x2280 l
/-- The port at a first lane is enabled: its enable bit is set, and it was set at a moment when a port could be enabled (R36, R337). -/
def Dev.enabled (d : Dev) (p : Nat) : Bool :=
  bit (d.cfg (0x2100 + crateOf p) 2) (laneIn p) && !(d.ports.get {} p).barred
/-- The fence bit of the port at a first lane. -/
def Dev.fenceBit (d : Dev) (p : Nat) : Bool := bit (d.cfg (0x2100 + crateOf p) 3) (laneIn p)
/-- A lane's fibre pair belongs to a Chute circuit (R15, R273). -/
def Dev.inCircuit (d : Dev) (l : Nat) : Bool :=
  bit (d.chutes.get {} (hatchOf (crateOf l))).used (crateOf l % 16)
/-- The replay stack of a lane (R230). -/
def replayStack (l : Nat) : Nat := 6 * (l / 512) + l % 6

/-- A lane's replay stack is FAILED, or a stack of its Cellar ring shares, so it is held IDLE (R242): the shares in force, or
those that its next gain of lock takes. -/
def Dev.stackHolds (d : Dev) (l : Nat) : Bool :=
  let sizes := if (d.lane l).rx.lock || !(d.ringsEmpty l) then d.laneCfg 0x9100 l
    else d.targetIn d.inv.base (ad (0x9100 + crateOf l) (laneIn l + 1))
  d.cellarStore l && (List.range 12).any (fun k => decide ((d.stackTab.get {} k).status = .failed) &&
    ((d.isRing l && decide (replayStack l = k)) || ringsTouch sizes k))

/-- Row 1 of Table 02-7: the port is held DOWN. A port of role 0 counts as disabled (Table 02-9). -/
def Dev.heldDown (d : Dev) (p : Nat) : Bool :=
  let ls := d.portLanes p
  !(d.enabled p) || ls.any d.inCircuit || ls.any (fun l => decide (d.role l = 0)) ||
    (ls.all (fun l => decide (d.planId l = 0)) && decide (d.cfg 0x2000 7 = 0))

/-! ## Port states (R36, R38) -/

/-- A lane is MISMATCH of kind CROSSED (reasons 3 and 4) or UNEXPECTED (Table 02-5). -/
def Dev.mismatched (d : Dev) (l : Nat) (crossed : Bool) : Bool :=
  let q := (d.lane l).disc
  decide (q.status = .mismatch) && (decide (q.reason = 3 ∨ q.reason = 4) == crossed)

/-- The state that Table 02-7 gives a port. -/
def Dev.portRow (d : Dev) (p : Nat) : PortState :=
  let ls := d.portLanes p
  let old := d.port p
  let conf := ls.filter d.confirmed
  if d.heldDown p then .down
  else if d.fenceBit p && decide (old.fence = .accepted) then .fenced
  else if d.fenceBit p && decide (old.fence = .governed) then .suspect
  else if ls.any (fun l => d.mismatched l true) then .crossed
  else if ls.any (fun l => d.mismatched l false) then .unexpected
  else if old.state = .up ∧ conf ≠ [] then .up
  else if conf.length = ls.length ∨ (old.timeout = true ∧ conf ≠ []) then .up
  else if old.timeout && ls.any (fun l => decide (d.planId l ≠ 0)) &&
      ls.all (fun l => !(d.lane l).disc.helloSinceTimeout) then .absent
  else if ls.any (fun l => decide ((d.lane l).disc.status ∈ [LaneStatus.counting, .match_, .lost])) then .upUnverified
  else .training

/-- The value of a port state (0x2580). -/
def PortState.code : PortState → Nat
  | .down => 0 | .training => 1 | .upUnverified => 2 | .up => 3 | .unexpected => 4 | .crossed => 5 | .absent => 6
  | .fenced => 7 | .suspect => 8

/-- A state that carries data. -/
def PortState.carries (s : PortState) : Bool := decide (s = .up ∨ s = .suspect)

/-- The mismatch reason that 0x2700 reads (Table 02-9). -/
def Dev.reasonOf (d : Dev) (l : Nat) : Nat :=
  let q := (d.lane l).disc
  let s := (d.port (d.portOf l).1).state
  if d.confirmed l then 0
  else match q.status with
    | .mismatch => q.reason
    | .counting => q.kept
    | .idle => if q.late && decide (s = .absent ∨ s = .training) then 9 else q.reason
    | .lost | .locked => if q.late then 10 else q.reason
    | .match_ => if q.late then 11 else q.reason

/-- The reason code of a port's events: that of its first lane with one (R40). -/
def Dev.portReason (d : Dev) (p : Nat) : Nat := (((d.portLanes p).map d.reasonOf).find? (fun r => decide (r ≠ 0))).getD 0

/-- Raises an event of a lane that carries its port number and reason code in details A and B (R40). -/
def Dev.raiseOnLane (d : Dev) (code l : Nat) : Dev := d.raise code l (d.portOf l).1 (d.reasonOf l)

/-- Starts the absence timeout of a port (R36). -/
def Dev.startTimeout (d : Dev) (p : Nat) : Dev :=
  let d := d.modPort p (fun q => { q with origin := d.step, timeout := false })
  (d.portLanes p).foldl (fun d l => d.modDisc l (fun q =>
    { q with helloSinceTimeout := false, late := false, kept := if q.kept ≤ 8 then q.kept else q.reason })) d

/-- Puts every Crate's spray pointer for a port to rest on its last lane, as its lane set has changed (R112). -/
def Dev.restSpray (d : Dev) (p : Nat) : Dev :=
  { d with crates := d.crates.mapAll {} (fun _ c => { c with path := { c.path with spray := c.path.spray.put 0 p 0 } }) }

/-- A lane's verification starts again, with lock (LOCKED) or without (IDLE): R35 rule 1, R39. Under R39 with lock kept
the seen neighbour stays. -/
def Dev.resetLane (d : Dev) (l : Nat) (locked keep : Bool) : Dev :=
  d.modDisc l (fun q => { q with
    status := if locked then .locked else .idle
    run := none, count := 0, reason := 0, lastSeq := none, verified := false, hadValid := false
    lastStep := d.step
    seenId := if keep then q.seenId else 0
    seenPort := if keep then q.seenPort else 0
    seenLane := if keep then q.seenLane else 0
    digest := if keep then q.digest else 0 })

/-- A lane drops PCS lock: IDLE, its arriving frame cut short (R35, R91). -/
def Dev.dropLock (d : Dev) (l : Nat) : Dev :=
  if (d.lane l).rx.lock then
    ((((d.modRx l (fun r => { r with lock := false, nackDue := none })).modLane l (fun x => { x with optics :=
        { x.optics with lockLosses := wrapAdd 64 x.optics.lockLosses 1, status := b2n x.optics.light } })).cutArrival l).resetLane
      l false false)
  else d

/-- Brings the spray set of a port up to date, with the events of R38: the lanes that now carry data against those
that did. -/
def Dev.reviewSpray (d : Dev) (p : Nat) (wasUp isUp : Bool) : Dev :=
  let ls := d.portLanes p
  let now := ls.filter (fun l => isUp && d.confirmed l)
  let before := ls.filter (fun l => (d.lane l).disc.inSpray)
  let gone := before.filter (fun l => decide (l ∉ now))
  let come := now.filter (fun l => decide (l ∉ before))
  let d := ls.foldl (fun d l => d.modDisc l (fun q => { q with inSpray := decide (l ∈ now) })) d
  let d := if wasUp && isUp then
      let d := gone.foldl (fun d l => (d.flush [l]).raise 0x2003 p (d.lane l).disc.reason) d
      come.foldl (fun d _ => d.raise 0x2004 p) d
    else if wasUp then d.flush ls
    else d
  let d := if gone.isEmpty && come.isEmpty then d else d.restSpray p
  ls.foldl (fun d l => d.refreshOpen l) d

/-- Evaluates a port (R36) and does what its change of state brings (R38, R40): one that leaves UP or SUSPECT starts its absence
timeout first. Event 0x2002 carries the reason and then the new state. A port that is held DOWN drops the lock
of its lanes: it must be trained again (R42). -/
def Dev.evalPort (d : Dev) (p : Nat) : Dev :=
  let old := (d.port p).state
  let reason := d.portReason p
  let leaves := old.carries && !(d.portRow p).carries
  let d := if leaves && d.enabled p then d.startTimeout p else d
  let new := d.portRow p
  let d := d.modPort p (fun q => { q with state := new })
  let d := if new = .up ∧ old ≠ .up then
      ((d.portLanes p).foldl (fun d l => d.modDisc l (fun q =>
        { q with late := false, kept := if q.kept ≤ 8 then q.kept else q.reason })) d).raise 0x2001 p (d.portReason p)
    else d
  let d := if leaves then d.raise 0x2002 p reason new.code else d
  let d := if new = .absent ∧ old ≠ .absent then d.raise 0x2012 p (d.portReason p) else d
  let d := d.reviewSpray p old.carries new.carries
  if new = .down then (d.portLanes p).foldl (fun d l => d.dropLock l) d else d

/-- Evaluates the port of a lane. -/
def Dev.evalLane (d : Dev) (l : Nat) : Dev := d.evalPort (d.portOf l).1

/-- Evaluates every port of a Crate. -/
def Dev.evalCrate (d : Dev) (n : Nat) : Dev := (d.portsOf n).foldl (fun d p => d.evalPort p.1) d

/-! ## The fence governor (R365) -/

/-- Fences accepted in the last W steps. -/
def Dev.fencesIn (d : Dev) : Nat :=
  (d.fences.filter (fun s => decide (s + d.cfg 0x2800 2 > d.step))).length

/-- Decides a fence at the commit step (R365). -/
def Dev.decideFence (d : Dev) (p : Nat) : Dev :=
  if d.fencesIn < d.cfg 0x2800 1 then
    (({ d with fences := d.step :: d.fences }).modPort p (fun q => { q with fence := .accepted })).raise 0x2040 p
  else (d.modPort p (fun q => { q with fence := .governed })).raise 0x2041 p

/-! ## Hellos -/

/-- The fields of a hello payload (Table 02-4). -/
structure Hello where
  identity : Nat
  role : Nat
  plane : Nat
  hall : Nat
  port : Nat
  width : Nat
  lane : Nat
  verified : Bool
  fenced : Bool
  suspect : Bool
  seq : Nat
  step : Nat
  digest : Nat
  plan : Nat
  deriving DecidableEq, Repr

/-- Reads a hello payload (Table 02-4). -/
def readHello (p : List Byte) : Hello :=
  let b := fun i => bytesFrom p i 1
  { identity := bytesFrom p 0 8, role := b 8 / 16, plane := b 8 % 8, hall := b 9 / 16
    port := bytesFrom p 10 2 % 1024, width := 2 ^ (b 12 / 64), lane := b 12 % 8
    verified := bit (b 13) 7, fenced := bit (b 13) 6, suspect := bit (b 13) 5
    seq := bytesFrom p 14 2, step := bytesFrom p 16 8, digest := bytesFrom p 24 32, plan := bytesFrom p 56 4 }

/-- The width field of Table 02-4. -/
def widthCode (w : Nat) : Nat := if w = 1 then 0 else if w = 2 then 1 else if w = 4 then 2 else 3

/-- The bytes of a hello payload, its check included (Table 02-4). -/
def helloBytes (h : Hello) : List Byte :=
  controlPayload (toBytes 62 (packBits [(64, h.identity), (4, h.role), (1, 0), (3, h.plane), (4, h.hall), (4, 0), (6, 0),
    (10, h.port), (2, widthCode h.width), (3, 0), (3, h.lane), (1, b2n h.verified), (1, b2n h.fenced), (1, b2n h.suspect),
    (5, 0), (16, h.seq), (64, h.step), (256, h.digest), (32, h.plan), (16, 0)]))

/-- A hello is malformed by its payload (R32), against the last sequence accepted on the lane. -/
def malformed (p : List Byte) (last : Option Nat) : Bool :=
  let h := readHello p
  !(controlOk p) || decide (h.role = 0 ∨ h.role > 3) || decide (h.identity = 0 ∨ h.identity = 0xFFFFFFFFFFFFFFFF) ||
    decide (h.lane ≥ h.width) || decide (last = some h.seq)

/-- Whether a hello's role suits a lane's role (R33). -/
def roleSuits (laneRole helloRole : Nat) : Bool :=
  if laneRole = 2 ∨ laneRole = 3 then decide (helloRole = 1) else decide (helloRole = 2)

/-- Whether a hello's plane and hall suit a lane's role (R33). -/
def Dev.placeSuits (d : Dev) (laneRole : Nat) (h : Hello) : Bool :=
  decide (h.plane = d.cfg 0x2000 1) &&
    (if laneRole = 2 ∨ laneRole = 3 then decide (h.hall ≠ d.cfg 0x2000 2) else decide (h.hall = d.cfg 0x2000 2))

/-- The identity is planned on some lane of this device. -/
def Dev.planned (d : Dev) (id : Nat) : Bool :=
  d.inv.base.cells.any (fun p => decide (ad 0x2200 0 ≤ p.1 ∧ p.1 < ad 0x2280 0) && decide (d.cfg (p.1 / 256) (p.1 % 256) = id)) ||
    (d.activeItems d.inv.base).any (fun it => decide (itemValue it 8 = id) &&
      allLanes.any (fun l => decide (d.planId l = id)))

/-- The outcome of a valid hello on a lane: a match (R33) or the first row of Table 02-5 that applies (R34). -/
def Dev.classify (d : Dev) (l : Nat) (h : Hello) : HelloOutcome :=
  let p := d.portOf l
  let id := d.planId l
  let role := d.role l
  if id = 0 then .miss 1
  else if h.identity ≠ id then (if d.planned h.identity then .miss 3 else .miss 2)
  else if h.port ≠ d.planPort l then .miss 3
  else if h.lane ≠ l - p.1 then .miss 4
  else if !(roleSuits role h.role) then .miss 5
  else if !(d.placeSuits role h) then .miss 6
  else if h.width ≠ p.2 then .miss 7
  else .hit

/-- Event 0x2010 or 0x2011 for a mismatch reason (Table 02-8). -/
def Dev.raiseMismatch (d : Dev) (l reason : Nat) : Dev :=
  d.raise (if reason = 3 ∨ reason = 4 then 0x2011 else 0x2010) (d.portOf l).1 reason

/-- Moves a lane's status by a valid hello with its outcome (R35 rules 2 to 5). -/
def Dev.moveLane (d : Dev) (l : Nat) (o : HelloOutcome) : Dev :=
  let q := (d.lane l).disc
  let vc := d.cfg 0x2000 4
  let same := decide (q.run = some o) && decide (q.status ≠ .locked ∧ q.status ≠ .lost)
  let count := if same then q.count + 1 else 1
  let need := if same then q.need else vc
  let kept := d.reasonOf l
  let keep := fun (d : Dev) (s : LaneStatus) =>
    d.modDisc l (fun q => { q with run := some o, count := count, need := need, status := s
                                   kept := if s = .counting ∧ q.status ≠ .counting then kept else q.kept })
  match q.status with
  | .idle => d
  | .locked | .lost | .counting =>
    if count ≥ need then
      match o with
      | .hit => (keep d .match_).modDisc l (fun q => { q with reason := 0 })
      | .miss r => ((keep d .mismatch).modDisc l (fun q => { q with reason := r })).raiseMismatch l r
    else keep d .counting
  | .match_ =>
    match o with
    | .hit => keep d .match_
    | .miss r =>
      let d := d.modDisc l (fun q => { q with status := .mismatch, reason := r, run := some o, count := 1, need := vc })
      (d.raise 0x2014 (d.portOf l).1 r).raiseMismatch l r
  | .mismatch =>
    if count ≥ need then
      match o with
      | .hit => (keep d .match_).modDisc l (fun q => { q with reason := 0 })
      | .miss r =>
        if r = q.reason then keep d .mismatch
        else ((keep d .mismatch).modDisc l (fun q => { q with reason := r })).raiseMismatch l r
    else keep d .mismatch

/-- The digest of a record that hellos of a lane carry: the ring digest on a ring lane, else the fabric digest (R321,
R322). -/
def FabricRecord.bytes (r : FabricRecord) (ring : Bool) : List Byte :=
  toBytes 64 (packBits [(16, 1), (8, r.period), (5, 0), (3, r.plane), (64, r.anchorStep), (64, r.anchorTime),
    (16, r.etherType), (16, 0), (256, r.label), (64, 0)]) ++
  (if ring then toBytes 8 (packBits [(8, r.halls), (8, r.dateLine), (16, r.spine), (32, 0)]) else [])

/-- The SM3 digest of a record (R321). -/
def FabricRecord.digest (r : FabricRecord) (ring : Bool) : Nat := sm3 (r.bytes ring)

/-- Compares a valid hello's digest with the device's own at the hello's step number (R322). -/
def Dev.compareDigest (d : Dev) (l : Nat) (h : Hello) : Dev :=
  let r := if h.step ≥ d.inv.changeStep then d.inv.fabricRec else d.inv.prevRec
  if h.digest = 0 then d.modDisc l (fun q => { q with digest := 3 })
  else if h.digest = r.digest (d.isRing l) then d.modDisc l (fun q => { q with digest := 1 })
  else (d.modDisc l (fun q => { q with digest := 2, disagreements := wrapAdd 64 q.disagreements 1 })).raise 0xF010 l

/-- Compares a hello's step number with the device's own step at its receive timestamp, outside FREE-RUN and ACQUIRING
(R301). -/
def Dev.compareStep (d : Dev) (l : Nat) (h : Hello) (t : FabricTime) : Dev :=
  let diff : Int := (d.stepAt t : Int) - h.step
  if d.time.clock ≤ 1 ∨ (-1 ≤ diff ∧ diff ≤ 1) then d
  else (d.modLaneTime l (fun x => { x with disagree := wrapAdd 64 x.disagree 1 })).raiseTime 0x8005 l

/-- Takes the payload of a hello on a lane (R32 to R35, R301, R322). -/
def Dev.takeHello (d : Dev) (l : Nat) (p : List Byte) (t : FabricTime) : Dev :=
  if malformed p (d.lane l).disc.lastSeq then d.raiseOnLane 0x2020 l
  else
    let h := readHello p
    let d := d.modDisc l (fun q => { q with
      seenId := h.identity, seenPort := h.port, seenLane := h.lane, lastSeq := some h.seq, verified := h.verified
      hadValid := true, lastStep := d.step, helloSinceTimeout := true })
    let d := ((d.moveLane l (d.classify l h)).compareDigest l h).compareStep l h t
    d.evalLane l

/-! ## Frames of TC6: the checks that come before their payload (R48, R49, R52, R53, R61) -/

/-- What a frame is on a lane by its framing: a Swent frame, an IEEE 1588 message, a foreign frame, or one whose framing is not
the lane's, where no Swent header stands in its place (R43, R45). -/
inductive Framing where
  | swent | ptp | other | broken
  deriving DecidableEq, Repr

/-- The framing of a frame on a lane: in Ethernet mode by its EtherType, whatever its addresses and VLAN tags (R45). -/
def Dev.framing (d : Dev) (l : Nat) (f : Frame) : Framing :=
  match f.mac with
  | none => if d.ethernet l then .broken else .swent
  | some m =>
    if !(d.ethernet l) then .broken
    else if m.ether = d.cfg 0x2000 8 then (if f.raw then .broken else .swent)
    else if m.ether = 0x88F7 then .ptp else .other

/-- A frame's header check and version pass on a lane: not those of a frame in the other framing mode (R43, R48, R49). -/
def Dev.headerOk (d : Dev) (l : Nat) (f : Frame) : Bool := decide (d.framing l f = .swent) && f.headerOk

/-- Checks a TC6 frame as it arrives: answers the device and whether its payload is to be taken. A header check that
fails asks for an LNACK (R66); it makes a hello malformed (R32). -/
def Dev.controlArrives (d : Dev) (l : Nat) (f : Frame) (fcs : Fcs) (t : FabricTime) : Dev × Bool :=
  if !(d.lane l).rx.lock || decide (d.framing l f = .ptp ∨ d.framing l f = .other) then (d, false)
  else if !(d.headerOk l f) then
    let d := if d.framing l f = .swent ∧ f.hdr.hcheck = headerCheck f.hdr f.ext then d.raise 0x2034 l else d
    (d.askNack l 2 t, false)
  else if !f.rowOk || f.badSize then (d.raise 0x2034 l, false)
  else
    match fcs with
    | .bad => (d, false)
    | .marked => (d.count 0x2E05 l, false)
    | .good =>
      let charge := chargeOf f f.macLen
      let d := d.modEgress l (fun e => { e with
        traffic := (e.traffic.upd 0 24 (fun n => wrapAdd 64 n 1)).upd 0 25 (fun n => wrapAdd 64 n charge) })
      let d := if f.hdr.a then d.ackLane l f.hdr.ack else d
      (d, true)

/-- The hello a lane sends at a transmit timestamp (R31, R301). -/
def Dev.helloOf (d : Dev) (l : Nat) (digest : Nat) (t : FabricTime) : Hello :=
  let p := d.portOf l
  { identity := d.attic.nodeId, role := 1, plane := d.cfg 0x2000 1, hall := d.cfg 0x2000 2, port := p.1, width := p.2
    lane := l - p.1, verified := decide ((d.lane l).disc.status = .match_)
    fenced := decide ((d.port p.1).state = .fenced), suspect := decide ((d.port p.1).state = .suspect)
    seq := (d.lane l).disc.txSeq, step := d.stepAt t, digest := digest, plan := d.cfg 0x2000 3 }

/-- HELLO_SEND: every locked lane of a port that is not DOWN sends the hello of the step, once, where it is at a frame boundary
and nothing goes first; not a lane that gained lock during the step (R31, R131). -/
def Dev.helloSend (d : Dev) (t : FabricTime) : Dev :=
  let fab := d.inv.fabricRec.digest false
  let ring := d.inv.fabricRec.digest true
  d.livingLanes.foldl (fun d l =>
    if d.helloDue l && d.mayStart l t .hello then
      (d.sendControl l 0x20 (helloBytes (d.helloOf l (if d.isRing l then ring else fab) t)) t).modDisc l
        (fun q => { q with txSeq := (q.txSeq + 1) % 65536, helloStep := some d.step })
    else d) d

/-- PCS_LOCK_GAINED: a lane whose port is in service to train becomes LOCKED, its link layer afresh (R35, R70). -/
def Dev.lockGained (d : Dev) (l : Nat) : Dev :=
  if (d.lane l).rx.lock || d.heldDown (d.portOf l).1 || d.stackHolds l || decide ((d.lane l).optics.drop.state ≠ .track) then d
  else
    let d := ((d.linkAfresh l).resetLane l true false).modLane l (fun x => { x with optics := { x.optics with status := 4 } })
    (d.modDisc l (fun q => { q with freshLock := true })).evalLane l

/-- PCS_LOCK_LOST: a lane becomes IDLE; its arriving frame and those it still sends are lost (R35, R91, R96). -/
def Dev.lockLost (d : Dev) (l : Nat) : Dev :=
  if (d.lane l).rx.lock then (d.dropLock l).evalLane l else d

/-- LANE_LOST: the dead count of steps in a row, those after the step of the last valid hello, has passed without one (R35
rule 6). -/
def Dev.laneLost (d : Dev) (l : Nat) : Dev :=
  let q := (d.lane l).disc
  if q.hadValid && decide (q.lastStep + d.cfg 0x2000 5 < d.step) && decide (q.status ≠ .idle ∧ q.status ≠ .locked ∧ q.status ≠ .lost) then
    (d.modDisc l (fun q => { q with status := .lost, verified := false })).evalLane l
  else d

/-- ABSENCE_TIMEOUT: an enabled port's absence timeout, measured from its origin, expires, and the port is evaluated (R36). Event
0x2013 is raised at this moment only, where the neighbour has not verified then (R40; DESIGN CHOICE, assumption 63). -/
def Dev.absenceTimeout (d : Dev) (p : Nat) : Dev :=
  let ls := d.portLanes p
  if (d.port p).timeout || !(d.enabled p) || decide (d.step < (d.port p).origin + d.cfg 0x2000 6) then d
  else
    let d := d.modPort p (fun q => { q with timeout := true })
    let d := ls.foldl (fun d l => d.modDisc l (fun q => { q with late := true })) d
    let d := if ls.any (fun l => decide ((d.lane l).disc.status = .match_)) && !(ls.any d.confirmed) then
        d.raise 0x2013 p 11 else d
    d.evalPort p

/-- The status value of 0x2500 (Table 02-6). -/
def LaneStatus.code : LaneStatus → Nat
  | .idle => 0 | .locked => 1 | .counting => 2 | .match_ => 3 | .mismatch => 4 | .lost => 5

/-- Changes of the plan, role, map, enables and fences that a commit brings (R36, R39, R365): the lanes whose
expectation changed, and the Crates concerned with their enable bits before. A decision stands while its fence bit stays set. -/
def Dev.portsChanged (d : Dev) (lanes : List Nat) (crates : List (Nat × Nat)) : Dev :=
  let d := lanes.foldl (fun d l => d.resetLane l (d.lane l).rx.lock (d.lane l).rx.lock) d
  let ports := crates.flatMap (fun c => (d.portsOf c.1).map (fun p => (p.1, c.2)))
  let d := ports.foldl (fun (d : Dev) q =>
    let p := q.1
    let wasOn := bit q.2 (laneIn p)
    let d := if wasOn then d else d.modPort p (fun x => { x with barred := d.attic.bootFailed })
    let d := if d.enabled p && !wasOn then d.startTimeout p else d
    if !(d.fenceBit p) then d.modPort p (fun x => { x with fence := .undecided })
    else if d.enabled p && decide ((d.port p).fence = .undecided) then d.decideFence p else d) d
  let d := crates.foldl (fun d c => d.evalCrate c.1) d
  (lanes.filter (fun l => decide (crateOf l ∉ crates.map (·.1)))).foldl (fun d l => d.evalLane l) d

end Sys2Proof.Machine
end

