-- ==== Sys2Proof/Machine/Hatches.lean ====
section
/-! DEFINITION. Hatches and optical links: ring loops, laser modules and spares, lane monitoring (R246 to R270, R409, R412). -/

namespace Sys2Proof.Machine

/-! ## Places -/

/-- The Hatch of a lane (R14). -/
def hatchOfLane (l : Nat) : Nat := hatchOf (crateOf l)
/-- The laser module that feeds a lane's modulator ring (R14, R257). -/
def moduleOfLane (l : Nat) : Nat := 2 * hatchOfLane l + crateOf l % 16 / 8
/-- The eight lanes that grid channel k of a laser module feeds (R14, R248). -/
def channelLanes (m k : Nat) : List Nat := (List.range 8).map (fun j => 8 * (16 * (m / 2) + 8 * (m % 2) + j) + k)
/-- The lanes of a Hatch. -/
def hatchLanes (h : Nat) : List Nat := (List.range 128).map (fun j => 128 * h + j)
/-- A ring's number in the calibration: 2 × lane, + 1 for the drop ring. -/
def ringOf (l : Nat) (drop : Bool) : Nat := 2 * l + b2n drop

/-- A Hatch. -/
def Dev.hatch (d : Dev) (h : Nat) : Hatch := d.hatches.get {} h
/-- Changes a Hatch. -/
def Dev.modHatch (d : Dev) (h : Nat) (f : Hatch → Hatch) : Dev := { d with hatches := d.hatches.upd {} h f }
/-- A laser module. -/
def Dev.module (d : Dev) (m : Nat) : Module := d.modules.get {} m
/-- Changes a laser module. -/
def Dev.modModule (d : Dev) (m : Nat) (f : Module → Module) : Dev := { d with modules := d.modules.upd {} m f }
/-- A lane's optical side. -/
def Dev.optics (d : Dev) (l : Nat) : Optics := (d.lane l).optics
/-- Changes a lane's optical side. -/
def Dev.modOptics (d : Dev) (l : Nat) (f : Optics → Optics) : Dev := d.modLane l (fun x => { x with optics := f x.optics })
/-- A ring's loop: that of the drop ring, or of the modulator ring. -/
def Optics.loop (o : Optics) (drop : Bool) : Loop := if drop then o.drop else o.modl
/-- A ring's loop. -/
def Dev.loop (d : Dev) (l : Nat) (drop : Bool) : Loop := (d.optics l).loop drop
/-- Replaces a ring's loop. -/
def Dev.putLoop (d : Dev) (l : Nat) (drop : Bool) (x : Loop) : Dev :=
  d.modOptics l (fun o => if drop then { o with drop := x } else { o with modl := x })

/-! ## Status (R266) -/

/-- A loop has settled: OFF, TRACK or FAULT. -/
def Loop.settled (x : Loop) : Bool := decide (x.state = .off ∨ x.state = .track ∨ x.state = .fault)

/-- The lane's loops are to be OFF: its role is 0 or its fibre belongs to a circuit (R250). -/
def Dev.loopsOff (d : Dev) (l : Nat) : Bool := decide (d.role l = 0) || d.inCircuit l

/-- The laser channel that feeds a lane's modulator ring gives light: the module is READY and the channel has a source. -/
def Dev.fedByLaser (d : Dev) (l : Nat) : Bool :=
  let m := d.module (moduleOfLane l)
  let k := laneIn l
  decide (m.status = 2) && (!(bit m.failed k) || decide (m.source.getD k 0xFF = 8 ∨ m.source.getD k 0xFF = 9) ||
    (match m.sparing with | some (c, _, .relocking) => decide (c = k) | _ => false))

/-- The loops of a lane have been through their calibration: each has settled, and a modulator loop that has its laser's light is
not still OFF (R250, R266). -/
def Dev.laneSettled (d : Dev) (l : Nat) : Bool :=
  (d.optics l).modl.settled && (d.optics l).drop.settled &&
    (decide ((d.optics l).modl.state ≠ .off) || d.loopsOff l || !(d.fedByLaser l))

/-- Brings a Hatch's calibration up to date (R266, R409). -/
def Dev.reviewHatch (d : Dev) (h : Nat) : Dev :=
  let x := d.hatch h
  if x.started && x.warm && !x.calibrated && (hatchLanes h).all d.laneSettled then
    d.modHatch h (fun x => { x with calibrated := true })
  else d

/-- The status of a Hatch: 0 OFF, 1 CALIBRATING, 2 READY, 3 DEGRADED, 4 FAILED (R266, R409, Table 11-11). -/
def Dev.hatchStatus (d : Dev) (h : Nat) : Nat :=
  let x := d.hatch h
  if !x.started then 0
  else if (d.module (2 * h)).status = 0 ∧ (d.module (2 * h + 1)).status = 0 then 4
  else if !x.calibrated then 1
  else if (hatchLanes h).any (fun l => decide ((d.optics l).modl.state = .fault ∨ (d.optics l).drop.state = .fault)) then 3
  else 2

/-- The value of a loop state (Table 11-5). -/
def LoopState.code : LoopState → Nat
  | .off => 0 | .sweep => 1 | .acquire => 2 | .verify => 3 | .track => 4 | .hold => 5 | .fault => 6

/-! ## Sparing's end (R260) -/

/-- A sparing ends once each of the channel's eight modulator loops is in TRACK, in FAULT or OFF: the Attic raises event 0x3011, and
records the spare as the channel's source (R260). -/
def Dev.reviewSparing (d : Dev) (m : Nat) : Dev :=
  let x := d.module m
  match x.sparing with
  | some (k, sp, .relocking) =>
    if d.atticRuns && (channelLanes m k).all (fun l => (d.optics l).modl.settled) then
      (d.modModule m (fun x => { x with
        sparing := none, source := listSet x.source k (8 + sp), commanded := clearBit x.commanded k })).raise 0x3011 m k sp
    else d
  | _ => d

/-! ## Loops (R250 to R256) -/

/-- Puts a loop into a state with what follows for its lane: a drop ring out of TRACK ends PCS lock, a modulator ring in or
out of TRACK changes what the lane may carry (R255, R266). -/
def Dev.setLoop (d : Dev) (l : Nat) (drop : Bool) (x : Loop) : Dev :=
  let was := decide ((d.loop l drop).state = .track)
  let is := decide (x.state = .track)
  let d := d.putLoop l drop x
  let d := if was = is then d
    else if drop then (if is then d else (d.dropLock l).evalLane l)
    else d.evalLane l
  (d.reviewHatch (hatchOfLane l)).reviewSparing (moduleOfLane l)

/-- Turns OFF the loops of lanes that are to be OFF (R250). -/
def Dev.reviewLoops (d : Dev) (ls : List Nat) : Dev :=
  ls.foldl (fun d l =>
    if d.loopsOff l then
      let d := if (d.loop l false).state = .off then d else d.setLoop l false {}
      if (d.loop l true).state = .off then d else d.setLoop l true {}
    else d) d

/-- LOOP_SWEEP_START: a loop that is OFF starts its SWEEP: its lane has a role and no circuit, its Hatch is started and
warm, and there is light; the Chute's cells have been read before (R250, R266, R278, R409). -/
def Dev.sweepStart (d : Dev) (l : Nat) (drop : Bool) : Dev :=
  let h := d.hatch (hatchOfLane l)
  let x := d.loop l drop
  if x.state ≠ .off ∨ d.loopsOff l = true ∨ h.started = false ∨ h.warm = false ∨ (d.chutes.get {} (hatchOfLane l)).read = false then d
  else if drop then
    (d.modOptics l (fun o => { o with light := true, status := 1 })).setLoop l true { x with state := .sweep, heater := 0 }
  else if d.fedByLaser l then d.setLoop l false { x with state := .sweep, heater := 0 }
  else d

/-- Sixteen times the expected heater power of a ring, µW, at a temperature in 1/16 °C (R251). -/
def expected16 (calibration : Nat) (temp : Int) : Int :=
  16 * (calibration / 2 ^ 16 : Nat) - (calibration % 2 ^ 16 : Nat) * (temp - 960)

/-- Sixteen times the distance of a heater power from the expected one. -/
def heaterOff (e16 : Int) (p : Nat) : Nat := (16 * (p : Int) - e16).natAbs

/-- Puts a candidate in its place by distance from the expected power. -/
def insertNear (e16 : Int) (p : Nat) : List Nat → List Nat
  | [] => [p]
  | q :: t => if heaterOff e16 p < heaterOff e16 q then p :: q :: t else q :: insertNear e16 p t

/-- The candidates in the order of trial, three at most (R251). -/
def candidateOrder (e16 : Int) (l : List Nat) : List Nat := (l.foldl (fun a p => insertNear e16 p a) []).take 3

/-- A loop fails: heater 0, event 0x3001 (R252, Table 11-5). -/
def Dev.loopFault (d : Dev) (l : Nat) (drop : Bool) : Dev :=
  let x := d.loop l drop
  let x := { x with state := .fault, heater := 0, cands := [], reverify := false, reverifyDue := false, badRun := 0 }
  (d.setLoop l drop x).raise 0x3001 l

/-- SWEEP_END: a sweep ends with the candidates it marked, as heater powers in µW: ACQUIRE on the best, or FAULT (R251). -/
def Dev.sweepEnd (d : Dev) (cal l : Nat) (drop : Bool) (cands : List Nat) (temp : Int) : Dev :=
  let x := d.loop l drop
  if x.state ≠ .sweep then d
  else
    match candidateOrder (expected16 cal temp) (cands.map (fun p => min 48000 p)) with
    | [] => d.loopFault l drop
    | c :: t => d.setLoop l drop { x with state := .acquire, heater := c, cands := t }

/-- ACQUIRE_END: the loop has reached its operating point at a heater power: VERIFY (R251). -/
def Dev.acquireEnd (d : Dev) (l : Nat) (drop : Bool) (heater : Nat) : Dev :=
  let x := d.loop l drop
  if x.state ≠ .acquire then d else d.setLoop l drop { x with state := .verify, heater := min 48000 heater }

/-- The outcome of a verification: the event of what fails, none on a pass (R252). -/
def Dev.verifyFault (d : Dev) (cal heater : Nat) (t : Tones) (temp : Int) : Option Nat :=
  if t.own - t.other < 100 * (d.cfg 0x3000 2 : Nat) ∨ t.own - t.noise < 1000 then some 0x3002
  else if heaterOff (expected16 cal temp) heater * 80 > d.cfg 0x3000 3 * 16000 then some 0x3003
  else none

/-- The temperature that the thermal model predicts at a ring now, 2⁻¹⁶ °C (R256). -/
def Dev.predicted (d : Dev) (l : Nat) (drop : Bool) : Int :=
  let h := d.hatch (hatchOfLane l)
  Config.ringTemperature (ringOf l drop) h.activity.cells h.sensors

/-- VERIFY_END: after 256 µs the lock is accepted into TRACK, or the next candidate or FAULT follows (R252). -/
def Dev.verifyEnd (d : Dev) (cal l : Nat) (drop : Bool) (t : Tones) (temp : Int) : Dev :=
  let x := d.loop l drop
  if x.state ≠ .verify then d
  else
    match d.verifyFault cal x.heater t temp with
    | none => d.setLoop l drop { x with
        state := .track, cands := [], badRun := 0, reverify := false, reverifyDue := false, pred := d.predicted l drop, rate := 0
        rest := 0, atLimit := false }
    | some code =>
      let d := d.raise code l
      match x.cands with
      | c :: rest => d.setLoop l drop { x with state := .acquire, heater := c, cands := rest }
      | [] => d.loopFault l drop

/-- A heater power kept within its range. -/
def clampHeater (v : Int) : Nat := if v ≤ 0 then 0 else min 48000 v.toNat

/-- TRACK_UPDATE: the 1 µs update: feedback and, where it is enabled, feed-forward move the heater; the detuning is judged; a heater
that reaches its limit raises 0x3005; a re-verification that waits for the temperature starts once it is steady (R253, R256). -/
def Dev.trackUpdate (d : Dev) (cal l : Nat) (drop : Bool) (feedback : Int) (detuned : Bool) : Dev :=
  let x := d.loop l drop
  if x.state ≠ .track ∧ x.state ≠ .hold then d
  else
    let pred := d.predicted l drop
    let rate := pred - x.pred
    let total := if d.cfg 0x3000 4 = 1 then x.rest - rate * (cal % 2 ^ 16 : Nat) else 0
    let ff := total / 65536
    let rest := total % 65536
    if x.state = .hold then
      d.putLoop l drop { x with heater := clampHeater (x.heater + ff), pred := pred, rate := rate, rest := rest }
    else
      let v : Int := x.heater + feedback + ff
      let steady := decide (d.cfg 0x3000 4 = 0 ∨ rate.natAbs * 1000 ≤ 5 * 65536)
      let limit := decide (v ≤ 0 ∨ v ≥ 48000)
      let d := d.putLoop l drop { x with
        heater := clampHeater v, pred := pred, rate := rate, rest := rest, badRun := if detuned then x.badRun + 1 else 0
        reverify := x.reverify || (x.reverifyDue && steady), reverifyDue := x.reverifyDue && !steady, atLimit := limit }
      if limit && !x.atLimit then d.raise 0x3005 l else d

/-- REVERIFICATION: the interval expires; the re-verification starts, or waits while feed-forward predicts more than 5 °C
per ms (R253). -/
def Dev.reverification (d : Dev) (l : Nat) (drop : Bool) : Dev :=
  let x := d.loop l drop
  if x.state ≠ .track ∨ x.reverify = true then d
  else if d.cfg 0x3000 4 = 1 ∧ x.rate.natAbs * 1000 > 5 * 65536 then d.putLoop l drop { x with reverifyDue := true }
  else d.putLoop l drop { x with reverify := true, reverifyDue := false }

/-- REVERIFICATION_END: it passes, or fails and sends the loop to ACQUIRE (R253). -/
def Dev.reverificationEnd (d : Dev) (cal l : Nat) (drop : Bool) (t : Tones) (temp : Int) : Dev :=
  let x := d.loop l drop
  if x.state ≠ .track ∨ x.reverify = false then d
  else
    match d.verifyFault cal x.heater t temp with
    | none => d.putLoop l drop { x with reverify := false }
    | some code =>
      (d.raise code l).setLoop l drop { x with state := .acquire, cands := [], badRun := 0, reverify := false,
                                               reverifyDue := false }

/-- A loop in TRACK, ACQUIRE or VERIFY enters HOLD, where its heater follows feed-forward from its present power (R254). -/
def Dev.holdLoop (d : Dev) (l : Nat) (drop : Bool) : Dev :=
  let x := d.loop l drop
  let y := { x with state := .hold, cands := [], badRun := 0, reverify := false, reverifyDue := false }
  if x.state = .track then d.setLoop l drop y
  else if x.state = .acquire ∨ x.state = .verify then
    d.setLoop l drop { y with pred := d.predicted l drop, rate := 0, rest := 0 }
  else d

/-- A loop in TRACK loses its lock: ACQUIRE, with event 0x3004 (R253). -/
def Dev.loopLost (d : Dev) (l : Nat) (drop : Bool) : Dev :=
  let x := d.loop l drop
  if x.state ≠ .track then d
  else
    (d.setLoop l drop { x with state := .acquire, cands := [], badRun := 0, reverify := false, reverifyDue := false }).raise
      0x3004 l

/-- RING_LOST_LOCK: a detuning above 8 GHz in 16 consecutive updates sends the loop to ACQUIRE (R253). -/
def Dev.ringLost (d : Dev) (l : Nat) (drop : Bool) : Dev :=
  if (d.loop l drop).badRun < 16 then d else d.loopLost l drop

/-- LIGHT_LOST: a drop ring without light enters HOLD; a modulator ring does where its laser channel has failed, and has lost its
lock where it alone is dark (R254, R259). -/
def Dev.lightLost (d : Dev) (l : Nat) (drop : Bool) : Dev :=
  let m := d.module (moduleOfLane l)
  if drop then (d.modOptics l (fun o => { o with light := false, status := 0 })).holdLoop l true
  else if bit m.failed (laneIn l) || decide (m.status = 0) then d.holdLoop l false
  else d.loopLost l false

/-- LIGHT_RETURNED: light returns within the hold limit: ACQUIRE at the held heater power (R254). -/
def Dev.lightReturned (d : Dev) (l : Nat) (drop : Bool) : Dev :=
  let d := if drop then d.modOptics l (fun o => { o with light := true, status := max 1 o.status }) else d
  let x := d.loop l drop
  if x.state = .hold ∧ (drop = true ∨ d.fedByLaser l = true) then d.setLoop l drop { x with state := .acquire, cands := [] }
  else d

/-- HOLD_LIMIT_EXPIRY: the hold limit passes without light: SWEEP (R250, R254). -/
def Dev.holdExpired (d : Dev) (l : Nat) (drop : Bool) : Dev :=
  let x := d.loop l drop
  if x.state = .hold then d.setLoop l drop { x with state := .sweep, heater := 0 } else d

/-- FAULT_RETRY: every 1,000 ms a loop in FAULT retries with a SWEEP (R250). -/
def Dev.faultRetry (d : Dev) (l : Nat) (drop : Bool) : Dev :=
  let x := d.loop l drop
  if x.state = .fault then d.setLoop l drop { x with state := .sweep, heater := 0 } else d

/-- ACTIVITY_WORD: a Crate's activity word reaches its Hatch (R256). -/
def Dev.activityWord (d : Dev) (n power : Nat) : Dev :=
  d.modHatch (hatchOf n) (fun h => { h with activity := h.activity.put 0 (n % 16) power })

/-! ## Laser modules and spares (R257 to R261) -/

/-- The spare of a module by its letter: 0 A, 1 B. -/
def Module.spare (m : Module) (sp : Nat) : Spare := if sp = 0 then m.spareA else m.spareB
/-- The module with a spare replaced. -/
def Module.putSpare (m : Module) (sp : Nat) (x : Spare) : Module :=
  if sp = 0 then { m with spareA := x } else { m with spareB := x }

/-- The spare that carries a channel, if one does. -/
def Module.carrier (m : Module) (k : Nat) : Option Nat :=
  if m.spareA = ⟨.active, k⟩ then some 0 else if m.spareB = ⟨.active, k⟩ then some 1 else none

/-- A line power when the channel is dark (Table 11-11). -/
def darkPower : Nat := 0x8000

/-- LASER_CHANNEL_FAILED: channel k of a laser input is declared failed: event 0x3010, its eight loops enter HOLD; a spare
that carried it is marked FAILED; the channel waits to be spared (R259 to R261). -/
def Dev.channelFailed (d : Dev) (m k : Nat) : Dev :=
  let x := d.module m
  let busy := match x.sparing with | some (c, _, _) => decide (c = k) | none => false
  let lost := (x.carrier k).isSome
  let anew := !(bit x.failed k) || lost
  let d := d.modModule m (fun x =>
    let x := match x.carrier k with | some sp => x.putSpare sp ⟨.failed, k⟩ | none => x
    { x with failed := setBit x.failed k, source := listSet x.source k 0xFF, line := listSet x.line k darkPower
             sparing := if busy && lost then none else x.sparing
             waiting := if anew && (!busy || lost) then x.waiting.filter (fun c => decide (c ≠ k)) ++ [k] else x.waiting })
  (channelLanes m k).foldl (fun d l => d.holdLoop l false) (d.raise 0x3010 m k)

/-- The failed channel of a module that the Attic spares next: the oldest that waits under the automatic policy, the oldest that
a spare command names under the manual one (R260, R261). -/
def Dev.spareNext (d : Dev) (m : Nat) : Option Nat :=
  let x := d.module m
  x.waiting.find? (fun k => decide (d.cfg (0x3020 + m) 5 = 1) || bit x.commanded k)

/-- SPARING: the Attic spares the failed channel that has waited longest: its laser is disabled and a parked spare is
tuned; with none parked, event 0x3012 (R260, R261). -/
def Dev.sparing (d : Dev) (m : Nat) : Dev :=
  let x := d.module m
  match d.spareNext m, x.sparing with
  | some k, none =>
    if !d.atticRuns || decide (x.status = 0) then d
    else
      let d := d.modModule m (fun x => { x with
        waiting := x.waiting.filter (fun c => decide (c ≠ k)), disabled := setBit x.disabled k })
      let go := fun (d : Dev) (sp : Nat) =>
        d.modModule m (fun x => { x.putSpare sp ⟨.tuning, k⟩ with sparing := some (k, sp, .tuning) })
      if x.spareA.state = .parked then go d 0
      else if x.spareB.state = .parked then go d 1
      else (d.modModule m (fun x => { x with commanded := clearBit x.commanded k })).raise 0x3012 m k
  | _, _ => d

/-- SPARE_TUNED: the module reports the spare tuned; the selector is opened at the channel and verifies (R260). -/
def Dev.spareTuned (d : Dev) (m : Nat) : Dev :=
  match (d.module m).sparing with
  | some (k, sp, .tuning) =>
    if d.atticRuns then d.modModule m (fun x => { x with sparing := some (k, sp, .verifying) }) else d
  | _ => d

/-- SELECTOR_VERIFIED: the selector verifies, and the modulator loops go from HOLD to ACQUIRE on the spare's light (R260). -/
def Dev.selectorVerified (d : Dev) (m : Nat) : Dev :=
  match (d.module m).sparing with
  | some (k, sp, .verifying) =>
    let d := d.modModule m (fun x => { x.putSpare sp ⟨.active, k⟩ with sparing := some (k, sp, .relocking) })
    ((channelLanes m k).foldl (fun (d : Dev) l =>
      let x := d.loop l false
      if x.state = .hold then d.setLoop l false { x with state := .acquire, cands := [] } else d) d).reviewSparing m
  | _ => d

/-- A spare command is refused: automatic sparing is in progress there, or the channel is not failed (1) or not spared (2). -/
def Dev.spareRefused (d : Dev) (m k : Nat) (back : Bool) : Bool :=
  let x := d.module m
  (match x.sparing with | some (c, _, _) => !(bit x.commanded c) | none => false) ||
    (if back then (x.carrier k).isNone else !(bit x.failed k))

/-- SPARE_COMMAND_SPARE at its commit step: a failed channel is due to be spared, before those that wait (R260, R261). -/
def Dev.spareCommand (d : Dev) (m k : Nat) : Dev :=
  if d.spareRefused m k false then d
  else d.modModule m (fun x => { x with
    commanded := setBit x.commanded k, waiting := k :: x.waiting.filter (fun c => decide (c ≠ k)) })

/-- The Attic returns a channel to its own laser: its lanes go dark until their loops reacquire, and the spare is PARKED (R261). -/
def Dev.returnChannel (d : Dev) (m k : Nat) : Dev :=
  match (d.module m).carrier k with
  | none => d
  | some sp =>
    let d := d.modModule m (fun x => { x.putSpare sp {} with
      failed := clearBit x.failed k, disabled := clearBit x.disabled k, source := listSet x.source k k
      sparing := match x.sparing with | some (c, s, g) => if c = k then none else some (c, s, g) | none => none })
    (channelLanes m k).foldl (fun d l => d.holdLoop l false) d

/-- SPARE_COMMAND_RETURN at its commit step: the channel goes back to its own laser, or waits while the Attic does not run (R246,
R261). -/
def Dev.returnCommand (d : Dev) (m k : Nat) : Dev :=
  if d.spareRefused m k true then d
  else if d.atticRuns then d.returnChannel m k
  else d.modModule m (fun x => { x with returns := x.returns ++ [k] })

/-- One channel's bias step (R258): raised below the target less 0.3 dB unless at its end of life, lowered above it. -/
def biasStep (target power : Int) (eol : Bool) (b : Int) : Int :=
  if power < target - 30 then (if eol then b else b + 1) else if power > target + 30 then b - 1 else b

/-- BIAS_CONTROL: once a second the Attic compares line powers with the target and steps the biases; an end of life raises
0x3013 (R258). -/
def Dev.biasControl (d : Dev) (m : Nat) (powers : List Nat) (eol : Nat) : Dev :=
  let x := d.module m
  let line := (List.range 8).map (fun k => powers.getD k 0 % 65536)
  let d := d.modModule m (fun x => { x with line := line })
  let tuning := match x.sparing with | some (_, _, .tuning) => true | _ => false
  if d.cfg 0x3000 0x0D = 0 ∨ d.atticRuns = false ∨ x.status ≠ 2 ∨ tuning = true then d
  else
    let target := toSigned 32 (d.cfg (0x3020 + m) 4)
    let d := d.modModule m (fun x => { x with bias := (List.range 8).map (fun k =>
      biasStep target (toSigned 16 (line.getD k 0)) (bit eol k) (x.bias.getD k 0)) })
    (setBits 8 eol).foldl (fun (d : Dev) k => d.raise 0x3013 m k) d

/-- A module that the Attic has initialised, its spares PARKED (R257). -/
def Module.fresh (x : Module) : Module :=
  { status := 2, enable := true, present := true, line := x.line }

/-- LASER_MODULE_INSERTED: the Attic initialises a module and parks its spares; while the Attic is halted it waits
(R246, R257, R412). With power removed only its pin says so (R17). -/
def Dev.moduleInserted (d : Dev) (m : Nat) : Dev :=
  if (d.module m).present then d
  else if !d.board.powered then d.modModule m (fun x => { x with present := true, status := 1 })
  else if d.atticRuns && decide (d.attic.bootStep ≥ 8) then d.modModule m (fun x => x.fresh)
  else d.modModule m (fun x => { x with present := true, status := 1 })

/-- LASER_MODULE_REMOVED: a module's lanes and its line powers go dark, a sparing in progress is abandoned; event 0x3014 (R257,
R261, Table 11-11). With power removed only its pin says so (R17). -/
def Dev.moduleRemoved (d : Dev) (m : Nat) : Dev :=
  if !(d.module m).present then d
  else if !d.board.powered then d.modModule m (fun x => { x with present := false, status := 0 })
  else
    let d := (d.modModule m (fun _ => { line := List.replicate 8 darkPower })).raise 0x3014 m
    (List.range 8).foldl (fun (d : Dev) k => (channelLanes m k).foldl (fun d l => d.holdLoop l false) d) d

/-- The Attic reads a module's fault report: status FAULT, event 0x3014 (R246, R269). -/
def Dev.readAlarm (d : Dev) (m : Nat) : Dev :=
  (d.modModule m (fun x => { x with status := 3, alarm := false })).raise 0x3014 m

/-- LASER_MODULE_FAULT: a module reports a module fault, which the Attic reads while it runs (R246, R269). -/
def Dev.moduleFault (d : Dev) (m : Nat) : Dev :=
  if !(d.module m).present then d
  else if d.atticRuns then d.readAlarm m
  else d.modModule m (fun x => { x with alarm := true })

/-- What the Attic finds at the laser modules when it runs again: modules inserted meanwhile are initialised, their fault reports
read, return commands carried out, and a sparing that only its record lacked ends (R246, R257, R260). -/
def Dev.modulesReviewed (d : Dev) : Dev :=
  (List.range 16).foldl (fun (d : Dev) m =>
    let x := d.module m
    let d := if x.present ∧ x.status = 1 ∧ (d.hatch (m / 2)).started then d.modModule m Module.fresh else d
    let d := if x.alarm then d.readAlarm m else d
    let d := x.returns.foldl (fun (d : Dev) k => d.returnChannel m k) (d.modModule m (fun x => { x with returns := [] }))
    d.reviewSparing m) d

/-- A module that is not enabled: its lines are dark. -/
def Module.off (x : Module) : Module :=
  { present := x.present, status := b2n x.present, line := List.replicate 8 darkPower }

/-- No laser module is enabled: every lane that they light goes dark (R337). -/
def Dev.modulesOff (d : Dev) : Dev :=
  (List.range 16).foldl (fun (d : Dev) m =>
    if (d.module m).enable then
      (List.range 8).foldl (fun (d : Dev) k => (channelLanes m k).foldl (fun d l => d.holdLoop l false) d) (d.modModule m Module.off)
    else d) d

/-- The Attic enables the laser modules that are present and the Hatches start to calibrate (R266, R412; boot step 8). -/
def Dev.startHatches (d : Dev) : Dev :=
  let d := (List.range 16).foldl (fun (d : Dev) m => d.modModule m (fun x => if x.present then x.fresh else x)) d
  (List.range 8).foldl (fun (d : Dev) h => (d.modHatch h (fun x => { x with started := true })).reviewHatch h) d

/-- A sparing that an Attic halt interrupts starts again from its first step (R246, R260). -/
def Dev.interruptSparing (d : Dev) : Dev :=
  (List.range 16).foldl (fun (d : Dev) m =>
    match (d.module m).sparing with
    | some (k, sp, s) =>
      if s = .relocking then d
      else d.modModule m (fun x => { x.putSpare sp {} with sparing := none, waiting := k :: x.waiting })
    | none => d) d

/-! ## Monitoring (R264, R267, R268, R409) -/

/-- RECEIVED_POWER_MEASUREMENT: a lane's received power, 0.01 dBm, against its warning and alarm levels (R267). -/
def Dev.receivedPower (d : Dev) (l power : Nat) : Dev :=
  let o := d.optics l
  let p := toSigned 16 power
  let lw := toSigned 32 (d.cfg 0x3000 0x0A)
  let la := toSigned 32 (d.cfg 0x3000 0x0B)
  let warn := decide (p < lw) || (o.warn && decide (p < lw + 50))
  let alarm := decide (p < la) || (o.alarm && decide (p < la + 50))
  let d := d.modOptics l (fun o => { o with power := power % 65536, warn := warn, alarm := alarm })
  let d := if p < lw ∧ o.warn = false then d.raise 0x3020 l else d
  if p < la ∧ o.alarm = false then d.raise 0x3021 l else d

/-- The pre-FEC BER limit of a lane's mode, in 10⁻¹⁸ (Table 11-7). -/
def Dev.berLimit (d : Dev) (l : Nat) : Nat :=
  let m := d.laneCfg 0x3200 l
  if m = 0 then 10 ^ 14 else if m = 1 then 24 * 10 ^ 13 else 48 * 10 ^ 14

/-- ERROR_MONITOR_INTERVAL: what a lane's decoders counted in the interval enters its counts; the BER estimate and the
uncorrectable codewords are compared with their thresholds (R268). -/
def Dev.errorInterval (d : Dev) (l codewords corrected uncorrectable bits received : Nat) : Dev :=
  let ber := if received = 0 then 0 else bits * 10 ^ 18 / received
  let d := d.modOptics l (fun o => { o with
    codewords := wrapAdd 64 o.codewords codewords, corrected := wrapAdd 64 o.corrected corrected
    uncorrectable := wrapAdd 64 o.uncorrectable uncorrectable, corrBits := wrapAdd 64 o.corrBits bits, ber := ber % 2 ^ 64 })
  let reaches := fun (fraction : Nat) => decide (received ≠ 0 ∧ bits * 10 ^ 18 * 256 ≥ fraction * d.berLimit l * received)
  let d := if reaches (d.cfg 0x3000 7) then d.raise 0x3022 l else d
  let d := if reaches (d.cfg 0x3000 8) then d.raise 0x3023 l else d
  if uncorrectable ≥ d.cfg 0x3000 9 then d.raise 0x3024 l else d

/-- FEC_ALIGNMENT_TIMEOUT: modulated light and CDR lock have lasted without codeword alignment: event 0x3025 (R264). -/
def Dev.fecTimeout (d : Dev) (l : Nat) : Dev :=
  if (d.lane l).rx.lock || decide ((d.optics l).drop.state ≠ .track) then d
  else (d.modOptics l (fun o => { o with status := 2 })).raise 0x3025 l

/-- HATCH_WARM_UP_TIMEOUT: 60 s pass without a Hatch reaching 35 °C: event 0x3040 (R409). -/
def Dev.warmUpTimeout (d : Dev) (h : Nat) : Dev :=
  let x := d.hatch h
  if x.started && !x.warm then d.raise 0x3040 h else d

/-- HATCH_SENSOR_READING: a Hatch's four sensors, in 1/16 °C: they feed the prediction, release the loops at 35 °C, and
raise 0x3040 above 95 °C (R256, R409). -/
def Dev.hatchSensors (d : Dev) (h : Nat) (t : List Nat) : Dev :=
  let t := (List.range 4).map (fun i => t.getD i 0 % 65536)
  let d := d.modHatch h (fun x => { x with sensors := t, warm := t.all (fun v => decide (toSigned 16 v ≥ 560)) })
  let d := if t.any (fun v => decide (toSigned 16 v > 1520)) then d.raise 0x3040 h else d
  d.reviewHatch h

end Sys2Proof.Machine
end

