-- ==== Sys2Proof/Machine/Chutes.lean ====
section
/-! DEFINITION. Chutes: circuits, the programme, the read at power-good (R271 to R282). -/

namespace Sys2Proof.Machine

/-- A Chute's volatile state. -/
def Dev.chute (d : Dev) (h : Nat) : Chute := d.chutes.get {} h
/-- Changes a Chute's volatile state. -/
def Dev.modChute (d : Dev) (h : Nat) (f : Chute → Chute) : Dev := { d with chutes := d.chutes.upd {} h f }
/-- A Chute's non-volatile state. -/
def Nv.chute (v : Nv) (h : Nat) : ChuteNv := v.chutes.get {} h
/-- Changes a Chute's non-volatile state. -/
def Nv.modChute (v : Nv) (h : Nat) (f : ChuteNv → ChuteNv) : Nv := { v with chutes := v.chutes.upd {} h f }
/-- A cell's state (R271). -/
def ChuteNv.cell (c : ChuteNv) (x : Nat) : Cell := c.cells.get .clear x
/-- No other cell of a cell's row and column is SET. -/
def noRival (cells : List (Nat × Cell)) (x : Nat) : Bool :=
  cells.all (fun p => decide (p.2 ≠ .set) || decide (p.1 = x) ||
    (decide (p.1 / 16 ≠ x / 16) && decide (p.1 % 16 ≠ x % 16)))
/-- Puts a cell into a state. A cell whose row or column holds another SET cell is never made SET: no transmit fibre carries
two sources (R276); no programme and no cut asks for it. -/
def ChuteNv.setCell (c : ChuteNv) (x : Nat) (v : Cell) : ChuteNv :=
  { c with cells := c.cells.put .clear x (if v = .set ∧ noRival c.cells.cells x = false then .uncertain else v) }

/-- The fibre pairs that a Chute's cells use: the row and the column of each cell that is not CLEAR (R273). -/
def usedPairs (cells : List (Nat × Cell)) : Nat :=
  cells.foldl (fun a p => if p.2 = .clear then a else setBit (setBit a (p.1 / 16)) (p.1 % 16)) 0

/-- The map byte of a transmit fibre. -/
def mapByte (map j : Nat) : Nat := bytesAt 16 map j j

/-- The cells that a map names, in order of transmit fibre (R274, R276). -/
def mapTargets (map : Nat) : List Nat :=
  (List.range 16).filterMap (fun j => if bit (mapByte map j) 7 then some (16 * (mapByte map j % 16) + j) else none)

/-- The fibre pairs used by the circuits of a map (R275). -/
def mapPairs (map : Nat) : Nat := (mapTargets map).foldl (fun a x => setBit (setBit a (x / 16)) (x % 16)) 0

/-- A map names a receive fibre for two transmit fibres (R274). -/
def mapDoubles (map : Nat) : Bool :=
  let rows := (mapTargets map).map (fun x => x / 16)
  rows.any (fun i => decide ((rows.filter (fun j => decide (i = j))).length > 1))

/-- No other cell of a cell's row and column is SET, UNCERTAIN or FAILED (R276). -/
def freeCell (cells : List (Nat × Cell)) (x : Nat) : Bool :=
  cells.all (fun p => decide (p.2 = .clear) || decide (p.1 = x) ||
    (decide (p.1 / 16 ≠ x / 16) && decide (p.1 % 16 ≠ x % 16)))

/-- What a cell reads after a pulse towards a target that it may have missed: it then keeps a state that it could be in. -/
def pulseOutcome (target before : Cell) (missed : List (Nat × Cell)) (x : Nat) : Cell :=
  match missed.find? (fun p => decide (p.1 = x)) with
  | none => target
  | some p => if p.2 = target then target else if p.2 = before ∨ (p.2 = .clear ∧ target = .set) then p.2 else .uncertain

/-- One round of pulses of cells towards a target: the pulses, and the Chute with the cells' states and pulse counts after
them (R272, R276). -/
def ChuteNv.pulseRound (c : ChuteNv) (target : Cell) (missed : List (Nat × Cell)) (xs : List Nat) :
    List (Nat × Cell × Cell) × ChuteNv :=
  xs.foldl (fun (a : List (Nat × Cell × Cell) × ChuteNv) x =>
    let before := a.2.cell x
    let after := pulseOutcome target before missed x
    let n := if after = before then a.2 else a.2.setCell x after
    (a.1 ++ [(x, before, after)], { n with pulses := n.pulses.upd 0 x (fun k => k + 1) })) ([], c)

/-- A list cut into batches of eight (R272). -/
def eights {α : Type} (l : List α) : List (List α) :=
  (List.range (ceilDiv l.length 8)).map (fun k => (l.drop (8 * k)).take 8)

/-- What a programme did. -/
structure Programme where
  after : ChuteNv
  batches : List (List (Nat × Cell × Cell))
  missed : List Nat
  withheld : List Nat

/-- Runs a programme towards the cells of a map. `first` and `again` name the cells that miss their target in the first
round and in the retry, with what each then reads (R276). -/
def ChuteNv.programme (c : ChuteNv) (map : Nat) (first again : List (Nat × Cell)) : Programme :=
  let targets := mapTargets map
  let clears := (c.cells.cells.filter (fun p => decide (p.2 ≠ .clear ∧ p.1 ∉ targets))).map (·.1)
  let (p1, c1) := c.pulseRound .clear first clears
  let (p2, c2) := c1.pulseRound .clear again (clears.filter (fun x => decide (c1.cell x ≠ .clear)))
  let wanted := targets.filter (fun x => decide (c2.cell x ≠ .set))
  let sets := wanted.filter (fun x => freeCell c2.cells.cells x)
  let (p3, c3) := c2.pulseRound .set first sets
  let (p4, c4) := c3.pulseRound .set again (sets.filter (fun x => decide (c3.cell x ≠ .set)))
  { after := c4
    batches := eights p1 ++ eights p2 ++ eights p3 ++ eights p4
    missed := clears.filter (fun x => decide (c4.cell x ≠ .clear)) ++ sets.filter (fun x => decide (c4.cell x ≠ .set))
    withheld := wanted.filter (fun x => !(freeCell c2.cells.cells x)) }

/-- The lanes of a Hatch's fibre pairs in a bitmap. -/
def pairLanes (h pairs : Nat) : List Nat := (setBits 16 pairs).flatMap (fun f => lanesOf (16 * h + f))

/-- The pairs that a Chute's circuits use change: loops go OFF with them and ports follow (R250, R273, R277). -/
def Dev.setUsed (d : Dev) (h pairs : Nat) : Dev :=
  let changed := (d.chute h).used ^^^ pairs
  let d := d.modChute h (fun c => { c with used := pairs })
  let d := d.reviewLoops (pairLanes h changed)
  (setBits 16 changed).foldl (fun (d : Dev) f => d.evalCrate (16 * h + f)) d

/-- A changed map takes effect at its commit step: the Chute is PROGRAMMING (R276). -/
def Dev.chuteChanged (d : Dev) (h : Nat) : Dev :=
  d.modChute h (fun c => { c with programming := true, pulsed := none, missed := [] })

/-- The cells of a Chute whose pulse count has reached 900,000 raise event 0x3033, each once (R272, R281). -/
def chuteWear (v : Nv) (d : Dev) (h : Nat) : Nv × Dev :=
  let n := v.chute h
  let worn := (n.pulses.cells.filter (fun p => decide (p.2 ≥ 900000 ∧ p.1 ∉ n.worn))).map (·.1)
  (v.modChute h (fun n => { n with worn := n.worn ++ worn }), worn.foldl (fun (d : Dev) x => d.raiseCell 0x3033 h x) d)

/-- CHUTE_PROGRAMME_START: once no lane concerned is still in transmission the programme pulses the cells whose state
differs from their target (R276). No cell is pulsed while the device is held in reset (R397). -/
def chuteStart (v : Nv) (d : Dev) (h : Nat) (first again : List (Nat × Cell)) : Nv × Dev :=
  let c := d.chute h
  let map := d.baseOf (0x3400 + h) 1
  if d.attic.holding || !c.programming || c.pulsed.isSome ||
      (pairLanes h (mapPairs map)).any (fun l => (d.egress l).cur.isSome) then (v, d)
  else
    let r := (v.chute h).programme map first again
    let d := d.modChute h (fun c => { c with pulsed := some r.batches, missed := r.missed, withheld := r.withheld })
    (v.modChute h (fun _ => r.after), d.setUsed h (c.used ||| usedPairs r.after.cells.cells))

/-- CHUTE_PROGRAMME_END: cells that wear out are reported; a cell that missed its target after its retry is FAILED, with event 0x3031; the Chute is IDLE, with
event 0x3030, or DEGRADED; pairs whose cells are all CLEAR return to service (R276, R277). -/
def chuteEnd (v : Nv) (d : Dev) (h : Nat) : Nv × Dev :=
  let c := d.chute h
  match c.programming, c.pulsed with
  | true, some _ =>
    let v := v.modChute h (fun n => c.missed.foldl (fun (n : ChuteNv) x => n.setCell x .failed) n)
    let (v, d) := chuteWear v d h
    let d := c.missed.foldl (fun (d : Dev) x => d.raiseCell 0x3031 h x) d
    let bad := !c.missed.isEmpty || !c.withheld.isEmpty
    let d := d.modChute h (fun c => { c with programming := false, pulsed := none, missed := [], degraded := bad })
    let d := if bad then d else d.raise 0x3030 h
    (v, d.setUsed h (usedPairs (v.chute h).cells.cells))
  | _, _ => (v, d)

/-- The map byte that a column's cells give at power-good (R278). -/
def columnByte (cells : List (Nat × Cell)) (j : Nat) : Nat :=
  match cells.filter (fun p => decide (p.1 % 16 = j ∧ p.2 ≠ .clear)) with
  | [] => 0
  | [p] => if p.2 = .set then 128 + p.1 / 16 else 64
  | _ => 64

/-- The Chute map that the cells give at power-good (R278). -/
def mapOfCells (cells : List (Nat × Cell)) : Nat := packBits ((List.range 16).map (fun j => (8, columnByte cells j)))

/-- CHUTE_POWER_GOOD_READ: the control island reads every cell, once after power-good; the map is set from them, and each UNCERTAIN
cell raises event 0x3032, a worn one 0x3033 (R272, R278). -/
def chuteRead (v : Nv) (d : Dev) (h : Nat) : Nv × Dev :=
  let cells := (v.chute h).cells.cells
  if (d.chute h).read then (v, d)
  else
    let d := d.setBase (ad (0x3400 + h) 1) (mapOfCells cells)
    let d := d.modChute h (fun c => { c with used := usedPairs cells, read := true })
    let d := (cells.filter (fun p => decide (p.2 = .uncertain))).foldl (fun (d : Dev) p => d.raiseCell 0x3032 h p.1) d
    chuteWear v d h

/-- A programme stops at once: the batches after one that a free value names have not been pulsed, and each cell of that one
reads as before, as after, or UNCERTAIN (R278); pulses never given count no longer (R272). -/
def chuteCut (v : Nv) (d : Dev) (h : Nat) : Nv × Dev :=
  match (d.chute h).pulsed with
  | none => (v, d)
  | some batches =>
    let (k, d) := d.draw
    let later := (batches.drop (k + 1)).flatten.reverse
    let v := v.modChute h (fun n => later.foldl (fun (n : ChuteNv) p => { n.setCell p.1 p.2.1 with
      pulses := n.pulses.upd 0 p.1 (fun k => k - 1) }) n)
    let (v, d) := ((batches.drop k).headD []).reverse.foldl (fun (a : Nv × Dev) p =>
      let (r, d) := a.2.draw
      (if r % 3 = 0 then a.1 else a.1.modChute h (fun n => n.setCell p.1 (if r % 3 = 1 then p.2.1 else .uncertain)), d))
      (v, d)
    (v, d)

/-- Every Chute's drivers stop (R278, R397). -/
def stopChutes (v : Nv) (d : Dev) : Nv × Dev :=
  (List.range 8).foldl (fun (a : Nv × Dev) h => chuteCut a.1 a.2 h) (v, d)

/-- The volatile state of the Chutes after a reset: the pairs in use as the cells give them (R273, R278). -/
def chutesAfresh (v : Nv) : Tab Chute :=
  (List.range 8).foldl (fun (t : Tab Chute) h => t.put {} h { used := usedPairs (v.chute h).cells.cells }) {}

end Sys2Proof.Machine
end

