-- ==== Sys2Proof/Machine/Crypto.lean ====
section
/-! DEFINITION. SM2, SM4 and GCM, the key derivation with them, and the records they protect (R336, R345, R347, R348). The spec
names the standards (R7: GB/T 32918, GB/T 32907, NIST SP 800-38D) and gives none of their algorithms or constants: PRESUMED from
the standards (assumption 1). -/

namespace Sys2Proof.Machine

/-! ## SM2: the curve and its arithmetic (GB/T 32918.1, GB/T 32918.5) -/

/-- The prime of the recommended curve. -/
def sm2P : Nat := 0xFFFFFFFEFFFFFFFFFFFFFFFFFFFFFFFFFFFFFFFF00000000FFFFFFFFFFFFFFFF
/-- The coefficient a. -/
def sm2A : Nat := sm2P - 3
/-- The coefficient b. -/
def sm2B : Nat := 0x28E9FA9E9D9F5E344D5A9E4BCF6509A7F39789F515AB8F92DDBCBD414D940E93
/-- The order of the base point; the cofactor is 1. -/
def sm2N : Nat := 0xFFFFFFFEFFFFFFFFFFFFFFFFFFFFFFFF7203DF6B21C6052B53BBF40939D54123
/-- The base point's coordinates. -/
def sm2Gx : Nat := 0x32C4AE2C1F1981195F9904466A39C9948FE30BBFF2660BE1715A4589334C74C7
/-- The base point's second coordinate. -/
def sm2Gy : Nat := 0xBC3736A2F4F6779C59BDCEE36B692153D0A9877CC62A474002DF32E52139F0A0

/-- Euclid's algorithm on a and b, which are u and v times a number modulo m; at most `n` steps. -/
def euclid (m : Nat) : Nat → Nat → Nat → Nat → Nat → Nat
  | 0, _, _, u, _ => u
  | n + 1, a, b, u, v => if b = 0 then u else euclid m n b (a % b) v ((u + m - a / b * v % m) % m)

/-- The inverse modulo a prime of 256 bits. -/
def invMod (m x : Nat) : Nat := euclid m 512 m (x % m) 0 1

/-- A point of the curve; none: the point at infinity. -/
abbrev Point := Option (Nat × Nat)

/-- The base point. -/
def sm2G : Point := some (sm2Gx, sm2Gy)

/-- The sum of two points. -/
def Point.add : Point → Point → Point
  | none, q => q
  | some a, none => some a
  | some (x1, y1), some (x2, y2) =>
    if x1 = x2 ∧ (y1 + y2) % sm2P = 0 then none
    else
      let s := (if x1 = x2 then (3 * x1 * x1 + sm2A) * invMod sm2P (2 * y1)
        else (y2 + sm2P - y1) * invMod sm2P (x2 + sm2P - x1)) % sm2P
      let x3 := (s * s + 2 * sm2P - x1 - x2) % sm2P
      some (x3, (s * (x1 + sm2P - x3) + sm2P - y1) % sm2P)

/-- A multiple of a point by the low `k` bits of `e`. -/
def Point.times : Nat → Nat → Point → Point
  | 0, _, _ => none
  | k + 1, e, q =>
    let h := Point.times k (e / 2) (q.add q)
    if e % 2 = 1 then h.add q else h

/-- A scalar multiple of a point. -/
def Point.mul (e : Nat) (q : Point) : Point := Point.times 256 e q

/-- The 64 bytes of a point, x then y, as a number; 0 for the point at infinity. -/
def Point.number : Point → Nat
  | some (x, y) => x * 2 ^ 256 + y
  | none => 0

/-- The point that 64 bytes name, x then y, where it lies on the curve. -/
def pointOf (v : Nat) : Point :=
  let x := v / 2 ^ 256 % 2 ^ 256
  let y := v % 2 ^ 256
  if x < sm2P ∧ y < sm2P ∧ y * y % sm2P = (x * x * x + sm2A * x + sm2B) % sm2P then some (x, y) else none

/-- A private key within its range, from a value of 256 bits. -/
def sm2Secret (v : Nat) : Nat := v % (sm2N - 2) + 1

/-- The public key of a private key, 64 bytes. -/
def sm2Public (d : Nat) : Nat := (sm2G.mul d).number

/-! ## SM2: signatures (GB/T 32918.2) -/

/-- The ZA value of an identity and a public key of 64 bytes. -/
def sm2Za (id : List Byte) (pub : Nat) : Nat :=
  sm3 (toBytes 2 (8 * id.length) ++ id ++ toBytes 32 sm2A ++ toBytes 32 sm2B ++ toBytes 32 sm2Gx ++ toBytes 32 sm2Gy ++
    toBytes 64 pub)

/-- The digest that is signed: SM3 over ZA and the message. -/
def sm2Digest (id : List Byte) (pub : Nat) (msg : List Byte) : Nat := sm3 (toBytes 32 (sm2Za id pub) ++ msg)

/-- A signature of 64 bytes, r then s, of a signer's identity over bytes verifies under a public key of 64 bytes. -/
def sm2Verify (id : List Byte) (pub sig : Nat) (msg : List Byte) : Bool :=
  let r := sig / 2 ^ 256
  let s := sig % 2 ^ 256
  let t := (r + s) % sm2N
  decide (1 ≤ r ∧ r < sm2N ∧ 1 ≤ s ∧ s < sm2N ∧ t ≠ 0) &&
    match pointOf pub with
    | none => false
    | some q =>
      match (sm2G.mul s).add (Point.mul t (some q)) with
      | some (x, _) => decide ((sm2Digest id pub msg + x) % sm2N = r)
      | none => false

/-- The signature of 64 bytes, r then s, by a private key and the random number of one signing. -/
def sm2Sign (id : List Byte) (secret : Nat) (msg : List Byte) (k : Nat) : Nat :=
  let x := match sm2G.mul k with | some (x, _) => x | none => 0
  let r := (sm2Digest id (sm2Public secret) msg + x) % sm2N
  let s := invMod sm2N (1 + secret) * (k + sm2N - r * secret % sm2N) % sm2N
  r * 2 ^ 256 + s

/-! ## SM2: key exchange (GB/T 32918.3) -/

/-- A point's x as the exchange reduces it: its low 127 bits under a leading one. -/
def sm2Bar (q : Point) : Nat :=
  match q with
  | some (x, _) => 2 ^ 127 + x % 2 ^ 127
  | none => 0

/-- The point V that the responder computes, of its private key, its ephemeral secret, and the peer's static and ephemeral
points. -/
def sm2Shared (secret r : Nat) (pa ra : Point) : Point :=
  Point.mul ((secret + sm2Bar (sm2G.mul r) * r) % sm2N) (pa.add (Point.mul (sm2Bar ra) ra))

/-- 256 bits of the key derivation function over bytes. -/
def sm2Kdf (z : List Byte) : Nat := sm3 (z ++ toBytes 4 1)

/-- What an exchange yields: the key K, the confirmation SB and the value that SA must equal. -/
structure Agreed where
  key : Nat
  sb : Nat
  sa : Nat
  deriving DecidableEq, Repr

/-- The exchange as the responder B ends it: none where the peer's static key or its ephemeral point is not on the curve, or V is
the point at infinity (R345). Identities are 8 bytes, ENTL 64. -/
def sm2Respond (secret r id peerKey ra peerId : Nat) : Option Agreed :=
  match pointOf peerKey, pointOf ra with
  | some pa, some qa =>
    match sm2Shared secret r (some pa) (some qa) with
    | some (xv, yv) =>
      let za := toBytes 32 (sm2Za (toBytes 8 peerId) peerKey)
      let zb := toBytes 32 (sm2Za (toBytes 8 id) (sm2Public secret))
      let x := toBytes 32 xv
      let y := toBytes 32 yv
      let inner := toBytes 32 (sm3 (x ++ za ++ zb ++ toBytes 64 ra ++ toBytes 64 (sm2G.mul r).number))
      some ⟨sm2Kdf (x ++ y ++ za ++ zb), sm3 (toBytes 1 2 ++ y ++ inner), sm3 (toBytes 1 3 ++ y ++ inner)⟩
    | none => none
  | _, _ => none

/-! ## SM4 (GB/T 32907) -/

/-- The S-box, its entries from 0 to 255 as one value of 256 bytes. -/
def sm4Box : Nat :=
    0xd690e9fecce13db716b614c228fb2c052b679a762abe04c3aa44132649860699 * 2 ^ 1792 +
    0x9c4250f491ef987a33540b43edcfac62e4b31ca9c908e89580df94fa758f3fa6 * 2 ^ 1536 +
    0x4707a7fcf37317ba83593c19e6854fa8686b81b27164da8bf8eb0f4b70569d35 * 2 ^ 1280 +
    0x1e240e5e6358d1a225227c3b01217887d40046579fd327524c3602e7a0c4c89e * 2 ^ 1024 +
    0xeabf8ad240c738b5a3f7f2cef96115a1e0ae5da49b341a55ad933230f58cb1e3 * 2 ^ 768 +
    0x1df6e22e8266ca60c02923ab0d534e6fd5db3745defd8e2f03ff6a726d6c5b51 * 2 ^ 512 +
    0x8d1baf92bbddbc7f11d95c411f105ad80ac13188a5cd7bbd2d74d012b8e5b4b0 * 2 ^ 256 +
    0x8969974a0c96777e65b9f109c56ec68418f07dec3adc4d2079ee5f3ed7cb3948 * 2 ^ 0

/-- The S-box over the four bytes of a word. -/
def sm4Tau (x : W32) : W32 :=
  let s := fun (k : Nat) => let b := (x.toNat >>> (8 * k)) % 256; bytesAt 256 sm4Box b b
  BitVec.ofNat 32 (packBits [(8, s 3), (8, s 2), (8, s 1), (8, s 0)])

/-- The transformation of a round. -/
def sm4T (x : W32) : W32 :=
  let b := sm4Tau x
  b ^^^ b.rotateLeft 2 ^^^ b.rotateLeft 10 ^^^ b.rotateLeft 18 ^^^ b.rotateLeft 24

/-- The transformation of the key schedule. -/
def sm4KeyT (x : W32) : W32 :=
  let b := sm4Tau x
  b ^^^ b.rotateLeft 13 ^^^ b.rotateLeft 23

/-- The constant CK of a round. -/
def sm4Ck (i : Nat) : W32 :=
  BitVec.ofNat 32 (packBits ((List.range 4).map (fun j => (8, (4 * i + j) * 7 % 256))))

/-- `n` round keys from round i on, from the four words before. -/
def sm4Keys : Nat → Nat → W32 → W32 → W32 → W32 → List W32
  | 0, _, _, _, _, _ => []
  | n + 1, i, a, b, c, d =>
    let k := a ^^^ sm4KeyT (b ^^^ c ^^^ d ^^^ sm4Ck i)
    k :: sm4Keys n (i + 1) b c d k

/-- The rounds of an encryption. -/
def sm4Rounds : List W32 → W32 → W32 → W32 → W32 → Nat
  | [], a, b, c, d => packBits [(32, d.toNat), (32, c.toNat), (32, b.toNat), (32, a.toNat)]
  | k :: t, a, b, c, d => sm4Rounds t b c d (a ^^^ sm4T (b ^^^ c ^^^ d ^^^ k))

/-- SM4 of a block of 128 bits under a key of 128 bits. -/
def sm4 (key x : Nat) : Nat :=
  let w := fun (v k : Nat) => BitVec.ofNat 32 (v >>> (32 * (3 - k)))
  sm4Rounds (sm4Keys 32 0 (w key 0 ^^^ 0xA3B1BAC6) (w key 1 ^^^ 0x56AA3350) (w key 2 ^^^ 0x677D9197) (w key 3 ^^^ 0xB27022DC))
    (w x 0) (w x 1) (w x 2) (w x 3)

/-! ## GCM (NIST SP 800-38D) -/

/-- The product of two blocks: `n` bits of x still to come, v the other factor as shifted so far, z the sum so far. -/
def gcmMul : Nat → Nat → Nat → Nat → Nat
  | 0, _, _, z => z
  | n + 1, x, v, z =>
    gcmMul n x (if v % 2 = 1 then (v / 2) ^^^ (0xE1 * 2 ^ 120) else v / 2) (if bit x n then z ^^^ v else z)

/-- GHASH under H over bytes, in blocks of 16 with a zero fill, from a value. -/
def ghash (h : Nat) : Nat → List Byte → Nat → Nat
  | 0, _, y => y
  | n + 1, b, y =>
    let x := b.take 16
    ghash h n (b.drop 16) (gcmMul 128 (y ^^^ (ofBytes x * 256 ^ (16 - x.length))) h 0)

/-- Bytes combined with the key stream from a counter on, `n` blocks. -/
def gcmStream (key iv : Nat) : Nat → Nat → List Byte → List Byte
  | 0, _, _ => []
  | n + 1, c, b =>
    List.zipWith (· ^^^ ·) (b.take 16) (toBytes 16 (sm4 key (iv * 2 ^ 32 + c))) ++ gcmStream key iv n (c + 1) (b.drop 16)

/-- The tag of additional data and a ciphertext. -/
def gcmTag (key iv : Nat) (aad c : List Byte) : Nat :=
  let h := sm4 key 0
  let y := ghash h (ceilDiv c.length 16) c (ghash h (ceilDiv aad.length 16) aad 0)
  gcmMul 128 (y ^^^ packBits [(64, 8 * aad.length), (64, 8 * c.length)]) h 0 ^^^ sm4 key (iv * 2 ^ 32 + 1)

/-- SM4-GCM: the ciphertext of bytes and its tag of 16 bytes, under an IV of 96 bits. -/
def gcmSeal (key iv : Nat) (aad p : List Byte) : List Byte :=
  let c := gcmStream key iv (ceilDiv p.length 16) 2 p
  c ++ toBytes 16 (gcmTag key iv aad c)

/-- The plaintext of a body that ends in its tag; none where the tag fails. -/
def gcmOpen (key iv : Nat) (aad b : List Byte) : Option (List Byte) :=
  let c := b.take (b.length - 16)
  if 16 ≤ b.length ∧ ofBytes (b.drop c.length) = gcmTag key iv aad c then some (gcmStream key iv (ceilDiv c.length 16) 2 c)
  else none

/-! ## Management records (R344, R347, Table 15-9) -/

/-- A record's type (Table 15-9). -/
def recordType (p : List Byte) : Nat := bytesFrom p 0 1 % 16

/-- A record is well formed: version, type and length (R344). -/
def recordOk (p : List Byte) : Bool :=
  decide (16 ≤ p.length ∧ bytesFrom p 0 1 / 16 = 1 ∧ 1 ≤ recordType p ∧ recordType p ≤ 5 ∧ bytesFrom p 12 2 = p.length - 16)

/-- A record's session. -/
def recordSession (p : List Byte) : Nat := bytesFrom p 2 2
/-- A record's sequence. -/
def recordSeq (p : List Byte) : Nat := bytesFrom p 4 8

/-- The header of a record with a body of n bytes. -/
def recordHead (type session seq n : Nat) : List Byte :=
  toBytes 16 (packBits [(4, 1), (4, type), (8, 0), (16, session), (64, seq), (16, n), (16, 0)])

/-- A record whose body is not protected. -/
def plainRecord (type session : Nat) (body : List Byte) : List Byte := recordHead type session 0 body.length ++ body

/-- A protected record from the device: key K[127:0], IV prefix 1 (R347). -/
def sealedRecord (key type session seq : Nat) (p : List Byte) : List Byte :=
  let head := recordHead type session seq (p.length + 16)
  head ++ gcmSeal (key % 2 ^ 128) (2 ^ 64 + seq) head p

/-- The plaintext of a protected record from the peer: key K[255:128], IV prefix 2 (R347); none where its tag fails. -/
def openRecord (key : Nat) (p : List Byte) : Option (List Byte) :=
  gcmOpen (key / 2 ^ 128) (2 * 2 ^ 64 + recordSeq p) (p.take 16) (p.drop 16)

end Sys2Proof.Machine
end

