-- ==== Sys2Proof/Machine/Ingress.lean ====
section
/-! DEFINITION. The ingress side: sequences and tails, lookup, policing, spraying and admission, the link layer's control
frames, cuts, and the route table versions (R45, R66 to R91, R100, R104 to R113, R120 to R124, R141 to R144). -/

namespace Sys2Proof.Machine

/-! ## The head of a sequenced frame (R48 to R52, R66) -/

/-- Takes the head of a sequenced frame on a lane at its receive timestamp: the header check, the acknowledgement it
carries and its sequence (R66). A frame that is no Swent frame on the lane is none of this command's. Answers whether the frame is the one expected and goes on. A frame of TC6 carries no
link sequence (R65): with an opcode that is not one of TC6 it breaks its row (R52). -/
def Dev.frameHead (d : Dev) (l : Nat) (f : Frame) (t : FabricTime) : Dev × Bool :=
  let r := (d.lane l).rx
  if !r.lock || r.rx.isSome || decide (d.framing l f = .ptp ∨ d.framing l f = .other) then (d, false)
  else if !(d.headerOk l f) then
    let d := if d.framing l f = .swent ∧ f.hdr.hcheck = headerCheck f.hdr f.ext then d.raise 0x2034 l else d
    (d.askNack l 2 t, false)
  else if f.hdr.tc = 6 then (d.raise 0x2034 l, false)
  else
    let d := if f.hdr.a then d.ackLane l f.hdr.ack else d
    let ahead := wrapSub 16 f.hdr.seq r.expect
    if ahead ≥ 32768 then (d.count 0x2E02 l, false)
    else if ahead ≠ 0 then (d.askNack l 3 t, false)
    else (d.sawExpected l, true)

/-- The virtual channel on which a frame arrives: half 0 on a leaf-facing port, whatever its H bit (R28). -/
def Dev.vcIn (d : Dev) (l : Nat) (f : Frame) : Nat := vcOf f.hdr.tc (d.isRing l && f.hdr.h)

/-- A frame starts to arrive on a lane. -/
def Dev.startRx (d : Dev) (l : Nat) (f : Frame) (t : FabricTime) (held freeVc : Option Nat) : Dev :=
  d.modRx l (fun r => { r with rx := some ⟨f, t, held, freeVc⟩ })

/-- The frame arriving on a lane is being discarded: on a credited channel it takes its positions of the ring, behind those of
the frames before it, until its tail (R37, R77). Where the ring has no room, none. -/
def Dev.discardHead (d : Dev) (l : Nat) (f : Frame) (t : FabricTime) : Dev :=
  let vc := d.vcIn l f
  if credited vc && decide ((d.ring l vc).used + f.flits ≤ (d.ring l vc).size) then
    ((d.takeRun l vc 0 f.flits).stageFlits l 0 f.flits).startRx l f t none (some vc)
  else d.startRx l f t none none

/-- The frame expected on a lane is refused by its form or by the lane's service before lookup (R37, R52, R79): answers
the device and whether the frame goes on; where it does not, the discard has begun. -/
def Dev.admitHead (d : Dev) (l : Nat) (f : Frame) (t : FabricTime) : Dev × Bool :=
  let vc := d.vcIn l f
  if !f.rowOk || (f.ext.isSome && !(d.confirmed l)) then ((d.raise 0x2034 l).discardHead l f t, false)
  else if !(d.carries l) then ((if f.badSize then d else d.raiseOnLane 0x2021 l).discardHead l f t, false)
  else if credited vc && decide ((d.ring l vc).used + f.flits > (d.ring l vc).size) then
    ((d.raise 0x4001 l).startRx l f t none none, false)
  else (d, true)

/-- A frame passes stage I2 before its tag is drawn (R383): its form is legal and its lane confirmed where it must be (R52). -/
def Dev.passesI2 (d : Dev) (l : Nat) (f : Frame) : Bool := f.rowOk && !(f.ext.isSome && !(d.confirmed l))

/-! ## Lookup (R104 to R106, R113, R120, R123) -/

/-- The route entry of a version for a destination (R104): kind and the remaining bits. -/
def Dev.routeEntry (d : Dev) (v dst : Nat) : Nat :=
  let hall := dst / 2 ^ 20 % 16
  let leaf := dst / 2 ^ 9 % 2048
  bytesAt 512 (d.cfg (0x5100 + 16 * v + hall) (leaf / 256 + 1)) (leaf % 256 * 2) (leaf % 256 * 2 + 1)

/-- The state of a route table version. -/
def Versions.state (v : Versions) (i : Nat) : VState := if i = 0 then v.v0 else v.v1

/-- What the lookup answers (Table 05-2). -/
inductive Look where
  /-- discarded, with its event -/
  | discard (code : Nat)
  /-- multicast by a group pair -/
  | pair (p : Nat)
  /-- unicast to a port -/
  | port (p : Nat)
  /-- unicast to a link set: direction (0 east, 1 west) and group; the entry disagreed with the direction of travel -/
  | ring (dir group : Nat) (turned : Bool)
  deriving DecidableEq, Repr

/-- The lookup of a frame that arrived on a lane (rows 2 to 7 of Table 05-2). -/
def Dev.lookup (d : Dev) (l : Nat) (f : Frame) : Look :=
  let v := b2n f.hdr.e
  if d.versions.state v = .idle then .discard 0x5012
  else
    let e := d.routeEntry v f.hdr.dst
    let kind := bits e 15 14
    let role := d.role l
    if kind = 0 then .discard 0x5010
    else if kind = 3 then .pair (bits e 12 0)
    else if kind = 2 then
      let dir := bits e 13 13
      if role = 3 then .ring 0 (bits e 12 11) (decide (dir ≠ 0))
      else if role = 2 then .ring 1 (bits e 12 11) (decide (dir ≠ 1))
      else .ring dir (bits e 12 11) false
    else
      let p := bits e 9 0
      if (d.portOf p).1 = p ∧ (d.portLanes p).all (fun k => decide (d.role k = 1)) ∧ d.portCarries p = true then .port p
      else .discard 0x5011

/-! ## Spraying (R112, R113) -/

/-- The first element of a list in cyclic order after a pointer that satisfies a test, else the first after it. -/
def pickAfter (l : List Nat) (ptr : Nat) (test : Nat → Bool) : Option Nat :=
  let order := l.filter (fun x => decide (x > ptr)) ++ l.filter (fun x => decide (x ≤ ptr))
  match order.find? test with
  | some x => some x
  | none => order.head?

/-- A spray pointer as it reads: at rest it stands on the last element; that of a direction and link group before its first pick
too (R112; R113 gives its rest: DESIGN CHOICE, assumption 64). -/
def pointer (raw : Nat) (l : List Nat) : Nat := if raw = 0 then l.getLastD 0 else raw - 1

/-- A lane is open in a Crate's open map (R86). -/
def Dev.seesOpen (d : Dev) (n l : Nat) : Bool := (d.path n).openMap.get false l

/-- The lane that a Crate picks for a unicast frame to a port, and its spray pointer moved (R112). -/
def Dev.pickLane (d : Dev) (n p : Nat) : Option Nat × Dev :=
  let ls := d.carryingLanes p
  match pickAfter ls (pointer ((d.path n).spray.get 0 p) ls) (d.seesOpen n) with
  | some l => (some l, d.modPath n (fun c => { c with spray := c.spray.put 0 p (l + 1) }))
  | none => (none, d)

/-- Every port of the device: first lane and width, in port-number order. -/
def Dev.allPorts (d : Dev) : List (Nat × Nat) := allCrates.flatMap d.portsOf

/-- The ring ports of a direction that have a lane carrying data; of one link group, or of all (R113). -/
def Dev.linkSet (d : Dev) (dir : Nat) (group : Option Nat) : List Nat :=
  (d.allPorts.map (·.1)).filter (fun p =>
    decide (d.role p = dir + 2) && (match group with | some g => decide (d.laneCfg 0x5200 p = g) | none => true) &&
      !(d.carryingLanes p).isEmpty)

/-- The lane that a Crate picks for a frame to a link set, by its destination ID (R113): none where the direction has no port.
A fallback over every port of the direction uses and moves the pointer of the direction and group named (DESIGN CHOICE,
assumption 64). -/
def Dev.pickRing (d : Dev) (n dir group dst : Nat) : Option Nat × Dev :=
  let own := d.linkSet dir (some group)
  let ports := if own.isEmpty then d.linkSet dir none else own
  let d := if own.isEmpty && !ports.isEmpty then d.raise 0x5015 n dst else d
  let key := 4 * dir + group
  match pickAfter ports (pointer ((d.path n).sprayGroup.get 0 key) ports)
      (fun p => (d.carryingLanes p).any (d.seesOpen n)) with
  | some p =>
    (d.modPath n (fun c => { c with sprayGroup := c.sprayGroup.put 0 key (p + 1) })).pickLane n p
  | none => (none, d)

/-! ## Policing (R141 to R143) -/

/-- Fabric time in whole nanoseconds, 64 bits. -/
def Dev.nowNs (d : Dev) : Nat := d.now / 65536 % 2 ^ 64

/-- What a rate in Mb/s adds to a token count over whole nanoseconds, with 16 fractional bits (R142). -/
def tokens (rate ns : Nat) : Int := ((rate * ns * 65536 / 8000 : Nat) : Int)

/-- Refills a flow context up to a time in nanoseconds (R142). -/
def Flow.refill (f : Flow) (now : Nat) : Flow :=
  let span := now - f.last
  { f with tc := min (f.tc + tokens f.cir span) (f.cbs * 65536)
           tp := min (f.tp + tokens f.pir span) (f.pbs * 65536)
           last := now }

/-- Meters a frame of a charge against a refilled context: its colour and the context after it (R142). -/
def Flow.meter (f : Flow) (b : Nat) : Colour × Flow :=
  if f.tp < b * 65536 then (.red, { f with nR := wrapAdd 64 f.nR 1 })
  else if f.tc < b * 65536 then (.yellow, { f with tp := f.tp - b * 65536, nY := wrapAdd 64 f.nY 1 })
  else (.green, { f with tc := f.tc - b * 65536, tp := f.tp - b * 65536, nG := wrapAdd 64 f.nG 1 })

/-- The action of a colour: 0 pass, 1 mark, 2 drop. -/
def Flow.action (f : Flow) : Colour → Nat
  | .green => f.actG
  | .yellow => f.actY
  | .red => f.actR

/-- Puts a flow context at the front of a Crate's cache; the least recently used of a full set of eight is written back
to the store (R143). A write-back leaves a poison in the store: only a write of R144 clears it (Table 10-2). -/
def Dev.cacheFlow (d : Dev) (n index : Nat) (f : Flow) : Dev :=
  let c := (d.path n).cache.filter (fun p => decide (p.1 ≠ index))
  let same := c.filter (fun p => decide (p.1 % 256 = index % 256))
  if same.length ≥ 8 then
    match same.getLast? with
    | some v =>
      { d.modPath n (fun p => { p with cache := (index, f) :: c.filter (fun q => decide (q.1 ≠ v.1))
                                       writeBacks := wrapAdd 64 p.writeBacks 1 }) with
        flows := d.flows.upd {} v.1 (fun old => { v.2 with poison := v.2.poison || old.poison }) }
    | none => d
  else d.modPath n (fun p => { p with cache := (index, f) :: c })

/-- The stack that holds a flow context (R232). -/
def flowStack (index : Nat) : Nat := index / 64 % 12

/-- Event 0x9004 for a poisoned flow context: its stack, the partition and its index (Table 10-2, R244). -/
def Dev.raisePoison (d : Dev) (index : Nat) : Dev := d.raise 0x9004 (flowStack index) 1 index

/-- The class slot of a class: 15 means not policed (R141). -/
def Dev.classSlot (d : Dev) (tc : Nat) : Nat := if tc > 3 then 15 else bits (d.cfg 0x7000 3) (4 * tc + 3) (4 * tc)

/-- The flow context of a frame that arrived on a lane, none where it is not policed (R141). -/
def Dev.policed (d : Dev) (l : Nat) (f : Frame) : Option Nat :=
  if f.hdr.opcode = 0x01 ∧ d.role l = 1 ∧ d.cfg 0x7000 2 = 1 ∧ d.classSlot f.hdr.tc ≠ 15 then
    some (f.hdr.src % 2 ^ 20 * 4 + d.classSlot f.hdr.tc)
  else none

/-- The policer's action on a frame: 0 pass, 1 mark, 2 drop (R141 to R143, Table 10-2). -/
def Dev.police (d : Dev) (l : Nat) (f : Frame) : Nat × Dev :=
  match d.policed l f with
  | none => (0, d)
  | some i =>
    let n := crateOf l
    let charge := chargeOf f f.macLen
    let p := d.path n
    match p.cache.find? (fun q => decide (q.1 = i)) with
    | some (_, c) =>
      let d := d.modPath n (fun p => { p with hits := wrapAdd 64 p.hits 1 })
      if c.poison then (0, (d.cacheFlow n i c).raisePoison i)
      else if !c.enable then (0, d.cacheFlow n i c)
      else
        let r := (c.refill d.nowNs).meter charge
        let d := d.cacheFlow n i r.2
        let act := c.action r.1
        (act, if act = 2 then d.raise 0x7002 n i else d)
    | none =>
      let d := d.modPath n (fun p => { p with misses := wrapAdd 64 p.misses 1 })
      if p.fetches.any (fun q => decide (q.index = i)) then
        (0, d.modPath n (fun p => { p with fetches := p.fetches.map (fun (q : Fetch) =>
          if q.index = i then { q with charges := q.charges ++ [charge] } else q) }))
      else if p.fetches.length ≥ 64 then
        (0, (d.modPath n (fun p => { p with overflows := wrapAdd 64 p.overflows 1 })).raise 0x7001 n i)
      else (0, d.modPath n (fun p => { p with fetches := p.fetches ++ [⟨i, [charge]⟩] }))

/-- FLOW_CONTEXT_FETCH_DONE: a fetched context arrives, is refilled, and is charged for the frames that joined its
fetch; it enters the cache (R143). A FAILED stack gives a poisoned one (R242), under which each of those frames passed. -/
def Dev.fetchDone (d : Dev) (n index : Nat) : Dev :=
  match takeFirst (fun q => decide (q.index = index)) (d.path n).fetches with
  | none => d
  | some (q, rest) =>
    let d := d.modPath n (fun p => { p with fetches := rest })
    let f := d.flows.get {} index
    let f := if (d.stack (flowStack index)).status = .failed then { f with poison := true } else f
    if f.poison then q.charges.foldl (fun (d : Dev) _ => d.raisePoison index) (d.cacheFlow n index f)
    else if !f.enable then d.cacheFlow n index f
    else
      let f := f.refill d.nowNs
      let all : Nat := q.charges.foldl (fun a c => a + c) 0
      d.cacheFlow n index { f with tc := f.tc - all * 65536, tp := f.tp - all * 65536,
                                   nG := wrapAdd 64 f.nG q.charges.length }

/-- A flow context from its 64 bytes (Table 06-2). -/
def Flow.ofNat (v : Nat) : Flow :=
  let b := fun i j => bytesAt 64 v i j
  { cir := b 0 3, pir := b 4 7, cbs := b 8 11, pbs := b 12 15, tc := toSigned 48 (b 16 21), tp := toSigned 48 (b 22 27),
    last := b 28 35, enable := bit (b 36 36) 7, actG := bits (b 36 36) 5 4, actY := bits (b 36 36) 3 2,
    actR := bits (b 36 36) 1 0, nG := b 40 47, nY := b 48 55, nR := b 56 63 }

/-- The 64 bytes of a flow context (Table 06-2). -/
def Flow.toNat (f : Flow) : Nat :=
  packBits [(32, f.cir), (32, f.pir), (32, f.cbs), (32, f.pbs), (48, ofSigned 48 f.tc), (48, ofSigned 48 f.tp), (64, f.last),
    (1, b2n f.enable), (1, 0), (2, f.actG), (2, f.actY), (2, f.actR), (24, 0), (64, f.nG), (64, f.nY), (64, f.nR)]

/-- A flow context's values keep Table 06-2 (R144). -/
def Flow.ok (f : Flow) : Bool :=
  decide (1 ≤ f.cir ∧ f.cir ≤ 1600000 ∧ f.cir ≤ f.pir ∧ f.pir ≤ 1600000 ∧ 4224 ≤ f.cbs ∧ f.cbs ≤ 16777216 ∧
    4224 ≤ f.pbs ∧ f.pbs ≤ 16777216 ∧ f.actG ≤ 2 ∧ f.actY ≤ 2 ∧ f.actR ≤ 2)

/-- A context after a write of R144: rates, bursts, enable, actions and counts of the written one, the token counts kept
and clipped, or full where it becomes enabled or a poison is cleared (Table 10-2). -/
def Flow.written (old new : Flow) (now : Nat) : Flow :=
  let r := old.refill now
  let full := (new.enable && !old.enable) || old.poison
  { new with
    last := now
    tc := if full then new.cbs * 65536 else min r.tc (new.cbs * 65536)
    tp := if full then new.pbs * 65536 else min r.tp (new.pbs * 65536) }

/-- FLOW_CONTEXT_WRITE: a write slot's context replaces the one of its index wherever it is held (R144). -/
def Dev.flowWrite (d : Dev) (index value : Nat) : Dev :=
  let new := Flow.ofNat value
  let now := d.nowNs
  let d := { d with flows := d.flows.upd {} index (fun f => f.written new now) }
  { d with crates := d.crates.mapAll {} (fun _ c => { c with path := { c.path with
      cache := c.path.cache.map (fun p => if p.1 = index then (p.1, p.2.written new now) else p) } }) }

/-! ## Tagging of frames (R383, R385) -/

/-- One step of a Crate's tag generator: the Galois register of x³² + x²² + x² + x + 1, shifted right (DESIGN CHOICE:
R383 gives the polynomial and no direction; assumption 12). -/
def tagStep (g : Nat) : Nat := if g % 2 = 1 then (g / 2) ^^^ 0x80200003 else g / 2

/-- Advances the tag generator of a lane's Crate, and answers whether the frame is to be tagged (R383). -/
def Dev.tagDraw (d : Dev) (l : Nat) : Bool × Dev :=
  let n := crateOf l
  let g := tagStep (d.path n).tagGen
  let x := d.cfg 0xA000 2
  (decide (x ≠ 255) && decide (g < 2 ^ (32 - x)), d.modPath n (fun p => { p with tagGen := g }))

/-- What follows a tagged frame that arrived on a lane (Table 17-6). -/
def frameItem (l h : Nat) (f : Frame) (t : FabricTime) : Tagged :=
  { kind := 1, crate := crateOf l, key := h, tc := f.hdr.tc, h := b2n f.hdr.h, lane := l, size := f.flits,
    nameA := f.hdr.dst, nameB := f.hdr.src, t0 := t }

/-- Follows a tagged frame, or counts that 64 items are followed already (R385). -/
def Dev.followFrame (d : Dev) (l h : Nat) (f : Frame) (t : FabricTime) : Dev :=
  let n := crateOf l
  if (d.tele.items.filter (fun i => decide (i.crate = n))).length ≥ 64 then
    { d with tele := { d.tele with frameSkips := wrapAdd 64 d.tele.frameSkips 1 } }
  else
    { d with tele := { d.tele with
        framesTagged := wrapAdd 64 d.tele.framesTagged 1
        items := d.tele.items ++ [frameItem l h f t] } }

/-! ## Admission (R75 to R80, R86, R92, R235) -/

/-- A fresh handle for a stored frame, and the device that holds it. -/
def Dev.store (d : Dev) (x : Held) : Nat × Dev :=
  (d.nextHeld, { d.putHeld d.nextHeld x with nextHeld := d.nextHeld + 1 })

/-- A descriptor of a holding Crate for an egress Crate and channel is deferred, so later ones wait behind it (R85). -/
def Dev.waitsFor (d : Dev) (holder egress vc : Nat) : Bool :=
  d.waits.any (fun w => decide (w.holder = holder ∧ w.egress = egress ∧ w.vc = vc))

/-- Sends a whole or arriving unicast frame towards its lane: pushed where the lane is open, else by its descriptor
(R86); behind a deferred descriptor for the same Crate and channel it waits (R85). -/
def Dev.dispatch (d : Dev) (h l : Nat) (x : Held) (mark : Bool) : Dev :=
  let d := d.stage h 1 d.now
  if d.waitsFor x.crate (crateOf l) x.vc then d.sendDescriptor h l x mark
  else if d.seesOpen x.crate l && decide (d.cfg 0x4000 2 = 1) then d.send (.push h l mark)
  else d.sendDescriptor h l x mark

/-- Starts the passes of a frame sent by multicast (R92, R120). -/
def Dev.broadcast (d : Dev) (h : Nat) : Dev := (d.stage h 1 d.now).sendMulticast h

/-- The frame as it is held: without a MAC header, half 0 where it came on a leaf-facing port (R28, R46). -/
def Dev.inside (d : Dev) (l : Nat) (f : Frame) : Frame :=
  { f with mac := none, pad := [], hdr := { f.hdr with h := d.isRing l && f.hdr.h } }

/-- Whether an overrun of a Crate's datapath drops a TC0 or TC1 frame at ingress: only where its island runs below
1,562.5 MHz, and then by the rates of that moment, a free value (R20). -/
def Dev.overrun (d : Dev) (n vc : Nat) : Bool × Dev :=
  if !(credited vc) && decide (2 * (d.crate n).freq < 3125) then
    let r := d.draw
    (decide (r.1 % 2 = 1), r.2)
  else (false, d)

/-- Grants the Larder write arbiter of a lane's Crate gives the lane: one for each flit written into the slice (Table 04-6). Flits
of a ring in the Cellar are not written there. -/
def Dev.larderWrites (d : Dev) (l vc flits : Nat) : Dev :=
  if credited vc && d.cellarStore l then d
  else d.modPath (crateOf l) (fun p => { p with grants := p.grants.upd 0 (laneIn l) (fun n => wrapAdd 64 n flits) })

/-- Admits an arriving frame to the Larder under a new handle; none where a TC0 or TC1 frame falls to an overrun of the
datapath (R20) or where the shared pool is short (R79, R80). -/
def Dev.admitFrame (d : Dev) (l : Nat) (f : Frame) (t : FabricTime) (x : Held) : Option Nat × Dev :=
  let n := crateOf l
  let vc := x.vc
  let cells := cellsOf f.flits
  let o := d.overrun n vc
  let d := o.2
  if o.1 then (none, (d.count 0x4E02 n).startRx l f t none none)
  else if !(credited vc) && decide (d.sharedFree n < cells) then
    (none, (d.raise 0x4002 n).startRx l f t none none)
  else
    let r := d.store x
    let h := r.1
    let d := if credited vc then
        r.2.takeRun l vc h f.flits
      else ((r.2.notePool n).modPath n (fun p => { p with shared := p.shared + cells })).notePool n
    let d := (((d.noteLeast n).larderWrites l vc f.flits).startRx l f t (some h) none)
    (some h, if credited vc then d.stageFlits l h f.flits else d)

/-- The record of a frame as it arrives on a lane. -/
def Dev.arriving (d : Dev) (l : Nat) (f : Frame) (t : FabricTime) (mark : Bool) : Held :=
  let vc := d.vcIn l f
  { frame := d.inside l f, crate := crateOf l, lane := some l, vc := vc,
    account := if credited vc then .ring l vc else .shared, start := t, mark := mark }

/-- The excluded direction of a frame's row pass, by the role of the port it arrived on (R120). -/
def Dev.excludedOf (d : Dev) (l : Nat) : Nat := if d.isRing l then d.role l else 0

/-- An uncorrectable error in a Larder cell makes its frame bad; a single-bit error is corrected (R82): 0 none, 1
corrected, 2 uncorrectable. -/
def Dev.larderError (d : Dev) (h ecc : Nat) : Dev :=
  match d.heldAt h with
  | none => d
  | some x => if ecc = 1 then d.raise 0x4020 x.crate else if ecc = 2 then (d.raise 0x4021 x.crate).makeBad h else d

/-- A tagged frame that is discarded before it is stored: its sample record has outcome 1 and no stage (R385, Table 17-6). -/
def Dev.sampleLost (d : Dev) (tagged : Bool) (l : Nat) (f : Frame) (t : FabricTime) : Dev :=
  if tagged then
    let n := (d.tele.items.filter (fun i => decide (i.crate = crateOf l))).length
    if n ≥ 64 then { d with tele := { d.tele with frameSkips := wrapAdd 64 d.tele.frameSkips 1 } }
    else { d with tele := { d.tele with framesTagged := wrapAdd 64 d.tele.framesTagged 1 } }.writeSample
      { frameItem l 0 f t with outcome := 1 }
  else d

/-- A frame that finds no way out is discarded at lookup with its event and its count by class (R106). -/
def Dev.lostHead (d : Dev) (l : Nat) (f : Frame) (t : FabricTime) (tagged : Bool) (code : Nat) : Dev :=
  (((d.sampleLost tagged l f t).raise code (crateOf l) f.hdr.dst).count (0x5E01 + f.hdr.tc) (crateOf l)).discardHead l f t

/-- Follows the frame where it is tagged (R385). -/
def Dev.followIf (d : Dev) (tagged : Bool) (l h : Nat) (f : Frame) (t : FabricTime) : Dev :=
  if tagged then d.followFrame l h f t else d

/-- A frame sprayed to a lane is admitted and goes towards it; none is sprayed where the port has no lane (R106, R112, R122). -/
def Dev.goTowards (d : Dev) (l : Nat) (f : Frame) (t : FabricTime) (tagged mark : Bool) (k : Option Nat) : Dev :=
  match k with
  | none => d.lostHead l f t tagged 0x5011
  | some k =>
    if d.isRing l && f.hdr.h && d.dateLine k then d.lostHead l f t tagged 0x5013
    else
      let x := d.arriving l f t mark
      match d.admitFrame l f t x with
      | (none, d) => d.sampleLost tagged l f t
      | (some h, d) => (d.followIf tagged l h f t).dispatch h k x mark

/-- A frame for a group pair is admitted and sent by multicast (R118, R120). -/
def Dev.goMulticast (d : Dev) (l : Nat) (f : Frame) (t : FabricTime) (tagged mark : Bool) (q : Nat) : Dev :=
  let x := { d.arriving l f t mark with
    mrec := some ⟨128, 0, 2 * q + 1, d.excludedOf l, some (2 * q), false⟩ }
  match d.admitFrame l f t x with
  | (none, d) => d.sampleLost tagged l f t
  | (some h, d) => (d.followIf tagged l h f t).broadcast h

/-- A frame that was looked up and policed is sprayed and admitted by what the lookup answers (Table 05-2). -/
def Dev.routeHead (d : Dev) (l : Nat) (f : Frame) (t : FabricTime) (tagged mark : Bool) (look : Look) : Dev :=
  match look with
  | .discard code => d.lostHead l f t tagged code
  | .port q =>
    let r := d.pickLane (crateOf l) q
    r.2.goTowards l f t tagged mark r.1
  | .ring dir g turned =>
    let r := (if turned then d.raise 0x5014 (crateOf l) f.hdr.dst else d).pickRing (crateOf l) dir g f.hdr.dst
    r.2.goTowards l f t tagged mark r.1
  | .pair q => d.goMulticast l f t tagged mark q

/-- A frame with an endpoint destination that has passed I2 and I3 is looked up, policed, sprayed and admitted
(DATA, and CNACK and MGMT frames that carry an endpoint ID: R106, Table 03-3). -/
def Dev.forward (d : Dev) (l : Nat) (f : Frame) (t : FabricTime) (tagged : Bool) : Dev :=
  match d.lookup l f with
  | .discard code => d.lostHead l f t tagged code
  | look =>
    let p := d.police l f
    if p.1 = 2 then (p.2.sampleLost tagged l f t).discardHead l f t
    else p.2.routeHead l f t tagged (decide (p.1 = 1)) look

/-- DATA: the head of a DATA frame, or of a frame of a reserved opcode, arrives (R52, R66, R106). -/
def Dev.data (d : Dev) (l : Nat) (f : Frame) (t : FabricTime) : Dev :=
  if f.hdr.opcode ∈ [0x10, 0x11, 0x12, 0x20, 0x21, 0x22, 0x23, 0x30] then d
  else
    let r := d.frameHead l f t
    if !r.2 then r.1
    else
      let g := if r.1.passesI2 l f then r.1.tagDraw l else (false, r.1)
      let a := g.2.admitHead l f t
      if !a.2 then a.1.sampleLost g.1 l f t else a.1.forward l f t g.1

/-- DATA with what the Larder's ECC finds in the cells that the frame fills (R82). -/
def Dev.dataEcc (d : Dev) (l : Nat) (f : Frame) (t : FabricTime) (ecc : Nat) : Dev :=
  let e := d.data l f t
  if e.nextHeld = d.nextHeld then e else e.larderError d.nextHeld ecc

/-- PULL with what the Larder's ECC finds in the cells read (R82, R88). -/
def Dev.pullEcc (d : Dev) (l ecc : Nat) : Dev :=
  match d.pulled l with
  | some h => (d.larderError h ecc).pull l
  | none => d

/-! ## Tails (R53, R61, R66, R78, R380) -/

/-- Counts a frame taken on a lane (R380, R222). -/
def Dev.countTaken (d : Dev) (l : Nat) (f : Frame) : Dev :=
  let charge := chargeOf f f.macLen
  d.modEgress l (fun e => { e with
    traffic := (e.traffic.upd 0 (4 * f.hdr.tc) (fun n => wrapAdd 64 n 1)).upd 0 (4 * f.hdr.tc + 1) (fun n => wrapAdd 64 n charge)
    stepRx := e.stepRx + charge })

/-- A held RESULT whose tail has come whole: what relays end is done in Contexts (R216). -/
def Dev.freeAtOnce (d : Dev) (h : Nat) : Dev :=
  match d.heldAt h with
  | some x => match x.account with
    | .ring l vc => d.freeRun l vc h true
    | _ => d
  | none => d

/-- The tail of the frame arriving on a lane, with the state of its FCS: taken, or discarded with an LNACK asked for
(R61, R66, R78). Answers the handle of the frame when it is whole and good. -/
def Dev.frameTail (d : Dev) (l : Nat) (fcs : Fcs) (t : FabricTime) : Dev × Option Nat :=
  match (d.lane l).rx.rx with
  | none => (d, none)
  | some r =>
    let d := d.modRx l (fun q => { q with rx := none })
    let whole := fun (d : Dev) => match r.held with
      | some h => d.modHeld h (fun x => { x with whole := true })
      | none => d
    match fcs with
    | .bad =>
      let d := d.askNack l 1 t
      match r.held with
      | none => (match r.freeVc with | some vc => d.freeRun l vc 0 false | none => d, none)
      | some h =>
        (((whole d).uncount h).makeBad h, none)
    | _ =>
      let d := (d.takeSeq l).countTaken l r.frame
      let d := match r.freeVc with | some vc => d.freeRun l vc 0 true | none => d
      if fcs = .marked then
        let d := d.count 0x2E05 l
        (match r.held with | some h => ((whole d).freeAtOnce h).makeBad h | none => d, none)
      else if r.frame.badSize && r.frame.rowOk then
        let d := d.raise 0x2034 l
        (match r.held with | some h => ((whole d).freeAtOnce h).makeBad h | none => d, none)
      else (whole d, r.held)

/-- The ring positions of a frame that the device terminates, taken and passed at once, its flits through the staging buffer of a
Cellar-store lane (R77, R235). -/
def Dev.passFlits (d : Dev) (l vc flits : Nat) (counts : Bool) : Dev :=
  let d := d.passRun l vc flits counts
  if credited vc then d.stageFlits l 0 flits else d

/-- What an FCS received on a lane says of the frame now arriving there (R61). -/
def Dev.arrivingFcs (d : Dev) (l w : Nat) : Fcs :=
  match (d.lane l).rx.rx with | some r => r.frame.fcsState w | none => .bad

/-- A frame that the device terminates, given whole: its head, form and service, then its tail. Answers whether it is
taken and good; its ring positions are then still to be passed by the caller (R58, R66, R77). One that passes stage I2 advances
the tag generator (R383). -/
def Dev.wholeFrame (d : Dev) (l : Nat) (f : Frame) (fcs : Fcs) (t : FabricTime) : Dev × Bool :=
  let r := d.frameHead l f t
  if !r.2 then (r.1, false)
  else
    let a := (if r.1.passesI2 l f && decide (f.hdr.opcode ≠ 0x10) then (r.1.tagDraw l).2 else r.1).admitHead l f t
    if !a.2 then ((a.1.frameTail l fcs t).1, false)
    else
      let d := a.1.startRx l f t none none
      let q := d.frameTail l fcs t
      let taken := decide (fcs ≠ .bad)
      let good := decide (fcs = .good) && !f.badSize
      ((if good then q.1 else q.1.passFlits l (a.1.vcIn l f) f.flits taken), good)

/-- MGMT: a management frame is forwarded by its endpoint ID, or terminated: its record is
given to the Attic, or discarded and counted where it is malformed or the Attic is halted (R16, R344, Table 03-3). -/
def Dev.mgmt (d : Dev) (l : Nat) (f : Frame) (fcs : Fcs) (t : FabricTime) : Dev :=
  if f.hdr.opcode ≠ 0x30 then d
  else if isEndpoint f.hdr.dst then
    let r := d.frameHead l f t
    if !r.2 then r.1
    else
      let g := if r.1.passesI2 l f then r.1.tagDraw l else (false, r.1)
      let a := g.2.admitHead l f t
      if !a.2 then a.1.sampleLost g.1 l f t else a.1.forward l f t g.1
  else
    let r := d.wholeFrame l f fcs t
    if !r.2 then r.1
    else
      let d := (r.1.larderWrites l (r.1.vcIn l f) f.flits).passFlits l (r.1.vcIn l f) f.flits true
      if !d.atticRuns then d.count 0x2E07 (crateOf l)
      else if recordOk f.payload then d.emit (.toAttic l f t) else d.count 0xBE01 0

/-- A frame that is no Swent frame arrives whole on a lane. More than 4,224 bytes are not held, so such a frame is bad: it is
discarded with event 0x2034 (R53, Table 03-4; that it holds of every frame: DEDUCED, assumption 65). One of EtherType 0x88F7
goes to the Attic with its receive timestamp, or is dropped and counted (R287); any other is foreign: counted, and dropped or
punted by the lane's policy (R45). -/
def Dev.otherFrame (d : Dev) (l : Nat) (f : Frame) (fcs : Fcs) (t : FabricTime) : Dev :=
  if !(d.lane l).rx.lock then d
  else match d.framing l f with
    | .swent => d
    | .broken => (d.frameHead l f t).1
    | .ptp =>
      if fcs ≠ .good then (if fcs = .marked then d.count 0x2E05 l else d)
      else if f.size > 4224 then d.raise 0x2034 l
      else if d.laneCfg 0x8100 l = 1 ∧ d.atticRuns = true then d.emit (.toAttic l f t)
      else d.count 0x8E01 l
    | .other =>
      let d := d.count 0x2E01 l
      if fcs ≠ .good then (if fcs = .marked then d.count 0x2E05 l else d)
      else if f.size > 4224 then d.raise 0x2034 l
      else if d.laneCfg 0x2400 l = 1 ∧ d.atticRuns = true then d.emit (.toAttic l f t) else d

/-- PTP_FRAME: a frame of EtherType 0x88F7 on an Ethernet-mode port (R45, R287). The EtherType alone decides what it is. -/
def Dev.ptpFrame (d : Dev) (l : Nat) (f : Frame) (fcs : Fcs) (t : FabricTime) : Dev := d.otherFrame l f fcs t

/-- FOREIGN_FRAME: a frame of another EtherType on an Ethernet-mode port (R45). The EtherType alone decides what it is. -/
def Dev.foreignFrame (d : Dev) (l : Nat) (f : Frame) (fcs : Fcs) (t : FabricTime) : Dev := d.otherFrame l f fcs t

/-! ## Control frames of the link layer (R63 to R69) -/

/-- A frame with an opcode of TC6 arrives: one of another class breaks its row (R52, R65). Answers the device and whether
its payload is to be taken. -/
def Dev.controlFrameArrives (d : Dev) (opcode l : Nat) (f : Frame) (fcs : Fcs) (t : FabricTime) : Dev × Bool :=
  if f.hdr.opcode ≠ opcode then (d, false)
  else if f.hdr.tc = 6 then d.controlArrives l f fcs t
  else ((d.wholeFrame l f fcs t).1, false)

/-- HELLO: a hello arrives (R32 to R35). -/
def Dev.helloArrives (d : Dev) (l : Nat) (f : Frame) (fcs : Fcs) (t : FabricTime) : Dev :=
  let r := d.controlFrameArrives 0x20 l f fcs t
  if r.2 then r.1.takeHello l f.payload t
  else if f.hdr.opcode = 0x20 ∧ (d.lane l).rx.lock = true ∧ d.headerOk l f = false then r.1.raiseOnLane 0x2020 l
  else r.1

/-- LINK: a LINK frame's credit limits and acknowledgement (R63 to R65). -/
def Dev.link (d : Dev) (l : Nat) (f : Frame) (fcs : Fcs) (t : FabricTime) : Dev :=
  let r := d.controlFrameArrives 0x21 l f fcs t
  if r.2 && controlOk f.payload then
    let d := (List.range 10).foldl (fun (d : Dev) k =>
      let vc := creditedVcs.getD k 4
      let lim := bytesFrom f.payload (3 * k) 3
      let d := d.modTx l (fun q => { q with limit := q.limit.put 0 vc lim })
      if wrapSub 24 lim ((d.lane l).tx.consumed.get 0 vc) ≥ 2 ^ 23 then d.raise 0x2035 l else d) r.1
    (d.modTx l (fun q => { q with credited := true, lateCounted := false })).ackLane l (bytesFrom f.payload 30 2)
  else r.1

/-- Resets a lane: PCS lock is dropped, the frames of its replay buffer are discarded and counted, event 0x2033 (R69). -/
def Dev.laneReset (d : Dev) (l : Nat) : Dev :=
  let n := (d.lane l).tx.replay.length
  let d := (d.countN 0x2E04 l n).modTx l (fun q => { q with replay := [], replayDue := none })
  (((d.raise 0x2033 l).dropLock l).evalLane l)

/-- LNACK: acknowledges every sequence before E and, where E lies in the window, sets off a replay from E (R68, R69). -/
def Dev.lnack (d : Dev) (l : Nat) (f : Frame) (fcs : Fcs) (t : FabricTime) : Dev :=
  let r := d.controlFrameArrives 0x22 l f fcs t
  if r.2 && controlOk f.payload then
    let d := r.1
    let e := bytesFrom f.payload 0 2
    if (d.lane l).tx.inWindow e then
      let d := (d.ackLane l e).raise 0x2030 l
      if e = (d.lane l).tx.next then d
      else
        let q := d.triggerReplay l e
        if q.2 then q.1.laneReset l else q.1
    else d.count 0x2E03 l
  else r.1

/-- ACKNOWLEDGEMENT_DEADLINE: the oldest unacknowledged frame's deadline passes: a replay from it, event 0x2032, or a
lane reset at the ninth trigger (R69). -/
def Dev.ackDeadlinePassed (d : Dev) (l : Nat) : Dev :=
  match (d.lane l).tx.replay with
  | [] => d
  | x :: _ =>
    let q := (d.raise 0x2032 l).triggerReplay l x.seq
    if q.2 then q.1.laneReset l else q.1

/-- CREDIT_REPORT_LATE: 2 µs pass without a valid LINK frame: one occurrence of the silence is counted (R64). -/
def Dev.creditLate (d : Dev) (l : Nat) : Dev :=
  if !(d.lane l).rx.lock || (d.lane l).tx.lateCounted then d
  else (d.modTx l (fun q => { q with lateCounted := true })).raise 0x2031 l

/-! ## Worm cuts (R100, R101) -/

/-- Adds a number to a list that holds each at most once. -/
def addOnce (n : Nat) (l : List Nat) : List Nat := if n ∈ l then l else l ++ [n]

/-- Sets the stalled flag of an arbiter's record (R100, R101). -/
def Dev.setStalled (d : Dev) : Arbiter → Dev
  | .egress l r => d.modEgress l (fun e => { e with stalled := addOnce r e.stalled })
  | .larderWrite c r => d.modPath c (fun p => { p with stalled := addOnce r p.stalled })
  | .router c r => d.modPath c (fun p => { p with stalled := addOnce (128 + r) p.stalled })
  | .larderRead c r => d.modPath c (fun p => { p with stalled := addOnce (256 + r) p.stalled })
  | .bridge y dir r => { d with arb := { d.arb with stalled := addOnce (y * 16 + dir * 8 + r) d.arb.stalled } }
  | .cellar k r => { d with stackTab := d.stackTab.upd {} k (fun s => { s with stalled := addOnce r s.stalled }) }

/-- The Crate that event 0x4010 names for an arbiter: its own, or that of the cut frame for the bridge and the Cellar. -/
def Dev.arbiterCrate (d : Dev) (h : Nat) : Arbiter → Nat
  | .egress l _ => crateOf l
  | .larderWrite c _ | .router c _ | .larderRead c _ => c
  | _ => match d.heldAt h with | some x => x.crate | none => 0

/-- The ways of a stored frame's worms that are now in the mesh: the pushed frame on its way to its lane, and the frame that a
lane pulls or has claimed, from its holding Crate (R86 to R88). -/
def Dev.worms (d : Dev) (h : Nat) : List (Nat × Nat) :=
  let c := d.holder h
  (d.net.filterMap (fun m => match m with | .push k l _ => if k = h then some (c, crateOf l) else none | _ => none)) ++
  (d.livingLanes.filter (fun l =>
    let e := d.egress l
    e.sel.any (fun s => decide (s.held = h) && s.pulled && !s.done) || e.cur.any (fun q => decide (q.held = h) && !q.done))).map
      (fun l => (c, crateOf l))

/-- A hop of a worm asks an arbiter for a grant as a requester: the router of its Crate on the frame's network, or the
bridge's row link (R99, Table 04-6). -/
def Hop.asks (vn src : Nat) (k : Hop) : Arbiter → Bool
  | .router c r => !k.crosses && decide (k.at_ = c ∧ r = 5 * vn + k.input)
  | .bridge y dir r => k.crosses && decide (rowOf k.at_ = y ∧ dieOf k.at_ = dir ∧ colOf src = r)
  | _ => false

/-- A way through the mesh asks an arbiter for a grant as a requester: some hop of its route does (R10). -/
def wayAsks (vn : Nat) (w : Nat × Nat) (a : Arbiter) : Bool := (hops w.1 w.2).any (fun k => k.asks vn w.1 a)

/-- A frame's worm can hold a grant of an arbiter: the frame stands at it or its route passes it (R10, R100). -/
def Dev.wormAt (d : Dev) (a : Arbiter) (h : Nat) : Bool :=
  match a with
  | .egress l r => (d.egress l).sel.any (fun s => decide (s.held = h ∧ (if s.claimed then 16 else s.vc) = r)) ||
      (d.egress l).cur.any (fun q => decide (q.held = h))
  | .larderWrite c r => (d.heldAt h).any (fun x => decide (x.crate = c) && !x.whole && decide (x.lane = some (8 * c + r)))
  | .larderRead c r => decide (d.holder h = c) && (d.worms h).any (fun w => decide (w.2 = r))
  | .cellar k _ => d.heldOnStack h k
  | a => (d.worms h).any (fun w => wayAsks (d.vnOf h) w a)

/-- WORM_CUT: an arbiter cuts the worm of a frame that stands at it: the frame becomes bad, the requester's stalled flag is set,
event 0x4010 (R100). -/
def Dev.wormCut (d : Dev) (a : Arbiter) (h : Nat) : Dev :=
  if d.wormAt a h then ((d.setStalled a).raise 0x4010 (d.arbiterCrate h a)).makeBad h else d

/-! ## Route table versions (R108 to R110) -/

/-- The versions with one version's state set. -/
def Versions.set (v : Versions) (i : Nat) (s : VState) : Versions := if i = 0 then { v with v0 := s } else { v with v1 := s }

/-- PREPARE_VERSION: a version moves from IDLE to PREPARED at its commit step (R109). -/
def Dev.prepare (d : Dev) (v : Nat) : Dev :=
  if d.versions.state v = .idle then { d with versions := d.versions.set v .prepared } else d

/-- FLIP_TO_VERSION: a PREPARED version becomes ACTIVE, the other DRAINING; the retirement step is fixed; event 0x5016
(R109). -/
def Dev.flip (d : Dev) (v : Nat) : Dev :=
  if d.versions.state v = .prepared then
    let o := if v = 0 then 1 else 0
    { d with versions := { (d.versions.set v .active).set o .draining with retire := d.step + d.cfg 0x5000 9 } }.raise 0x5016 0 v
  else d

/-- VERSION_RETIREMENT: at the retirement step the DRAINING version becomes IDLE; event 0x5017 (R109). -/
def Dev.retire (d : Dev) : Dev :=
  let go := fun (d : Dev) (v : Nat) =>
    { d with versions := { d.versions.set v .idle with retire := 0 } }.raise 0x5017 0 v
  if d.versions.v0 = .draining then go d 0 else if d.versions.v1 = .draining then go d 1 else d

/-- The version that is ACTIVE, which frames of the device carry in E (R107). -/
def Dev.activeVersion (d : Dev) : Bool := decide (d.versions.v1 = .active)

end Sys2Proof.Machine
end

