-- ==== Sys2Proof/Machine/Clock.lean ====
section
/-! DEFINITION. Time: the reference clock's tick, STEP frames, the servo, the parent, clock states (R283 to R303). -/

namespace Sys2Proof.Machine

/-- Changes the time unit. -/
def Dev.modTime (d : Dev) (f : TimeUnit → TimeUnit) : Dev := { d with time := f d.time }

/-- The time role: 0 ROOT-FREE, 1 FOLLOWER, 2 ROOT-PPS, 3 ROOT-ATTIC (R293). -/
def Dev.timeRole (d : Dev) : Nat := d.cfg 0x8000 1

/-- The lock threshold in 2⁻¹⁶ ns. -/
def Dev.lockThreshold (d : Dev) : Nat := d.cfg 0x8000 9 * 65536

/-- A value kept between two bounds. -/
def clampInt (lo hi v : Int) : Int := if v < lo then lo else if v > hi then hi else v

/-- The rate adjustment of the increment, ppb, never beyond ±200 ppm: where the tracked frequency and the slew together would
pass it, the slew is reduced to fit (R284, R294, R295, Table 13-4). -/
def Dev.rateAdjust (d : Dev) : Int :=
  if d.timeRole = 0 ∨ d.time.clock = 0 then 0
  else clampInt (-200000) 200000 ((if d.time.clock = 3 then d.time.held else d.time.track) + d.time.slew)

/-- The increment of one period of the reference clock, in 2⁻³² ns (R284). -/
def Dev.increment (d : Dev) : Nat := ((0x666666666 : Int) + 0x666666666 * d.rateAdjust / 1000000000).toNat

/-- One period of the 156.25 MHz reference clock: fabric time rises by the increment (R284). Held in cold reset, the time
unit stands still at 0 (R283, R397), and without power everything does (R17). -/
def Dev.tick (d : Dev) : Dev :=
  if d.attic.holding || !d.board.powered then d else d.modTime (fun t => { t with fab := (t.fab + d.increment) % 2 ^ 96, ran := t.ran + d.increment })

/-- What the time error bound adds over a parent's: 2.5 ns, the half of an odd hop rounded up and made good at the next
(R297; DEDUCED, assumption 33). -/
def hopBound (hops : Nat) : Nat := if hops % 2 = 1 then 3 else 2

/-- The time error bound that the device publishes, ns (R297). -/
def Dev.errorBound (d : Dev) : Nat :=
  let t := d.time
  if t.clock = 2 then
    if d.timeRole ≠ 1 then 0
    else match t.parent with
      | none => 0xFFFFFFFF
      | some l =>
        let b := (d.lane l).time.bound
        if b = 0xFFFFFFFF then b else min 0xFFFFFFFF (b + hopBound t.hops)
  else if t.clock = 3 then
    if t.boundIn = 0xFFFFFFFF then 0xFFFFFFFF
    else min 0xFFFFFFFF (t.boundIn + ceilDiv (d.cfg 0x8000 0x0D * (d.now - t.holdFrom)) (65536 * 1000000000))
  else 0xFFFFFFFF

/-! ## The servo (R294, R295) -/

/-- The mean of the rates of the last 16 steps. -/
def meanRate (l : List Int) : Int := if l = [] then 0 else l.foldl (fun (a : Int) x => a + x) 0 / l.length

/-- HOLDOVER is entered with the time error bound of that moment: the rate is frozen at the mean of the last 16 steps
(R297, Table 13-4). -/
def Dev.holdover (d : Dev) (b : Nat) : Dev :=
  (d.modTime (fun t => { t with
    clock := 3, held := meanRate t.recent, slew := 0, remain := 0, boundIn := b, holdFrom := d.now, goodSteps := 0
    stepGood := none, badRun := 0, source := false })).raiseTime 0x8002 0

/-- The time source is lost, the time error bound being b: ACQUIRING or TRACKING goes to HOLDOVER; a ROOT-FREE source is
never lost (R294). -/
def Dev.loseSource (d : Dev) (b : Nat) : Dev :=
  if d.timeRole = 0 then d
  else if d.time.clock = 1 ∨ d.time.clock = 2 then d.holdover b
  else d.modTime (fun t => { t with source := false })

/-- The time source is lost at the bound now published (R294, R297). -/
def Dev.sourceLost (d : Dev) : Dev := d.loseSource d.errorBound

/-- A source appears: FREE-RUN goes to ACQUIRING (Table 13-4). -/
def Dev.sourceAppears (d : Dev) : Dev :=
  d.modTime (fun t => if t.clock = 0 then { t with clock := 1, jumped := false, source := true, goodSteps := 0,
                                                   stepGood := none, badRun := 0, track := 0 }
                      else { t with source := true })

/-- TRACKING is entered, with event 0x8001 (Table 13-4). From HOLDOVER the tracked frequency starts at the frozen rate, but
for ROOT-ATTIC, whose frequency is the one the Attic wrote (R294). -/
def Dev.enterTracking (d : Dev) : Dev :=
  (d.modTime (fun t => { t with clock := 2, goodSteps := 0, badRun := 0,
                                track := if t.clock = 3 ∧ d.timeRole ≠ 3 then t.held else t.track })).raiseTime 0x8001 0

/-- A time jump by an amount in 2⁻¹⁶ ns (Table 13-4, event 0x8007). The boundaries that it crosses are passed after it
(R296). -/
def Dev.timeJump (d : Dev) (by_ : Int) : Dev :=
  (d.modTime (fun t => { t with
    fab := (((t.fab : Int) + by_ * 65536) % ((2 ^ 96 : Nat) : Int)).toNat
    jumped := true, offset := 0, remain := 0, slew := 0 })).raiseTime 0x8007 0

/-- A measured offset, own time minus source's, in 2⁻¹⁶ ns (R292, R295). In ACQUIRING the first one is a time jump, and so
is an edge that a write of the next second marks (R294); a later one replaces the correction that remains, and the tracked
frequency is adjusted by a law the manual leaves open: a free value within ±200 ppm, or, under ROOT-ATTIC, what the Attic
wrote. -/
def Dev.measure (d : Dev) (o : Int) (marked : Bool := false) : Dev :=
  let d := d.sourceAppears
  if d.time.clock = 1 ∧ (d.time.jumped = false ∨ marked = true) then d.timeJump (-o)
  else
    let good := decide (o.natAbs ≤ d.lockThreshold)
    let (v, d) := if d.timeRole = 3 then (0, d) else d.draw
    let d := d.modTime (fun t => { t with
      offset := o, remain := -o
      stepGood := some (t.stepGood.getD true && good)
      track := if d.timeRole = 3 ∨ t.clock = 3 then t.track else (v % 400001 : Nat) - 200000
      badRun := if t.clock = 2 ∧ good = false then t.badRun + 1 else 0 })
    if d.time.badRun ≥ 16 then
      (d.modTime (fun t => { t with badRun := 0 })).raiseTime 0x8004 (if d.timeRole = 1 then d.time.parent.getD 0 else 0)
    else d

/-- The servo at a step boundary: the ended step is judged for the lock, its rate is recorded, and the slew of the new step
is set (R295, Table 13-4). -/
def Dev.servoStep (d : Dev) : Dev :=
  let t := d.time
  let rate := d.rateAdjust
  let good := t.stepGood.getD (decide (d.timeRole ≠ 1 ∧ t.source = true ∧ t.remain.natAbs ≤ d.lockThreshold))
  let counts := decide ((t.clock = 1 ∧ t.jumped = true) ∨ t.clock = 3)
  let p : Int := d.cfg 0x8000 4 * 65536
  let l : Int := d.cfg 0x8000 0x0A
  let base := if t.clock = 3 then t.held else t.track
  let want := if (t.remain * 1000000).natAbs > (l * p).natAbs then (if t.remain < 0 then -l else l)
    else t.remain * 1000000 / p
  let slew := if d.timeRole = 0 ∨ t.clock = 0 then 0 else clampInt (-200000 - base) (200000 - base) want
  let d := d.modTime (fun t => { t with
    recent := (rate :: t.recent).take 16
    goodSteps := if counts && good then t.goodSteps + 1 else 0
    stepGood := none
    slew := slew
    remain := if (t.remain * 1000000).natAbs ≤ (l * p).natAbs ∧ slew = want then 0 else t.remain - slew * p / 1000000 })
  if d.time.goodSteps ≥ 8 ∧ d.timeRole ≠ 0 then d.enterTracking else d

/-! ## Parents (R293) -/

/-- A lane is a candidate at the current step. -/
def Dev.candidate (d : Dev) (l : Nat) : Bool :=
  let x := (d.lane l).time
  d.confirmed l && decide (d.laneCfg 0x8180 l = 1) &&
    (match x.step with | some s => decide (d.step ≤ s + d.cfg 0x8000 0x0C) | none => false) &&
    decide ((x.clock = 2 ∨ x.clock = 3) ∧ x.hops < d.cfg 0x8000 0x0B)

/-- A lane's STEP names a better root than another's: a lower root identity, or the same with a lower hop count. -/
def Dev.betterRoot (d : Dev) (a b : Nat) : Bool :=
  let x := (d.lane a).time
  let y := (d.lane b).time
  decide (x.root < y.root ∨ (x.root = y.root ∧ x.hops < y.hops))

/-- The best candidate: the lowest root identity, then the lowest hop count, then the lowest lane number. -/
def Dev.bestCandidate (d : Dev) (l : List Nat) : Option Nat :=
  l.foldl (fun a k => match a with | none => some k | some b => if d.betterRoot k b then some k else some b) none

/-- The review of the parent at a step boundary (R293, R294): a follower keeps its parent while it is a candidate and none is
better; a change of root or parent raises 0x8006; a root that finds another root among its candidates raises 0x8008, with
the identity found. -/
def Dev.reviewParent (d : Dev) : Dev :=
  let bound := d.errorBound
  let cands := d.lanes.cells.filterMap (fun p => if d.candidate p.1 then some p.1 else none)
  if d.timeRole ≠ 1 then
    (cands.filter (fun l => decide ((d.lane l).time.root ≠ d.attic.nodeId))).foldl
      (fun (d : Dev) l => d.raise 0x8008 l 0 (d.lane l).time.root) d
  else
    let best := d.bestCandidate cands
    let new := match d.time.parent, best with
      | some p, some b => if p ∈ cands ∧ d.betterRoot b p = false then some p else some b
      | _, b => b
    let root := match new with | some l => (d.lane l).time.root | none => 0
    let hops := match new with | some l => (d.lane l).time.hops + 1 | none => 255
    let changed := decide (new ≠ d.time.parent ∨ root ≠ d.time.root)
    let at_ := (new.orElse (fun _ => d.time.parent)).getD 0
    let d := d.modTime (fun t => { t with parent := new, root := root, hops := hops })
    let d := if changed then d.raiseTime 0x8006 at_ else d
    match new with
    | some _ => d.sourceAppears
    | none => d.loseSource bound

/-- What a change of the time role at its commit step brings (R293, R294): the root and the parent are those of the new role,
which is an event where they change; the time error bound of HOLDOVER is the one published before the change (R297). -/
def Dev.roleChanged (d : Dev) (bound : Nat) : Dev :=
  let isRoot := d.timeRole ≠ 1
  let root := if isRoot then d.attic.nodeId else 0
  let changed := decide (d.time.parent ≠ none ∨ d.time.root ≠ root)
  let at_ := d.time.parent.getD 0
  let d := d.modTime (fun t => { t with
    parent := none, root := root, hops := if isRoot then 0 else 255
    ppsSet := false, ppsNext := none, source := false })
  let d := if changed then d.raiseTime 0x8006 at_ else d
  if d.timeRole = 0 then if d.time.clock = 2 then d else d.enterTracking
  else if d.time.clock = 2 then d.holdover bound
  else d

/-! ## STEP frames (R290 to R292) -/

/-- The STEP payload without its check (Table 13-3). -/
def Dev.stepPayload (d : Dev) (l : Nat) (t : FabricTime) : List Byte :=
  let x := (d.lane l).time
  let echo := x.echoed && x.sentFirst
  toBytes 62 (packBits [(80, t), (80, if echo then x.peerTx else 0), (80, if echo then x.peerRx else 0), (64, d.time.root),
    (8, d.time.hops), (2, d.time.clock), (1, b2n echo), (5, 0), (32, d.errorBound), (144, 0)])

/-- STEP_SEND: a lane with PCS lock sends the step's STEP frame, one in each step, at a frame boundary after that step's
HELLO (R131, R290). -/
def Dev.stepSend (d : Dev) (l : Nat) (t : FabricTime) : Dev :=
  if d.stepDue l && d.mayStart l t .step then
    (d.sendControl l 0x23 (controlPayload (d.stepPayload l t)) t).modLaneTime l
      (fun x => { x with sentFirst := true, sentStep := some d.step })
  else d

/-- The measurement that a valid STEP gives: delay and offset in 2⁻¹⁶ ns (R292). -/
def stepMeasure (t1 t2 t3 t4 : FabricTime) : Int × Int :=
  ((((t4 : Int) - t1) - ((t3 : Int) - t2)) / 2, (((t1 : Int) - t2) + ((t4 : Int) - t3)) / 2)

/-- STEP: a received STEP frame enters the lane's time record, gives a measurement on a confirmed lane, and on the parent
lane moves the servo (R291 to R294). -/
def Dev.stepArrives (d : Dev) (l : Nat) (f : Frame) (fcs : Fcs) (t : FabricTime) : Dev :=
  let r := d.controlFrameArrives 0x23 l f fcs t
  let b := fun off n => bytesFrom f.payload off n
  let hops := b 38 1
  let ok := r.2 && controlOk f.payload && !(decide (hops = 255 ∧ b 30 8 ≠ 0))
  if ok then
    let d := r.1.modLaneTime l (fun x => { x with
      peerTx := b 0 10, peerRx := t, echoed := true, root := b 30 8, hops := hops, clock := b 39 1 / 64, bound := b 40 4
      step := some r.1.step, valid := wrapAdd 64 x.valid 1 })
    if bit (b 39 1) 5 && d.confirmed l then
      let m := stepMeasure (b 10 10) (b 20 10) (b 0 10) t
      if m.1 < 0 ∨ m.1 > 100000 * 65536 then d.modLaneTime l (fun x => { x with discarded := wrapAdd 64 x.discarded 1 })
      else
        let d := d.modLaneTime l (fun x => { x with delay := m.1.toNat })
        if d.timeRole = 1 ∧ d.time.parent = some l then d.measure m.2 else d
    else d
  else if (d.lane l).rx.lock && decide (f.hdr.opcode = 0x23) && (!(d.headerOk l f) || r.2) then
    r.1.modLaneTime l (fun x => { x with discarded := wrapAdd 64 x.discarded 1 })
  else r.1

/-! ## 1PPS and the Attic's adjustments (R294, R399) -/

/-- PPS_IN_EDGE: an edge at an instant of own time marks the second that was written or counted; the first after a write is
the one that the write marks (R294). -/
def Dev.ppsEdge (d : Dev) (t : FabricTime) : Dev :=
  match d.time.ppsNext with
  | some s =>
    if d.timeRole ≠ 2 then d
    else
      let marked := d.time.ppsSet
      (d.modTime (fun x => { x with ppsNext := some (s + 1), ppsSet := false })).measure ((t : Int) - s * 1000000000 * 65536) marked
  | none => d

/-- A write of 0x8000:10 is refused (R294). -/
def Dev.ppsRefused (d : Dev) (s : Nat) : Bool :=
  decide (d.timeRole ≠ 2) ||
    (decide (d.time.clock = 2 ∨ d.time.clock = 3) && (match d.time.ppsNext with | some n => decide (s ≠ n) | none => false))

/-- NEXT_PPS_SECOND: the write marks the next edge (R294). -/
def Dev.nextPps (d : Dev) (s : Nat) : Dev :=
  if d.ppsRefused s || !d.atticRuns then d else d.modTime (fun t => { t with ppsNext := some s, ppsSet := true })

/-- ATTIC_FREQUENCY_ADJUSTMENT: a write of 0x8000:11 (R294). -/
def Dev.atticFrequency (d : Dev) (v : Int) : Dev :=
  if d.timeRole ≠ 3 ∨ d.atticRuns = false ∨ v < -200000 ∨ 200000 < v then d
  else d.sourceAppears.modTime (fun t => { t with track := v })

/-- ATTIC_PHASE_ADJUSTMENT: a write of 0x8000:12: an amount that fabric time is to rise by (R294). -/
def Dev.atticPhase (d : Dev) (v : Int) : Dev := if d.timeRole ≠ 3 ∨ d.atticRuns = false then d else d.measure (-v)

/-- TIME_SOURCE_LOST (R294). A follower's source is lost only when it has no candidate. -/
def Dev.timeSourceLost (d : Dev) : Dev :=
  if d.timeRole = 1 ∧ d.lanes.cells.any (fun p => d.candidate p.1) then d else d.sourceLost

/-- PPS_OUT_PULSE: fabric time reaches a whole second (R399, Table 13-7). -/
def Dev.ppsOutPulse (d : Dev) : Dev :=
  if d.cfg 0x8000 0x0F = 1 then d.modTime (fun t => { t with ppsOut := t.ppsOut + 1 }) else d

/-- A timestamp queue entry as the Attic reads it (Table 13-2). -/
def Stamp.entry (s : Stamp) : Nat := packBits [(16, s.tag), (6, 0), (10, s.lane), (16, 0), (80, s.time)]

/-- TIMESTAMP_QUEUE_READ: the Attic reads and removes the oldest entry of a Crate's timestamp queue (R289). -/
def Dev.stampRead (d : Dev) (n : Nat) : Dev :=
  match d.atticRuns, (d.crate n).stamps with
  | true, s :: rest => (d.modCrate n (fun c => { c with stamps := rest })).emit (.stamp n s.entry)
  | _, _ => d

end Sys2Proof.Machine
end

