-- ==== Sys2Proof/Machine/Images.lean ====
section
/-! DEFINITION. The checks of an Attic image, and the identity key pair (R336, R341, Tables 15-3, 15-4, 15-6). -/

namespace Sys2Proof.Machine

/-- The SM3 digest of a 64-byte public key. -/
def keyDigest (k : Nat) : Nat := sm3 (toBytes 64 k)

/-- The Ferestum key slot, fused and not revoked, whose digest is a value (Table 15-4, check 3). -/
def Fuses.keySlot (f : Fuses) (digest : Nat) : Option Nat :=
  (List.range 4).find? (fun k => bit f.slots k && !(bit f.revoked k) && decide (f.keys.getD k 0 = digest))

/-- The private identity key, derived from the fused seed (R341). -/
def Fuses.secret (f : Fuses) : Nat := sm2Secret (Config.identitySecret f.seed)

/-- The signer identity of an image's signatures: the ASCII string FERESTUM-IMAGE, 112 bits (R336). -/
def imageSigner : List Byte := toBytes 14 0x464552455354554D2D494D414745

end Sys2Proof.Machine

namespace Sys2Proof

open Machine

/-- Bytes a to b of an image header. -/
def ImageSlot.at_ (s : ImageSlot) (a b : Nat) : Nat := bytesAt 512 s.header a b

/-- A signature over bytes 0 to 63 of an image header verifies under a public key (R336). -/
def ImageSlot.signed (s : ImageSlot) (key sig : Nat) : Bool := sm2Verify imageSigner key sig (toBytes 64 (s.at_ 0 63))

/-- Check 5: the owner signature, as the life-cycle state requires it. -/
def ImageSlot.ownerOk (s : ImageSlot) (f : Fuses) : Bool :=
  let present := decide (s.at_ 192 255 ≠ 0 ∨ s.at_ 256 319 ≠ 0)
  let good := decide (keyDigest (s.at_ 192 255) = f.ownerKey) && s.signed (s.at_ 192 255) (s.at_ 256 319)
  if f.life = 1 then !present || good else if f.life = 2 then present && good else true

/-- Checks 1 to 6 of Table 15-4: the code of the first failure, 0 for none. -/
def ImageSlot.headerCode (s : ImageSlot) (f : Fuses) : Nat :=
  let kind := s.at_ 6 6
  if s.at_ 0 3 ≠ 0x41545443 then 1
  else if s.at_ 4 5 ≠ 1 then 2
  else if ¬ ((kind = 1 ∧ f.life ≠ 3) ∨ (kind = 2 ∧ (f.life = 0 ∨ f.life = 3))) ∨ bit (s.at_ 7 7) (f.stepping - 1) = false then 3
  else if (f.keySlot (keyDigest (s.at_ 64 127))).isNone then 4
  else if s.signed (s.at_ 64 127) (s.at_ 128 191) = false then 5
  else if s.ownerOk f = false then 6
  else if s.at_ 8 11 < f.security then 7
  else 0

/-- Check 7 of Table 15-4. -/
def ImageSlot.bodyCode (s : ImageSlot) : Nat :=
  let n := s.at_ 12 15
  if n < 4096 ∨ n > 50327552 ∨ n % 4096 ≠ 0 then 8 else if s.bodySm3 ≠ s.at_ 24 55 then 9 else 0

end Sys2Proof
end

