-- ==== Sys2Proof/Machine/Attic.lean ====
section
/-! DEFINITION. The Attic and the Strongbox: resets, boot, image slots, watchdog and restart, fuses, life cycle, sessions,
attestation (R330 to R350, R366, R396 to R400). -/

namespace Sys2Proof.Machine

/-- Changes the Inventory's state. -/
def Dev.modInv (d : Dev) (f : Inv → Inv) : Dev := { d with inv := f d.inv }
/-- Changes the telemetry state. -/
def Dev.modTele (d : Dev) (f : Telemetry → Telemetry) : Dev := { d with tele := f d.tele }
/-- Changes the Attic's state. -/
def Dev.modAttic (d : Dev) (f : Attic → Attic) : Dev := { d with attic := f d.attic }
/-- An event queued at boot, to be raised when the Attic starts (R349). -/
def Dev.queueEvent (d : Dev) (code src a b : Nat) : Dev :=
  { d with log := { d.log with queued := d.log.queued ++ [(code, src, a, b, 0)] } }
/-- Bits [31:0] of the node identity, the confirmation of a request (R350). -/
def Dev.confirmation (d : Dev) : Nat := d.attic.nodeId % 2 ^ 32

/-! ## Cold reset (R314, R339, R366, R397) -/

/-- The Chute maps, whose committed values survive a cold reset (R278, R314): as they stand, but as the cells give them for a
Chute whose programme was cut short. -/
def keptMaps (v : Nv) (d : Dev) : Tab Nat :=
  (List.range 8).foldl (fun (b : Tab Nat) h =>
    let m := if (d.chute h).programming then mapOfCells (v.chute h).cells.cells else d.baseOf (0x3400 + h) 1
    b.put 0 (ad (0x3400 + h) 1) m) {}

/-- A cold reset: the Chute drivers stop, every volatile block returns to its state after reset, and the device is held until
it boots (Table 16-5). The pins stay as the board drives them. -/
def coldReset (v : Nv) (d : Dev) : Nv × Dev :=
  let (v, d) := stopChutes v d
  (v, { chutes := chutesAfresh v
        modules := (List.range 16).foldl (fun (t : Tab Module) m =>
          t.put {} m { present := (d.module m).present, status := b2n (d.module m).present }) {}
        inv := { base := keptMaps v d }
        board := d.board
        attic := { failSeen := d.attic.failSeen }
        out := d.out, draws := d.draws, mac := v.fuses.mac
        time := { ppsOut := d.time.ppsOut } })

/-- COLD_RESET: RESET_N held low for a number of ns; a pulse shorter than 1 µs is ignored (R397). -/
def coldResetPin (v : Nv) (d : Dev) (lowNs : Nat) : Nv × Dev :=
  if lowNs < 1000 ∨ d.board.powered = false then (v, d)
  else
    let (v, d) := coldReset v d
    (v, { d with board := { d.board with resetN := false } })

/-- POWER_LOSS: every block stops; only non-volatile state survives (R17). -/
def powerLoss (v : Nv) (d : Dev) : Nv × Dev :=
  let (v, d) := coldReset v d
  (v, { d with inv := {}, attic := {}, board := { powered := false } })

/-- POWER_UP: the rails rise in order while RESET_N is low (R396). -/
def powerUp (d : Dev) : Dev :=
  if d.board.powered then d else { d with board := { powered := true } }

/-- RAIL_OUT_OF_RANGE: a rail leaves its range for more than 2 µs: the device holds itself in cold reset (R398). -/
def railOut (v : Nv) (d : Dev) (r : Nat) : Nv × Dev :=
  if d.board.powered then
    let (v, d) := coldReset v d
    (v, { d with board := { d.board with railsOut := if r ∈ d.board.railsOut then d.board.railsOut else d.board.railsOut ++ [r] } })
  else (v, d)

/-- THERMTRIP: a sensor reaches 115 °C: THERMTRIP_N stays low until power is removed, and the device holds itself in cold
reset (R407). -/
def thermtrip (v : Nv) (d : Dev) : Nv × Dev :=
  if d.board.powered then
    let (v, d) := coldReset v d
    (v, { d with board := { d.board with thermtrip := true } })
  else (v, d)

/-! ## Image slots (R334, R336, R337) -/

/-- An image slot of the boot flash: 0 A, 1 B. -/
def Flash.slot (f : Flash) (k : Nat) : ImageSlot := if k = 0 then f.slotA else f.slotB

/-- Records the failure of a slot, with event 0xB001 due when the Attic starts (R336). -/
def Dev.imageFailed (d : Dev) (k code : Nat) : Dev :=
  (d.modAttic (fun a => if k = 0 then { a with codeA := code } else { a with codeB := code })).queueEvent 0xB001 0 k code

/-- BOOT-FAILED: neither slot passes: the Attic is held in reset and no laser module is enabled (R337). -/
def Dev.bootFails (d : Dev) : Dev :=
  (d.modAttic (fun a => { a with bootFailed := true, failSeen := true, state := .off })).modulesOff

/-- The Attic is released with the image of a slot: its measurements are fixed (R339 step 7, R348). -/
def Dev.takeImage (d : Dev) (v : Nv) (k : Nat) : Dev :=
  let s := v.flash.slot k
  d.modAttic (fun a => { a with
    state := .starting, slot := k, imageVersion := s.at_ 8 11, build := s.at_ 16 23
    imageKeySlot := (v.fuses.keySlot (keyDigest (s.at_ 64 127))).getD 0
    headerMeas := sm3 (toBytes 512 s.header), bodyMeas := s.bodySm3
    headerA := v.flash.slotA.header, headerB := v.flash.slotB.header, dogBarked := false })

/-- The events queued at boot are raised; 0x1001 with the new life-cycle state (R349; assumption 74). -/
def Dev.raiseQueued (d : Dev) (v : Nv) : Dev :=
  let q := d.log.queued
  let d := { d with log := { d.log with queued := [] } }
  let d := q.foldl (fun (d : Dev) e => d.raise e.1 e.2.1 e.2.2.1 e.2.2.2.1 e.2.2.2.2) d
  if v.fuses.changed then d.raise 0x1001 0 v.fuses.life else d

/-! ## Boot (R339 to R341) -/

/-- The node identity of a public key (R341). -/
def nodeIdOf (pub : Nat) : Nat :=
  let h := keyDigest pub
  let a := bytesAt 32 h 0 7
  if a = 0 ∨ a = 0xFFFFFFFFFFFFFFFF then bytesAt 32 h 8 15 else a

/-- The seed of a Crate's tag generator (R383). -/
def tagSeed (nodeId n : Nat) : Nat :=
  let x := (nodeId % 2 ^ 32) ^^^ (n * 0x9E3779B9 % 2 ^ 32)
  if x = 0 then 1 else x

/-- Writes of a life-cycle transition's fuses (R343), each final; a write named in `bad` (0 the pending fuse, 1 the state
fuses and digests, 2 the done fuse) fails twice and leaves its value (R340). Answers the fuses and the writes that failed: 2 the state fuses, 3 the done fuse. -/
def Fuses.finish (f : Fuses) (bad : Nat) : Fuses × List Nat :=
  match f.pending with
  | none => (f, [])
  | some t =>
    let f := if bit bad 1 then f
      else if t = 1 then { f with life := t, ownerKey := f.pendOwner, recoveryKey := f.pendRecovery } else { f with life := t }
    let f := if bit bad 2 then f else { f with pending := none, pendOwner := 0, pendRecovery := 0 }
    (f, (if bit bad 1 then [2] else []) ++ (if bit bad 2 then [3] else []))

/-- Failed fuse writes: counted, and event 0x1002 with its cause, the fuse: 1 the pending fuse, 2 the state fuses, 3 the done fuse,
4 the security version, 5 a revocation (R340, R349; assumption 74). -/
def Dev.fuseFailed (d : Dev) (causes : List Nat) : Dev :=
  causes.foldl (fun (d : Dev) c => (d.modAttic (fun a => { a with fuseFailures := a.fuseFailures + 1 })).raise 0x1002 0 c) d

/-- Nothing holds the device in reset but RESET_N. -/
def Board.runnable (b : Board) : Bool := b.powered && b.railsOut.isEmpty && !b.thermtrip && !b.clocksOut

/-- Steps 1 to 3 of Table 15-5, and the wipe begins: fuses read and a pending transition completed, the identity derived,
stacks trained; a clock missing at the release is lost (R339, R341, R343, R400). -/
def bootFrom (v : Nv) (d : Dev) (missing : Option Nat) (failed bad : Nat) : Nv × Dev :=
  if d.attic.holding = false ∨ d.board.runnable = false then (v, d)
  else
    let resumed := v.fuses.pending.isSome
    let (f, n) := v.fuses.finish bad
    let v := { v with fuses := { f with changed := f.changed || resumed }
                      flash := if resumed then { v.flash with confA := none, confB := none } else v.flash }
    let pub := sm2Public f.secret
    let id := nodeIdOf pub
    let d := d.modAttic (fun a => { a with
      holding := false, bootStep := 3, pubKey := pub, nodeId := id, state := .off })
    let d := { d with board := { d.board with resetN := true }
                      crates := allCrates.foldl (fun (t : Tab Crate) c =>
                        t.upd {} c (fun x => { x with path := { x.path with tagGen := tagSeed id c } })) d.crates }
    let d := n.foldl (fun (d : Dev) c =>
      (d.modAttic (fun a => { a with fuseFailures := a.fuseFailures + 1 })).queueEvent 0x1002 0 c 0) d
    let d := (setBits 12 failed).foldl (fun (d : Dev) k =>
      ({ d with stackTab := d.stackTab.upd {} k (fun (s : Stack) => { s with status := .failed }) }).queueEvent 0x9003 k 0 0) d
    match missing with
    | some c =>
      (v, (d.modTime (fun t => { t with lost0 := decide (c = 0), lost1 := decide (c ≠ 0), driver := if c = 0 then 1 else 0 })).queueEvent
        0x8009 0 c 0)
    | none => (v, d)

/-- BOOT: RESET_N is released and the boot sequence starts (R339); the flash may have been written from outside while it was low
(R334). -/
def bootCmd (v : Nv) (d : Dev) (missing : Option Nat) (failed bad : Nat) (wrote : FlashWrite) : Nv × Dev :=
  bootFrom (if d.board.resetN then v else { v with flash := v.flash.written wrote }) d missing failed bad

/-- RAIL_RECOVERY: every rail has been within tolerance for 10 ms; the device boots when RESET_N is high (R398). -/
def railRecovery (v : Nv) (d : Dev) (missing : Option Nat) (failed bad : Nat) : Nv × Dev :=
  if d.board.railsOut.isEmpty then (v, d)
  else
    let d := { d with board := { d.board with railsOut := [] } }
    if d.board.resetN then bootFrom v d missing failed bad else (v, d)

/-- REFCLK_LOST: the loads of a lost clock move to the other; both lost: as RESET_N asserted (R400). The time unit steps by
less than 1 ns, by a free value. -/
def refclkLost (v : Nv) (d : Dev) (c : Nat) : Nv × Dev :=
  let gone := if c = 0 then d.time.lost0 else d.time.lost1
  let other := if c = 0 then d.time.lost1 else d.time.lost0
  if gone ∨ d.board.clocksOut ∨ d.board.powered = false then (v, d)
  else if other then
    let (v, d) := coldReset v d
    (v, { d with board := { d.board with clocksOut := true }
                 time := { d.time with lost0 := true, lost1 := true } })
  else if d.attic.holding then (v, d)
  else
    let d := d.modTime (fun t => if c = 0 then { t with lost0 := true } else { t with lost1 := true })
    let d := if d.time.driver = c then
        let (r, d) := d.draw
        d.modTime (fun t => { t with
          driver := 1 - c
          fab := (((t.fab : Int) + ((r % (2 ^ 33 - 1) : Nat) - (2 ^ 32 - 1 : Nat))) % ((2 ^ 96 : Nat) : Int)).toNat })
      else d
    (v, d.raise 0x8009 0 c)

/-- REFCLK_RESTORED: after both clocks were lost, both have met their requirements for 1 ms and the device leaves reset
(R400). -/
def refclkRestored (v : Nv) (d : Dev) (failed bad : Nat) : Nv × Dev :=
  if d.board.clocksOut = false then (v, d)
  else
    let d := { d with board := { d.board with clocksOut := false }
                      time := { d.time with lost0 := false, lost1 := false } }
    if d.board.resetN then bootFrom v d none failed bad else (v, d)

/-- The configuration area copy that boot takes: the valid one with the newer sequence number (R335). -/
def Flash.config (f : Flash) : Option ConfigCopy :=
  let ok := fun (c : Option ConfigCopy) =>
    match c with | some x => if x.tag = Config.configTag x.seq x.values then some x else none | none => none
  match ok f.confA, ok f.confB with
  | some a, some b => some (if a.seq ≥ b.seq then a else b)
  | some a, none => some a
  | none, b => b

/-- Puts the COLD values of the configuration area in force; event 0xB005 carries as its cause which copies were present with a tag
that failed (R314, R335, R349, boot step 5; assumption 74). -/
def Dev.takeConfig (d : Dev) (v : Nv) : Dev :=
  match v.flash.config with
  | some c =>
    (c.values.foldl (fun (d : Dev) p => d.setBase p.1 p.2) d).modAttic (fun a => { a with
      configMeas := Config.configMeasurement c.seq c.values })
  | none => (d.modAttic (fun a => { a with configMeas := sm3 [] })).queueEvent 0xB005 0 (b2n v.flash.confA.isSome + 2 * b2n v.flash.confB.isSome) 0

/-- Boot step 6 from a slot onwards: the first slot whose header passes is loaded; none: BOOT-FAILED (R337). -/
def Dev.tryHeaders (d : Dev) (v : Nv) : List Nat → Dev
  | [] => d.bootFails
  | k :: rest =>
    let code := (v.flash.slot k).headerCode v.fuses
    if code = 0 then d.modAttic (fun a => { a with slot := k, bootStep := 6 })
    else (d.imageFailed k code).tryHeaders v rest

/-- WIPE_COMPLETE: the wipe ends and every stack that is not FAILED is READY; the configuration area is read and the image
headers are checked, with failover (R243, R335 to R339). -/
def wipeComplete (v : Nv) (d : Dev) : Dev :=
  if d.attic.bootStep ≠ 3 then d
  else
    let ready := fun (s : Stack) => if s.status = StackState.wiping then { s with status := StackState.ready } else s
    let d := { d with stackTab := (List.range 12).foldl (fun (t : Tab Stack) k => t.upd {} k ready) d.stackTab }
    let d := (d.modAttic (fun a => { a with bootStep := 5 })).takeConfig v
    let p := d.cfg 0xC000 6
    d.tryHeaders v [p, 1 - p]

/-- IMAGE_LOADED: the body has been streamed after a number of µs from the reset; its digest checks and the Attic is released,
starts the laser modules and the Hatches, and the queued events are raised; or the other slot is tried (R337 to R339). -/
def imageLoaded (v : Nv) (d : Dev) (us : Nat) : Nv × Dev :=
  if d.attic.bootStep ≠ 6 ∨ d.attic.bootFailed then (v, d)
  else
    let k := d.attic.slot
    let p := d.cfg 0xC000 6
    let code := (v.flash.slot k).bodyCode
    if code ≠ 0 then (v, (d.imageFailed k code).tryHeaders v (if k = p ∧ d.attic.codeA = 0 ∧ d.attic.codeB = 0 then [1 - k] else []))
    else
      let other := decide (k ≠ p)
      let d := (d.takeImage v k).modAttic (fun a => { a with
        bootStep := 8, failover := other, trial := !other && decide (d.cfg 0xC000 7 = 1), bootUs := us % 2 ^ 32 })
      let d := if other then d.queueEvent 0xB002 0 k 0 else d
      (v.announced, d.startHatches.raiseQueued v)

/-- INVENTORY_SERVICE_READY: the firmware serves requests, and looks after the laser modules again (R246, R257, R339 step 9). -/
def Dev.serviceReady (d : Dev) : Dev :=
  if d.attic.state = .starting then
    (d.modAttic (fun a => { a with state := .running, bootStep := max a.bootStep 9 })).modulesReviewed
  else d

/-! ## Watchdog and Attic restart (R331, R332, R337, R338) -/

/-- An Attic restart begins: the cores are held, sessions close, open transactions and stored responses go (R332 steps 1, 2);
one that is due during another is absorbed by it. -/
def Dev.atticRestart (d : Dev) (cause : Nat) : Dev :=
  if d.attic.state = .restarting ∨ d.attic.state = .off then d
  else
    let d := d.modAttic (fun a => { a with
      state := .restarting, causeNow := if a.trial then 5 else cause, sessions := [], dogBarked := false, restartDue := false })
    let d := { d with atticWaits := [] }
    let d := d.modTele (fun t => { t with toSend := [] })
    let d := d.modInv (fun i => { i with trans := [], closed := [], stored := [] })
    let d := d.interruptSparing
    if d.timeRole = 3 then d.sourceLost else d

/-- A COLD entry that the Strongbox sets in force and stores (R338). -/
def Dev.setCold (d : Dev) (a x : Nat) : Dev :=
  let d := d.setBase a x
  { d with inv := { d.inv with held := d.inv.held.put none a none, coldDue := d.inv.coldDue.filter (fun p => decide (p.1 ≠ a)) ++ [(a, x)] } }

/-- The Attic's image is verified and loaded again, from the slot booted last or, after an unconfirmed trial, the other; the cores
are released, with events 0xC004 and 0xC001. A slot rejected on the way is a failover (R332 steps 3 to 5, R337, R338). -/
def Dev.reload (d : Dev) (v : Nv) : Nv × Dev :=
  let k := d.attic.slot
  let back := decide (d.attic.causeNow = 5)
  let order := if back then [1 - k, k] else [k, 1 - k]
  let code := fun s => let h := (v.flash.slot s).headerCode v.fuses; if h ≠ 0 then h else (v.flash.slot s).bodyCode
  let d := d.modAttic (fun a => { a with trial := false, codeA := 0, codeB := 0 })
  let d := if back then (d.setCold (ad 0xC000 6) (1 - k)).setCold (ad 0xC000 7) 0 else d
  let bad := (order.takeWhile (fun s => decide (code s ≠ 0)))
  let d := bad.foldl (fun (d : Dev) s => d.imageFailed s (code s)) d
  match order.find? (fun s => decide (code s = 0)) with
  | none => (v, d.bootFails)
  | some s =>
    let cause := d.attic.causeNow
    let other := decide (s ≠ order.headD 0)
    let d := (d.takeImage v s).modAttic (fun a => { a with
      restarts := min 0xFFFFFFFF (a.restarts + 1), cause := cause, causeNow := 0, failover := a.failover || other })
    let d := if other then d.queueEvent 0xB002 0 s 0 else d
    let d := if back then d.raise 0xC004 0 k else d
    (v.announced, (d.raise 0xC001 0 cause).raiseQueued v)

/-- ATTIC_MEMORY_WIPED: the wipe ends and the image is loaded again (R332). -/
def atticWiped (v : Nv) (d : Dev) : Nv × Dev := if d.attic.state ≠ .restarting then (v, d) else d.reload v

/-- The Attic's cores are released. -/
def Dev.atticAwake (d : Dev) : Bool := decide (d.attic.state = .running ∨ d.attic.state = .starting)

/-- WATCHDOG_SERVICE (R331). -/
def Dev.dogService (d : Dev) : Dev := if d.atticAwake then d.modAttic (fun a => { a with dogBarked := false }) else d

/-- WATCHDOG_FIRST_EXPIRY: the cores are interrupted, event 0xC002 with the cause WATCHDOG (R331, R349; assumption 74). -/
def Dev.dogFirst (d : Dev) : Dev :=
  if d.atticAwake && !d.attic.dogBarked then (d.modAttic (fun a => { a with dogBarked := true })).raise 0xC002 0 1 else d

/-- WATCHDOG_SECOND_EXPIRY: no service between the two: the Attic restarts, cause WATCHDOG (R331). -/
def Dev.dogSecond (d : Dev) : Dev := if d.attic.dogBarked then d.atticRestart 1 else d

/-- ATTIC_RESTART_REQUEST: a write of the confirmation to 0xC000:03, carried out after the response leaves (R332, R350). -/
def Dev.restartRequest (d : Dev) (x : Nat) : Dev :=
  if d.atticRuns ∧ x = d.confirmation then d.atticRestart 3 else d

/-- FIRMWARE_HALT (R332). -/
def Dev.firmwareHalt (d : Dev) : Dev := if d.atticAwake then d.atticRestart 4 else d

/-- An uncorrectable error of the Attic memory: event 0xC003, then a restart (R330, Table 15-11). -/
def Dev.machineCheck (d : Dev) : Dev :=
  let d := (d.modAttic (fun a => { a with memFatal := wrapAdd 64 a.memFatal 1 })).raise 0xC003 0 2
  d.atticRestart 2

/-- TRIAL_CONFIRM: a write of 1 to 0xC000:09: the trial slot stays preferred and the flag is 0, both stored (R338). -/
def Dev.trialConfirm (d : Dev) : Dev :=
  if d.atticRuns && d.attic.trial then
    ((d.modAttic (fun a => { a with trial := false })).setCold (ad 0xC000 6) d.attic.slot).setCold (ad 0xC000 7) 0
  else d

/-- TRIAL_WINDOW_EXPIRY: the window passes unconfirmed: the Attic restarts from the other slot (R338). -/
def Dev.trialExpired (d : Dev) : Dev := if d.attic.trial then d.atticRestart 5 else d

/-- COLD_RESET_REQUEST: a write of the confirmation to 0xC000:0C; the cold reset begins after the response leaves (R366). -/
def coldResetRequest (v : Nv) (d : Dev) (x : Nat) : Nv × Dev :=
  if d.atticRuns ∧ x = d.confirmation then coldReset v d else (v, d)

/-- COLD_VALUE_STORE: the Attic writes the COLD values due into the copy with the older sequence number (R314, R335). -/
def coldStore (v : Nv) (d : Dev) : Nv × Dev :=
  if d.atticRuns = false ∨ d.inv.coldDue = [] then (v, d)
  else
    let old := match v.flash.config with | some c => c.values | none => []
    let due := d.inv.coldDue
    let values := old.filter (fun p => decide (p.1 ∉ due.map (·.1))) ++ due
    let seqOf := fun (c : Option ConfigCopy) => match c with | some x => x.seq + 1 | none => 0
    let seq := max (seqOf v.flash.confA) (seqOf v.flash.confB)
    let copy : ConfigCopy := ⟨seq, values, Config.configTag seq values⟩
    let flash := if seqOf v.flash.confA ≤ seqOf v.flash.confB then { v.flash with confA := some copy }
      else { v.flash with confB := some copy }
    ({ v with flash := flash }, { d with inv := { d.inv with coldDue := [] } })

/-! ## Fuse actions (R340, R342, R343) -/

/-- A life-cycle transition is allowed (R342). -/
def lifeAllowed (a b : Nat) : Bool := decide ((a = 0 ∧ b = 1) ∨ (a = 1 ∧ b = 2) ∨ ((a = 1 ∨ a = 2) ∧ b = 3))

/-- The check of a life-cycle request against its range (R343): its target, its confirmation, its digests. -/
def lifeOk (f : Fuses) (confirmation x : Nat) : Bool :=
  let t := bytesAt 72 x 0 0
  lifeAllowed f.life t && decide (bytesAt 72 x 4 7 = confirmation) &&
    (if t = 1 then decide (bytesAt 72 x 8 71 ≠ 0) else decide (bytesAt 72 x 8 71 = 0))

/-- LIFE_CYCLE_TRANSITION: at the boundary of X the Strongbox writes the pending fuse, the state fuses and the done fuse,
erases the configuration area and begins a cold reset (R343). -/
def lifeTransition (v : Nv) (d : Dev) (bad : Nat) : Nv × Dev :=
  match d.attic.lifeDue with
  | none => (v, d)
  | some x =>
    let f := v.fuses
    let f := if bit bad 0 then f
      else { f with pending := some (bytesAt 72 x 0 0), pendOwner := bytesAt 72 x 8 39, pendRecovery := bytesAt 72 x 40 71 }
    let (f', n) := f.finish bad
    let d := d.fuseFailed ((if bit bad 0 then [1] else []) ++ n)
    coldReset { v with fuses := { f' with changed := f'.changed || decide (f'.life ≠ v.fuses.life) }
                       flash := { v.flash with confA := none, confB := none } } d

/-- An advance of the security version is refused (Table 15-12). -/
def advanceRefused (f : Fuses) (d : Dev) (x : Nat) : Bool := decide (x ≤ f.security ∨ x > d.attic.imageVersion ∨ x > 64)

/-- ADVANCE_SECURITY_VERSION at its commit step (R340). -/
def advanceSecurity (v : Nv) (d : Dev) (x : Nat) (fails : Bool) : Nv × Dev :=
  if advanceRefused v.fuses d x then (v, d)
  else if fails then (v, d.fuseFailed [4])
  else ({ v with fuses := { v.fuses with security := x } }, d)

/-- A revocation is refused: the slot signed the running image, or no other fused slot would remain (Table 15-12). -/
def revokeRefused (f : Fuses) (d : Dev) (k : Nat) : Bool :=
  decide (k > 3 ∨ (d.attic.imageKeySlot = k ∧ d.attic.bootStep ≥ 8)) ||
    !((List.range 4).any (fun j => decide (j ≠ k) && bit f.slots j && !(bit f.revoked j)))

/-- REVOKE_FERESTUM_KEY_SLOT at its commit step (R340). -/
def revokeSlot (v : Nv) (d : Dev) (k : Nat) (fails : Bool) : Nv × Dev :=
  if revokeRefused v.fuses d k then (v, d)
  else if fails then (v, d.fuseFailed [5])
  else ({ v with fuses := { v.fuses with revoked := setBit v.fuses.revoked k } }, d)

/-! ## Sessions (R344 to R347) -/

/-- The port of arrival as a rate-limit key: a fabric port by its first lane, the management port after them. -/
def Dev.arrivalKey (d : Dev) (lane : Option Nat) : Nat := match lane with | some l => (d.portOf l).1 | none => 1024

/-- Event 0xB003 or 0xB004 with a session in its record, limited by port of arrival (R349). -/
def Dev.sessionEvent (d : Dev) (code session : Nat) (lane : Option Nat) : Dev :=
  d.raiseBy code 9 0 (d.arrivalKey lane) session 0 0 0

/-- The session of an ID. -/
def Dev.session (d : Dev) (id : Nat) : Option Session := d.attic.sessions.find? (fun s => decide (s.id = id))
/-- Changes a session. -/
def Dev.modSession (d : Dev) (id : Nat) (f : Session → Session) : Dev :=
  d.modAttic (fun a => { a with sessions := a.sessions.map (fun s => if s.id = id then f s else s) })
/-- Closes a session; its transactions stay open until they are closed, committed or expire. -/
def Dev.dropSession (d : Dev) (id : Nat) : Dev :=
  d.modAttic (fun a => { a with sessions := a.sessions.filter (fun s => decide (s.id ≠ id)) })

/-- A record is discarded: counted, event 0xB004, never answered (R347). -/
def Dev.recordLost (d : Dev) (id : Nat) (lane : Option Nat) : Dev :=
  (d.modSession id (fun s => { s with dropped := wrapAdd 32 s.dropped 1 })).sessionEvent 0xB004 id lane

/-- CONFIRM: the session opens when SA verifies; a failure discards it (R345). -/
def Dev.sessionConfirm (d : Dev) (id sa : Nat) : Dev :=
  match d.session id with
  | some s =>
    if d.atticRuns = false ∨ s.isOpen = true then d
    else if sa = s.sa then d.modSession id (fun s => { s with isOpen := true })
    else (d.dropSession id).sessionEvent 0xB003 id s.lane
  | none => d

/-- A sequence is acceptable: higher than any accepted, or one of the 64 below that and not yet accepted (R347). -/
def Session.fresh (s : Session) (q : Nat) : Bool :=
  decide (1 ≤ q ∧ q ≤ 2 ^ 32 ∧ (q > s.rxHigh ∨ (q + 64 ≥ s.rxHigh ∧ q ≠ s.rxHigh ∧ q ∉ s.rxSeen)))

/-- The session after a record of a sequence is accepted. -/
def Session.accept (s : Session) (q : Nat) : Session :=
  let high := max s.rxHigh q
  { s with
    rxHigh := high, received := wrapAdd 64 s.received 1
    rxSeen := (((if q > s.rxHigh then s.rxHigh else q) :: s.rxSeen).filter (fun x => decide (x + 64 ≥ high ∧ x ≠ 0))) }

/-- A session's last sequence has been used in either direction: it closes (R346). -/
def Dev.spentSession (d : Dev) (id : Nat) : Dev :=
  match d.session id with
  | some s => if s.rxHigh ≥ 2 ^ 32 ∨ s.txNext > 2 ^ 32 then d.dropSession id else d
  | none => d

/-- A DATA or CLOSE record reaches its session: it is opened with the session's key, and its sequence tested; answers its plaintext.
One that names no open session, whose tag fails or whose sequence is no longer acceptable is discarded (R347). -/
def Dev.takeRecord (d : Dev) (lane : Option Nat) (p : List Byte) : Option (List Byte) × Dev :=
  let id := recordSession p
  match d.session id with
  | none => (none, d.recordLost id lane)
  | some s =>
    match openRecord s.shared p with
    | none => (none, d.recordLost id lane)
    | some b =>
      if s.isOpen && s.fresh (recordSeq p) then (some b, d.modSession id (fun s => s.accept (recordSeq p)))
      else (none, d.recordLost id lane)

/-- CLOSE: a CLOSE record closes the session; a malformed record is discarded and counted (R344, R346, R347). -/
def Dev.sessionClose (d : Dev) (lane : Option Nat) (p : List Byte) : Dev :=
  if d.atticRuns = false then d
  else if recordOk p = false then d.count 0xBE01 0
  else if recordType p ≠ 5 then d
  else match d.takeRecord lane p with
    | (none, e) => e
    | (some _, e) => e.dropSession (recordSession p)

/-- SESSION_IDLE_TIMEOUT (R346). -/
def Dev.sessionIdle (d : Dev) (id : Nat) : Dev := if d.atticRuns then d.dropSession id else d

/-! ## Attestation (R348) -/

/-- ATTESTATION_REQUEST: a nonce is written to 0xB100:01. -/
def Dev.attest (d : Dev) (nonce : Nat) : Dev :=
  if d.atticRuns then d.modAttic (fun a => { a with nonce := nonce % 2 ^ 256, reportStatus := 1 }) else d

/-- The report that the Strongbox signs now (Table 15-10). -/
def reportOf (v : Nv) (d : Dev) : Report :=
  let a := d.attic
  { head := packBits [(16, 1), (16, 352), (64, a.nodeId), (8, v.fuses.stepping), (8, v.fuses.life), (4, a.slot),
      (1, b2n a.trial), (1, b2n a.failover), (2, 0), (8, 0), (32, v.fuses.security), (32, a.imageVersion), (64, a.build),
      (256, a.nonce), (256, Config.romMeasurement v.fuses.stepping), (256, a.headerMeas), (256, a.bodyMeas), (256, a.configMeas)]
    base := d.inv.base, mac := d.mac, record := d.inv.fabricRec
    tail := packBits [(64, d.step), (80, d.now), (8, d.time.clock), (8, 0), (32, a.restarts), (32, a.reports + 1), (32, 0)] }

/-- ATTESTATION_REPORT_READY: the signed report is readable and the status reads READY. -/
def attestReady (v : Nv) (d : Dev) : Dev :=
  if d.attic.reportStatus = 1 ∧ d.atticRuns = true then
    let r := reportOf v d
    d.modAttic (fun a => { a with report := some r, reportStatus := 2, reports := a.reports + 1 })
  else d

end Sys2Proof.Machine
end

