-- ==== Sys2Proof/Machine/Record.lean ====
section
/-! DEFINITION. Install records, context commands and their checks (Tables 08-1, 08-2, 08-5, 09-1, 09-3 to 09-6; R164,
R165, R170, R171, R195, R209 to R217). -/

namespace Sys2Proof.Machine

/-! ## Fields (Tables 08-1, 08-2, 09-4 to 09-6) -/

/-- Bytes a to b of an install record. -/
def rb (r a b : Nat) : Nat := bytesAt 512 r a b

/-- Context ID. -/
def rCtx (r : Nat) : Nat := rb r 0 2
/-- Operator code (Table 09-1). -/
def rOp (r : Nat) : Nat := rb r 3 3
/-- Input format code. -/
def rFmt (r : Nat) : Nat := rb r 4 4 / 16
/-- Input MX. -/
def rMx (r : Nat) : Bool := bit (rb r 4 4) 3
/-- Check select. -/
def rCheck (r : Nat) : Nat := bits (rb r 4 4) 2 1
/-- Traffic class. -/
def rTc (r : Nat) : Nat := bits (rb r 5 5) 7 5
/-- Partial allowed. -/
def rPartial (r : Nat) : Bool := bit (rb r 5 5) 4
/-- Count exchange. -/
def rCountX (r : Nat) : Bool := bit (rb r 5 5) 3
/-- Spill. -/
def rSpill (r : Nat) : Bool := bit (rb r 5 5) 2
/-- Two plans. -/
def rTwo (r : Nat) : Bool := bit (rb r 5 5) 1
/-- Chunk size E. -/
def rE (r : Nat) : Nat := rb r 6 7 % 2 ^ 14
/-- Member count N. -/
def rN (r : Nat) : Nat := rb r 8 11
/-- Chunk count C. -/
def rC (r : Nat) : Nat := rb r 12 15 + 1
/-- Stripe width S. -/
def rS (r : Nat) : Nat := rb r 16 17 % 1024 + 1
/-- Stripe base b. -/
def rBase (r : Nat) : Nat := rb r 18 19 % 1024
/-- Open-chunk window G. -/
def rG (r : Nat) : Nat := rb r 22 22
/-- Home Crate. -/
def rHome (r : Nat) : Nat := rb r 23 23 % 128
/-- Crate set size K. -/
def rK (r : Nat) : Nat := rb r 24 24 % 128 + 1
/-- Spill window Gs. -/
def rGs (r : Nat) : Nat := rb r 26 27
/-- Straggler timeout, µs. -/
def rTimeout (r : Nat) : Nat := rb r 28 31
/-- Quorum. -/
def rQuorum (r : Nat) : Nat := rb r 32 35
/-- Ring role: 0 NONE, 1 BRANCH, 2 ROOT, 3 reserved (Table 09-5). -/
def rRole (r : Nat) : Nat := bits (rb r 36 36) 7 6
/-- Up direction of a BRANCH: 0 east, 1 west. -/
def rUp (r : Nat) : Nat := bits (rb r 36 36) 5 5
/-- Plan policy. -/
def rPolicy (r : Nat) : Nat := bits (rb r 36 36) 4 3
/-- Up member index. -/
def rUpMember (r : Nat) : Nat := rb r 40 42 % 2 ^ 20
/-- Row group, where it is valid. -/
def rRow (r : Nat) : Option Nat := if bit (rb r 39 39) 7 then some (rb r 50 51) else none
/-- The member index of the ring input of a direction, where it is valid: 0 east, 1 west. -/
def rInput (r dir : Nat) : Option Nat :=
  let v := if dir = 1 then rb r 43 45 else rb r 46 48
  if bit v 23 then some (v % 2 ^ 20) else none
/-- Ring input form A or B: format code and MX. -/
def rRingForm (r k : Nat) : Nat × Bool := (rb r (37 + k) (37 + k) / 16, bit (rb r (37 + k) (37 + k)) 3)
/-- High and Low threshold and Hold. -/
def rHigh (r : Nat) : Nat := rb r 52 52
def rLow (r : Nat) : Nat := rb r 53 53
def rHold (r : Nat) : Nat := rb r 54 55
/-- The Crate at a position of the crate set. -/
def rCrate (r j : Nat) : Nat := rb r (128 + j) (128 + j) % 128
/-- The crate set. -/
def rCrates (r : Nat) : List Nat := (List.range (rK r)).map (rCrate r)
/-- Root member (BROADCAST, SCATTER). -/
def rRoot (r : Nat) : Nat := rb r 384 387 % 2 ^ 20
/-- Row length d (LSE-MERGE). -/
def rD (r : Nat) : Nat := rb r 388 389
/-- k and direction (TOPK-MERGE). -/
def rTopK (r : Nat) : Nat := rb r 390 390
def rTopDir (r : Nat) : Nat := rb r 391 391 % 2

/-- A plan block (Tables 08-2, 09-4). -/
structure Plan where
  fmt : Nat
  mx : Bool
  stochastic : Bool
  link : Nat
  group : Nat
  scaleOn : Bool
  addOn : Bool
  clampOn : Bool
  normalise : Bool
  scale : Nat
  offset : Nat
  low : Nat
  high : Nat
  deriving DecidableEq, Repr

/-- Plan A or plan B of a record. -/
def rPlan (r : Nat) (b : Bool) : Plan :=
  let o := if b then 320 else 256
  let y := rb r (o + 4) (o + 4)
  { fmt := rb r o o / 16, mx := bit (rb r o o) 3, stochastic := bit (rb r o o) 2, link := rb r (o + 1) (o + 1) % 4
    group := rb r (o + 2) (o + 3), scaleOn := bit y 7, addOn := bit y 6, clampOn := bit y 5, normalise := bit y 4
    scale := rb r (o + 8) (o + 11), offset := rb r (o + 12) (o + 15), low := rb r (o + 16) (o + 19)
    high := rb r (o + 20) (o + 23) }

/-- The plans a record uses. -/
def rPlans (r : Nat) : List Plan := if rTwo r then [rPlan r false, rPlan r true] else [rPlan r false]

/-- The window base in force (R154, R155). -/
def rWindow (r : Nat) : Int :=
  if rb r 20 21 = 0x8000 ∨ isInt (rFmt r) = true then defaultWindow (rFmt r) (rMx r) else toSigned 16 (rb r 20 21)

/-! ## Reserved bits (R5, R170) -/

/-- The bits of byte j of a record that are not reserved, for a crate set of k Crates. -/
def keptBits (k j : Nat) : Nat :=
  if j = 4 ∨ j = 5 then 0xFE
  else if j = 6 then 0x3F
  else if j = 16 ∨ j = 18 then 0x03
  else if j = 23 ∨ j = 24 then 0x7F
  else if j = 25 ∨ j = 49 ∨ j = 384 then 0
  else if 36 ≤ j ∧ j ≤ 38 then 0xF8
  else if j = 39 then 0x80
  else if j = 40 ∨ j = 385 then 0x0F
  else if j = 43 ∨ j = 46 then 0x8F
  else if 56 ≤ j ∧ j ≤ 127 then 0
  else if 128 ≤ j ∧ j < 128 + k then 0x7F
  else if j = 256 ∨ j = 320 then 0xFC
  else if j = 257 ∨ j = 321 then 0x03
  else if j = 260 ∨ j = 324 then 0xF0
  else if (261 ≤ j ∧ j ≤ 263) ∨ (325 ≤ j ∧ j ≤ 327) ∨ (280 ≤ j ∧ j ≤ 319) ∨ (344 ≤ j ∧ j ≤ 383) then 0
  else if j = 391 then 1
  else if 392 ≤ j then 0
  else 0xFF

/-- The record with every reserved bit 0 (R170). -/
def cleanRecord (r : Nat) : Nat :=
  packBits ((List.range 512).map (fun j => (8, rb r j j &&& keptBits (rK r) j)))

/-! ## Operators (Table 09-1) -/

/-- SUM, MAX or MIN. -/
def opArith (o : Nat) : Bool := decide (o ∈ [1, 2, 3])
/-- ARGMAX, ARGMIN or TOPK-MERGE. -/
def opPairs (o : Nat) : Bool := decide (o ∈ [4, 5, 0x11])
/-- AND, OR or XOR. -/
def opBits (o : Nat) : Bool := decide (o ∈ [6, 7, 8])
/-- A movement operator. -/
def opMove (o : Nat) : Bool := decide (o ∈ [0x20, 0x21, 0x22, 0x23])
/-- BROADCAST or SCATTER, to which only the root member contributes (R208). -/
def opRoot (o : Nat) : Bool := decide (o = 0x21 ∨ o = 0x22)

/-- A code of Table 09-1 (R194). -/
def opOk (o : Nat) : Bool := opArith o || opPairs o || opBits o || opMove o || decide (o = 0x10)

/-- The input form is one of the operator's row (Table 09-1). -/
def opInput (o code : Nat) (mx : Bool) : Bool :=
  if opPairs o then !mx && decide (code ∈ [0, 1, 2, 3, 4, 8, 9, 10, 11])
  else if opBits o then !mx && isInt code
  else if o = 0x10 then !mx && decide (code ≤ 4)
  else true

/-- A pair of input and output forms of Table 07-6 (R164). -/
def pairOk (ic : Nat) (imx : Bool) (oc : Nat) (omx : Bool) : Bool :=
  if isInt ic then isInt oc && !omx && decide (oc ≥ ic)
  else
    (!omx && decide (oc ≤ 2)) || (omx && decide (3 ≤ oc ∧ oc ≤ 7)) || (!imx && !omx && decide (3 ≤ ic ∧ oc = ic))

/-- Shelf bytes per element: the class's value, 12, or 1 (R165, Table 09-1). -/
def shelfBytes (r : Nat) : Nat :=
  if opMove (rOp r) then 1 else if opPairs (rOp r) then 12 else accWidth (rFmt r) (rMx r) / 8

/-- Shelf slots of a chunk (R165). -/
def chunkSlots (r : Nat) : Nat := ceilDiv (rE r * shelfBytes r) 24576

/-- The slot quota on a Crate (R175). -/
def slotQuota (r : Nat) : Nat := rG r * chunkSlots r

/-- KiB of a spill group and its flag block (R189, R238). -/
def spillKiB (r : Nat) : Nat :=
  ceilDiv (rE r * (if accWidth (rFmt r) (rMx r) = 192 then 24 else 12)) 24576 * 24 + 6

/-- Value bytes of a pair. -/
def valueBytes (r : Nat) : Nat := fmtWidth (rFmt r) / 8

/-- Payload bytes of a RESULT or upward contribution of n elements under a plan (Table 09-3); none where no size is
valid. -/
def resultBytes (r : Nat) (p : Plan) (n : Nat) : Option Nat :=
  if opPairs (rOp r) then some (n * (valueBytes r + 4))
  else if rOp r = 0x10 then (encSize p.fmt p.mx n).map (fun s => s + 8 * (rE r / rD r))
  else encSize p.fmt p.mx n

/-- Payload bytes of a data contribution of n elements (Table 09-3). -/
def contribBytes (r n : Nat) : Option Nat :=
  if opPairs (rOp r) then some (n * (valueBytes r + 4)) else encSize (rFmt r) (rMx r) n

/-- Cells of the upward share of a BRANCH on each Crate of its set, 0 for another role (R217). -/
def upwardShare (r : Nat) : Nat :=
  if rRole r = 1 then
    let f := (rPlans r).foldl (fun a p => max a (ceilDiv (48 + ((resultBytes r p (rE r)).getD 4096)) 64)) 1
    (rG r + rGs r) * ceilDiv f 4
  else 0

/-! ## Checks of a record (R171, R195) -/

/-- The value of an FP32 field. -/
def f32 (v : Nat) : Val := decodeElem 0 v
/-- An FP32 field is finite. -/
def f32Finite (v : Nat) : Bool := match f32 v with | .fin _ => true | _ => false
/-- An FP32 field is a NaN. -/
def f32Nan (v : Nat) : Bool := decide (f32 v = .nan)

/-- The fields of a plan block keep Tables 08-2 and 09-4. -/
def planFields (p : Plan) : Bool :=
  formOk p.fmt p.mx && f32Finite p.scale && f32Finite p.offset && !(f32Nan p.low) && !(f32Nan p.high) &&
    !((f32 p.high).lt (f32 p.low) && !(match f32 p.high, f32 p.low with
        | .fin a, .fin b => decide (a.n = 0 ∧ b.n = 0)
        | _, _ => false))

/-- Bytes a to b of a record are all 0. -/
def zeroBytes (r a b : Nat) : Bool := decide (rb r a b = 0)

/-- Every field keeps the values of Tables 08-1, 08-2 and 09-4 to 09-6 (code 0x0004). -/
def fieldsOk (r : Nat) : Bool :=
  let n := rN r
  decide (rCtx r ≠ 0) && opOk (rOp r) && formOk (rFmt r) (rMx r) && decide (rCheck r ≤ 2) &&
  decide (3 ≤ rTc r ∧ rTc r ≤ 5) && decide (rE r ≠ 0) && decide (1 ≤ n ∧ n ≤ 1048576) &&
  (!(rCountX r) || decide (n ≤ 1024)) && decide (rBase r < rS r) &&
  (decide (rb r 20 21 = 0x8000) ||
    (if isInt (rFmt r) then zeroBytes r 20 21 else decide (-320 ≤ toSigned 16 (rb r 20 21) ∧ toSigned 16 (rb r 20 21) ≤ 320))) &&
  decide (1 ≤ rG r ∧ rG r ≤ 240) && (rSpill r || decide (rGs r = 0)) && decide (rTimeout r ≠ 0) &&
  (!(rPartial r) || decide (1 ≤ rQuorum r ∧ rQuorum r ≤ n)) &&
  (decide (rK r = 128) || zeroBytes r (128 + rK r) 255) &&
  (rPlans r).all planFields && (rTwo r || zeroBytes r 320 383) &&
  decide (rRole r ≠ 3 ∧ rPolicy r ≠ 3) &&
  (decide (rRole r = 0) || (formOk (rRingForm r 0).1 (rRingForm r 0).2 && formOk (rRingForm r 1).1 (rRingForm r 1).2 &&
    [0, 1].all (fun k => match rInput r k with | some m => decide (m < n) | none => true))) &&
  (if rPolicy r = 0 then zeroBytes r 52 55 else rTwo r && decide (1 ≤ rHigh r ∧ rLow r < rHigh r ∧ rHold r ≠ 0)) &&
  (!(opRoot (rOp r)) || decide (rRoot r < n)) &&
  (decide (rOp r ≠ 0x10) || decide (1 ≤ rD r ∧ rD r ≤ 16383 ∧
    ((rPlans r).all (fun p => !p.mx) = true ∨ rD r % 32 = 0))) &&
  (decide (rOp r ≠ 0x11) || decide (1 ≤ rTopK r ∧ rTopK r ≤ 64))

/-- A Crate is named once only (code 0x0007). -/
def cratesOnce (r : Nat) : Bool := (rCrates r).Nodup

/-- The refusal of a plan's output form and post-op (R164, R195, R210, R211); 0 for none. -/
def planCode (r : Nat) (p : Plan) : Nat :=
  let o := rOp r
  let forms :=
    if opArith o || decide (o = 0x10) then (if pairOk (rFmt r) (rMx r) p.fmt p.mx then 0 else 5)
    else if p.fmt = rFmt r ∧ p.mx = rMx r then 0 else 0xD
  if forms ≠ 0 then forms
  else if (p.scaleOn || p.addOn || p.clampOn) && !((opArith o || decide (o = 0x10)) && isFloat p.fmt) then 0xD
  else if p.normalise && decide (o ≠ 0x10) then 0xD
  else if (!p.scaleOn && decide (p.scale ≠ 0)) || (!p.addOn && decide (p.offset ≠ 0)) ||
      (!p.clampOn && decide (p.low ≠ 0 ∨ p.high ≠ 0)) then 0xD
  else 0

/-- The refusal of a ring input form (R214); 0 for none. -/
def ringFormCode (r k : Nat) : Nat :=
  let f := rRingForm r k
  if opArith (rOp r) then
    if accWidth f.1 f.2 ≠ accWidth (rFmt r) (rMx r) ∨ isInt f.1 ≠ isInt (rFmt r) then 0xD
    else if (rPlans r).all (fun p => pairOk f.1 f.2 p.fmt p.mx) then 0 else 5
  else if f = (rFmt r, rMx r) then 0 else 0xD

/-- Count exchange, ring role, combiner and operator parameters and divisibility keep Table 09-1, Table 09-5, Table 09-6
and the operators' rules (code 0x000D). -/
def optionsOk (r : Nat) : Bool :=
  let o := rOp r
  let n := rN r
  let e := rE r
  (!(decide (o ∈ [0x10, 0x11, 0x21, 0x22])) || !(rCountX r)) && (decide (o ≠ 0x23) || rCountX r) &&
  (decide (rRole r = 0) || (!(rCountX r) && !(opMove o) && decide (o ≠ 0x10))) &&
  (decide (rRole r ≠ 0) || zeroBytes r 37 51) &&
  (decide (rRole r = 1) || (decide (rUp r = 0) && decide (rUpMember r = 0))) &&
  (decide (rRole r = 0) ||
    (decide (rInput r 0 = none ∨ rInput r 0 ≠ rInput r 1) &&
      (decide (rRole r ≠ 1) || (rInput r (rUp r)).isNone) &&
      (decide (rRole r ≠ 2) || (rInput r 0).isSome || (rInput r 1).isSome))) &&
  (opRoot o || decide (rRoot r = 0)) && (decide (o = 0x10) || decide (rD r = 0)) &&
  (decide (o = 0x11) || decide (rTopK r = 0 ∧ rTopDir r = 0)) &&
  (decide (o ≠ 0x10) || decide (e % rD r = 0)) && (decide (o ≠ 0x11) || decide (e % rTopK r = 0)) &&
  (!(decide (o = 0x20) && !(rCountX r) || decide (o = 0x21)) || decide (e % n = 0)) &&
  (!(decide (o = 0x21 ∨ o = 0x23)) || (rPlans r).all (fun p => decide (p.group + n - 1 ≤ 65535))) &&
  (!(rMx r && (decide (o = 0x21) || (decide (o = 0x20) && !(rCountX r)))) || decide (e / n % 32 = 0))

/-- The chunk size meets R164 and every frame of Table 09-3 fits 4,096 bytes (code 0x0006). -/
def sizeOk (r : Nat) : Bool :=
  let e := rE r
  let fits := fun (s : Option Nat) => match s with | some v => decide (v ≤ 4096) | none => false
  let block := (rMx r || (rPlans r).any (·.mx))
  (!block || decide (e % 32 = 0)) &&
  (if rOp r = 0x10 then
      decide (4 * (e / rD r) ≤ 4096) && fits ((encSize (rFmt r) (rMx r) e).map (fun s => s + 8 * (e / rD r)))
    else fits (contribBytes r e)) &&
  (if opMove (rOp r) then true else (rPlans r).all (fun p => fits (resultBytes r p e))) &&
  (decide (rRole r = 0) || [0, 1].all (fun k => opPairs (rOp r) || fits (encSize (rRingForm r k).1 (rRingForm r k).2 e)))

/-- The first refusal code that a record earns by itself, in the order of R171; 0 for none. -/
def recordCode (r : Nat) : Nat :=
  if !(fieldsOk r) then 4
  else if !(cratesOnce r) then 7
  else if !(opInput (rOp r) (rFmt r) (rMx r)) then 0xD
  else
    let pc := (rPlans r).foldl (fun a p => if a ≠ 0 then a else planCode r p) 0
    if pc ≠ 0 then pc
    else
      let rc := if rRole r = 0 then 0 else (if ringFormCode r 0 ≠ 0 then ringFormCode r 0 else ringFormCode r 1)
      if rc ≠ 0 then rc
      else if !(optionsOk r) then 0xD
      else if !(sizeOk r) then 6
      else 0

/-! ## Commands (Table 08-5) -/

/-- A command slot: valid, command code, context and generation. -/
structure CtxCmd where
  valid : Bool
  cmd : Nat
  ctx : Nat
  gen : Nat
  deriving DecidableEq, Repr

/-- Reads a command slot. -/
def readCmd (v : Nat) : CtxCmd :=
  ⟨bit (bytesAt 16 v 0 0) 7, bytesAt 16 v 0 0 % 8, bytesAt 16 v 1 3, bytesAt 16 v 4 4⟩

/-- The valid bit and the record, reserved bits 0, of an install slot. -/
def readInstall (v : Nat) : Bool × Nat := (bit v (8 * 516 - 1), cleanRecord (v % 2 ^ (8 * 512)))

end Sys2Proof.Machine
end

