-- ==== Sys2Proof/Machine/Combiner.lean ====
section
/-! DEFINITION. The Combiner's arithmetic: what a contribution adds to a round, and what a completed round writes
(R156 to R163, R184, R197 to R212). Pure functions of the install record and the round. -/

namespace Sys2Proof.Machine

/-- What adding a contribution counts (Table 07-8), and the rows whose maximum it exceeded (event 0x6014). -/
structure AddCounts where
  inexact : Nat := 0
  under : Nat := 0
  window : Nat := 0
  nans : Nat := 0
  infs : Nat := 0
  rowOver : Nat := 0
  deriving DecidableEq, Repr

/-- Joins two counts. -/
def AddCounts.plus (a b : AddCounts) : AddCounts :=
  ⟨a.inexact + b.inexact, a.under + b.under, a.window + b.window, a.nans + b.nans, a.infs + b.infs, a.rowOver + b.rowOver⟩

/-- A contribution's counts in the order of Table 07-8. -/
def AddCounts.list (a : AddCounts) : List Nat := [a.inexact, a.under, a.window, a.nans, a.infs, 0, 0, 0]

/-- An emission's counts in the order of Table 07-8. -/
def OutCounts.list (a : OutCounts) : List Nat := [0, 0, 0, 0, 0, a.overflow, a.clip, a.special]

/-- Numeric counts advanced by others; they wrap at 2⁶⁴ (R167). -/
def plusCounts (a b : List Nat) : List Nat := (List.range 8).map (fun i => wrapAdd 64 (a.getD i 0) (b.getD i 0))

/-- Applies a step to the positions that have an element, in order, and joins what each counts. -/
def addAt {α : Type} (f : Pos → α → Pos × AddCounts) : List Pos → List α → List Pos × AddCounts
  | [], _ => ([], {})
  | p, [] => (p, {})
  | p :: ps, v :: vs =>
    let a := f p v
    let r := addAt f ps vs
    (a.1 :: r.1, a.2.plus r.2)

/-! ## Adding one element -/

/-- The flags and counts of a special element (R157). -/
def Pos.special (p : Pos) : Val → Pos × AddCounts
  | .nan => ({ p with got := true, nan := true }, { nans := 1 })
  | .inf neg => (if neg then { p with got := true, ninf := true } else { p with got := true, pinf := true }, { infs := 1 })
  | .fin _ => (p, {})

/-- Adds a finite addend to an accumulator, quantised on the grid (R156). -/
def Pos.quantised (p : Pos) (x : Mag) (b : Int) (lim : Nat) : Pos × AddCounts :=
  let r := quantise x b lim
  ({ p with got := true, sum := p.sum + r.1 },
    match r.2 with
    | .exact => {}
    | .inexact => { inexact := 1 }
    | .underflow => { under := 1 }
    | .overflow => { window := 1 })

/-- SUM: an integer as it is, a finite element quantised, a special element's flag (R156, R157). -/
def Pos.addSum (int : Bool) (b : Int) (lim : Nat) (p : Pos) (v : Val) : Pos × AddCounts :=
  match v with
  | .fin x =>
    if int then ({ p with got := true, sum := p.sum + signedOf x.neg (x.n * 2 ^ x.e.toNat) }, {}) else p.quantised x b lim
  | v => p.special v

/-- MAX and MIN: the better value and the flags (R198). -/
def Pos.addBest (max_ : Bool) (p : Pos) (v : Val) : Pos × AddCounts :=
  let better := match p.best with
    | none => true
    | some w => if max_ then w.lt v else v.lt w
  match v with
  | .nan => p.special v
  | .inf _ => let r := p.special v; (if better then { r.1 with best := some v } else r.1, r.2)
  | .fin _ => (if better then { p with got := true, best := some v } else { p with got := true }, {})

/-- AND, OR and XOR of bit patterns (R200). -/
def Pos.addWord (op : Nat) (p : Pos) (w : Nat) : Pos × AddCounts :=
  ({ p with got := true, word := some (match p.word with
      | none => w
      | some x => if op = 6 then x &&& w else if op = 7 then x ||| w else x ^^^ w) }, {})

/-- Pair a ranks above pair b: values by direction (−0 below +0), NaN below every value, the lower index on equal values
(R199, R206). -/
def pairAbove (code : Nat) (greater : Bool) (a b : Nat × Nat) : Bool :=
  let x := decodeElem code a.1
  let y := decodeElem code b.1
  if x = .nan ∨ y = .nan then
    (if x = .nan ∧ y = .nan then decide (a.2 < b.2) else decide (y = .nan))
  else if (if greater then y.lt x else x.lt y) then true
  else if (if greater then x.lt y else y.lt x) then false
  else decide (a.2 < b.2)

/-- Puts a pair into a list kept best first. -/
def insertPair (code : Nat) (greater : Bool) (a : Nat × Nat) : List (Nat × Nat) → List (Nat × Nat)
  | [] => [a]
  | b :: t => if pairAbove code greater a b then a :: b :: t else b :: insertPair code greater a t

/-- What the special value of a pair counts. -/
def pairCounts (code v : Nat) : AddCounts :=
  match decodeElem code v with | .nan => { nans := 1 } | .inf _ => { infs := 1 } | .fin _ => {}

/-- ARGMAX and ARGMIN: the winning pair (R199). -/
def Pos.addPair (code : Nat) (greater : Bool) (p : Pos) (a : Nat × Nat) : Pos × AddCounts :=
  ({ p with got := true, pairs := (insertPair code greater a p.pairs).take 1 }, pairCounts code a.1)

/-- TOPK-MERGE: the pairs of one contributor's list that are not empty enter the k best (R206). -/
def Pos.addList (code k : Nat) (greater : Bool) (p : Pos) (l : List (Nat × Nat)) : Pos × AddCounts :=
  let real := l.filter (fun a => decide (a.2 ≠ 0xFFFFFFFF))
  ({ p with got := true, pairs := (real.foldl (fun q a => insertPair code greater a q) p.pairs).take k },
    real.foldl (fun c a => c.plus (pairCounts code a.1)) {})

/-! ## Adding a contribution -/

/-- The pairs of a payload: n values of v bytes, each followed by its index (R199). -/
def readPairs (v n : Nat) (p : List Byte) : List (Nat × Nat) :=
  (List.range n).map (fun i => (bytesFrom p (i * (v + 4)) v, bytesFrom p (i * (v + 4) + v) 4))

/-- A member's normaliser sets the NaN flag of the row's: it is negative, infinite or NaN (R204). -/
def badSum : Val → Bool
  | .fin z => z.neg && decide (z.n ≠ 0)
  | _ => true

/-- The row of a scaled round after a member's header, and the weight for its elements: none when it adds nothing; the
flag says that the member's maximum is NaN or exceeds M, so that its elements' NaN flags are set, with event 0x6014 (R203,
R204). -/
def Row.addHeader (w : Row) (m l : Val) : Row × Option (Nat × Int) × Bool :=
  let top := w.top.getD (.inf true)
  let w := if badSum l then { w with nan := true } else w
  if top ≠ .nan ∧ (m = .nan ∨ top.lt m = true) then ({ w with nan := true }, none, true)
  else
    match top, m with
    | .inf false, _ => ({ w with nan := true }, none, false)
    | .fin y, .fin x =>
      match lseWeight x y, l with
      | some (s, e), .fin z =>
        if badSum l then (w, some (s, e), false)
        else ({ w with sum := w.sum + (quantise (z.mul ⟨false, s, 1, e⟩) (-43) (addendLimit 192)).1 }, some (s, e), false)
      | q, _ => (w, q, false)
    | _, _ => (w, none, false)

/-- Adds the elements of one row of a scaled round (R204). -/
def addRow (b : Int) (lim : Nat) (wt : Option (Nat × Int)) (flag : Bool) (ps : List Pos) (vs : List Val) :
    List Pos × AddCounts :=
  if flag then (ps.map (fun p => { p with got := true, nan := true }), {})
  else
    match wt with
    | none => (ps.map (fun p => { p with got := true }), {})
    | some (s, e) =>
      addAt (fun p v => match v with
        | .fin x => p.quantised (x.mul ⟨false, s, 1, e⟩) b lim
        | v => p.special v) ps vs

/-- Adds a scaled-round contribution: R row headers, then the elements (R201, R203, R204). -/
def addScaled (r : Nat) (rd : Round) (p : List Byte) : Round × AddCounts :=
  let d := rD r
  let nr := rd.rows.length
  let vs := decodeElems (rFmt r) (rMx r) (rE r) (p.drop (8 * nr))
  let lim := addendLimit (accWidth (rFmt r) (rMx r))
  let out := (List.range nr).foldl (fun (a : List Row × List Pos × AddCounts) i =>
    let h := (rd.rows.getD i {}).addHeader (f32 (bytesFrom p (8 * i) 4)) (f32 (bytesFrom p (8 * i + 4) 4))
    let q := addRow (rWindow r) lim h.2.1 h.2.2 ((rd.pos.drop (i * d)).take d) ((vs.drop (i * d)).take d)
    (a.1 ++ [h.1], a.2.1 ++ q.1, (a.2.2.plus q.2).plus { rowOver := b2n h.2.2 })) ([], [], {})
  ({ rd with rows := out.1, pos := out.2.1 }, out.2.2)

/-- Adds a contribution's values to a round (R156 to R158, R181, R197 to R208). -/
def addValues (r : Nat) (rd : Round) (c : Contrib) : Round × AddCounts :=
  let op := rOp r
  let put := fun (q : List Pos × AddCounts) => ({ rd with pos := q.1 }, q.2)
  if c.phase = 1 then ({ rd with declared := rd.declared ++ [(c.member, ofBytes (c.payload.take 4))] }, {})
  else if c.count = 0 then (rd, {})
  else
    let rd' := fun (q : Round × AddCounts) => ({ q.1 with data := true }, q.2)
    if opMove op then rd' ({ rd with pieces := rd.pieces ++ [(c.member, c.count, c.payload)] }, {})
    else if c.phase = 2 then
      rd' (put (addAt (Pos.addBest true) rd.pos (decodeElems 0 false c.count c.payload)))
    else if c.phase = 3 then rd' (addScaled r rd c.payload)
    else if op = 0x11 then
      rd' (put (addAt (Pos.addList (rFmt r) (rTopK r) (decide (rTopDir r = 0))) rd.pos
        (runsOf (rTopK r) (readPairs (valueBytes r) c.count c.payload))))
    else if opPairs op then
      rd' (put (addAt (Pos.addPair (rFmt r) (decide (op = 4))) rd.pos (readPairs (valueBytes r) c.count c.payload)))
    else if opBits op then
      rd' (put (addAt (Pos.addWord op) rd.pos (unpackElems c.payload (fmtWidth (rFmt r)) c.count)))
    else
      let vs := decodeElems c.fmt c.mx c.count c.payload
      if op = 1 then
        rd' (put (addAt (Pos.addSum (isInt (rFmt r)) (rWindow r) (addendLimit (accWidth (rFmt r) (rMx r)))) rd.pos vs))
      else rd' (put (addAt (Pos.addBest (decide (op = 2))) rd.pos vs))

/-- Adds a contribution to a round: its values, its member's bit and its fingerprint (R158, R179, R362). -/
def Round.add (rd : Round) (r : Nat) (c : Contrib) : Round × AddCounts :=
  let q := addValues r rd c
  ({ q.1 with members := setBit q.1.members c.member, added := q.1.added + 1
              finger := q.1.finger ^^^ crc64we c.payload, counts := plusCounts q.1.counts q.2.list }, q.2)

/-- The empty round of a phase (R177, R184, R201): a data round keeps the declared counts of its count round, a scaled
round the row maxima, and both the chunk's operand fingerprint and counts (R167, R362); members left out of a partial earlier
round are excluded (R186). -/
def openRound (r phase : Nat) (prev : Option Round) : Round :=
  let excl := match prev with
    | some p => (List.range (rN r)).foldl (fun m k => if bit p.members k then m else setBit m k) 0
    | none => 0
  let n :=
    if phase = 1 ∨ opMove (rOp r) = true then 0
    else if phase = 2 then rE r / rD r
    else if rOp r = 0x11 then rE r / rTopK r
    else rE r
  let rows :=
    if phase = 3 then
      match prev with
      | some p => p.pos.map (fun q => ({ top := if q.nan then some .nan else q.best } : Row))
      | none => []
    else []
  { phase := phase, excluded := excl, pos := List.replicate n {}, rows := rows,
    declared := (prev.map (·.declared)).getD []
    finger := (prev.map (·.finger)).getD 0
    counts := (prev.map (·.counts)).getD [0, 0, 0, 0, 0, 0, 0, 0] }

/-- The first round of a chunk: count, maximum or data. -/
def firstPhase (r : Nat) : Nat := if rOp r = 0x10 then 2 else if rCountX r then 1 else 0

/-- The plan of a round's emission: the count round and the maximum round go by plan A (R184, R201, R221). -/
def emitPlan (r phase : Nat) (planB : Bool) : Plan := rPlan r (planB && decide (phase ≠ 1 ∧ phase ≠ 2))

/-- The round after an emission, none when the chunk is done (R184, R201). -/
def nextPhase (phase : Nat) : Option Nat := if phase = 1 then some 0 else if phase = 2 then some 3 else none

/-- Every member's bit is set that the round waits for (R186, R208). -/
def Round.filled (rd : Round) (r : Nat) : Bool :=
  if opRoot (rOp r) then decide (rd.added ≥ 1)
  else decide (rd.members ||| rd.excluded = 2 ^ rN r - 1)

/-! ## The post-op (R211) -/

/-- The lesser and the greater of a value and a bound. -/
def clampVal (v low high : Val) : Val :=
  let v := if v.lt low then low else v
  if high.lt v then high else v

/-- The post-op on a result's exact value (R211). -/
def postOp (p : Plan) (v : Val) : Val :=
  let scaled := if p.scaleOn then
      match v, f32 p.scale with
      | .fin x, .fin s => .fin (x.mul s)
      | .inf neg, .fin s => if s.n = 0 then .nan else .inf (xor neg s.neg)
      | v, _ => v
    else v
  let moved := if p.addOn then
      match scaled, f32 p.offset with
      | .fin x, .fin o => .fin (x.add o)
      | v, _ => v
    else scaled
  if p.clampOn then
    match moved with
    | .nan => .nan
    | .inf false => (match f32 p.high with | .fin h => .fin h | _ => .inf false)
    | .inf true => (match f32 p.low with | .fin l => .fin l | _ => .inf true)
    | .fin x => clampVal (.fin x) (f32 p.low) (f32 p.high)
  else moved

/-! ## Results -/

/-- One frame of an emission: its group's offset from the plan's result group, payload, element count, form, member
index field, Partial and phase (Tables 03-2, 09-3). -/
structure Output where
  offset : Nat := 0
  payload : List Byte := []
  count : Nat := 0
  fmt : Nat := 0
  mx : Bool := false
  member : Nat := 0
  part : Bool := false
  phase : Nat := 0
  deriving DecidableEq, Repr

/-- The finite sum S × 2^b, or the special value of R159, of a SUM position or a scaled element. -/
def Pos.sumVal (p : Pos) (b : Int) : Val :=
  if p.nan || (p.pinf && p.ninf) then .nan
  else if p.pinf then .inf false
  else if p.ninf then .inf true
  else .fin ⟨decide (p.sum < 0), p.sum.natAbs, 1, b⟩

/-- The winning value of a MAX or MIN position; an empty one is +0 (R197, R198). -/
def Pos.bestVal (p : Pos) : Val := if p.nan then .nan else p.best.getD (.fin ⟨false, 0, 1, 0⟩)

/-- The bits of a pair's value as written: a NaN canonical (R199, R206). -/
def pairBits (code v : Nat) : Nat := if decodeElem code v = .nan then canonNan code else v

/-- A value written is a NaN or an infinity: a special-out count of 1 (Table 07-8). -/
def specials (l : List Val) : OutCounts :=
  { special := (l.filter (fun v => match v with | .fin _ => false | _ => true)).length }

/-- A pair's bytes. -/
def pairBytes (vb code : Nat) (a : Nat × Nat) : List Byte := toBytes vb (pairBits code a.1) ++ toBytes 4 a.2

/-- The empty pair (R197, R206). -/
def emptyPair (vb : Nat) : List Byte := toBytes vb 0 ++ toBytes 4 0xFFFFFFFF

/-- The element count of a data round's result (R181, R197, Table 09-3). -/
def Round.resultCount (rd : Round) (r : Nat) : Nat :=
  if !rd.data then 0
  else if rCountX r then rd.declared.foldl (fun a p => max a p.2) 0
  else rE r

/-- The payload of results under a plan. A count that MX form cannot hold has no size under R152: the payload is then a free
value of as many whole blocks as hold the count, and it advances no output count (DESIGN CHOICE, assumption 30). -/
def encodePlan (r gen chunk free : Nat) (p : Plan) (l : List (Val × Bool)) : List Byte × OutCounts :=
  if p.mx ∧ l.length % 32 ≠ 0 then (toBytes (ceilDiv l.length 32 * (1 + 4 * fmtWidth p.fmt)) free, {})
  else encodeElems p.fmt p.mx (fun i => if p.stochastic then some (srDraw (rCtx r) gen chunk i) else none) l

/-- The values of a scaled round's elements (R205): the sum, or the quotient by the row's normaliser. -/
def Row.elements (w : Row) (p : Plan) (b : Int) (ps : List Pos) : List Val :=
  ps.map (fun q =>
    match w.top.getD (.inf true) with
    | .nan => .nan
    | .inf false => .nan
    | _ =>
      if p.normalise then
        if w.nan then .nan
        else match q.sumVal b with
          | .fin x =>
            if w.sum = 0 then .fin ⟨false, 0, 1, 0⟩
            else postOp p (.fin ⟨x.neg, x.n, w.sum.natAbs, x.e + 43⟩)
          | v => postOp p v
      else postOp p (q.sumVal b))

/-- The 8 bytes of a result's row header (R205): M, then the normaliser in FP32, and whether that overflowed. -/
def Row.header (w : Row) : List Byte × Bool :=
  let nan := toBytes 4 (canonNan 0)
  match w.top.getD (.inf true) with
  | .nan => (nan ++ nan, false)
  | .inf false => (toBytes 4 (infCode 0 false) ++ nan, false)
  | top =>
    let m := match top with | .fin x => (toFloat x 0 none).1 | _ => infCode 0 true
    if w.nan then (toBytes 4 m ++ nan, false)
    else
      let l := toFloat ⟨decide (w.sum < 0), w.sum.natAbs, 1, -43⟩ 0 none
      (toBytes 4 m ++ toBytes 4 l.1, l.2)

/-- The payload of a scaled round's result (R205). -/
def lsePayload (r gen chunk free : Nat) (p : Plan) (rd : Round) : List Byte × OutCounts :=
  let d := rD r
  let heads := rd.rows.map Row.header
  let vals := (List.range rd.rows.length).flatMap (fun i =>
    (rd.rows.getD i {}).elements p (rWindow r) ((rd.pos.drop (i * d)).take d))
  let body := encodePlan r gen chunk free p (vals.map (fun v => (v, false)))
  (heads.flatMap (·.1) ++ body.1, { body.2 with overflow := body.2.overflow + (heads.filter (·.2)).length })

/-- The element codes of a piece outside MX form. -/
def pieceElems (r : Nat) (q : Nat × Nat × List Byte) : List Nat := unpackElems q.2.2 (fmtWidth (rFmt r)) q.2.1

/-- The pieces in member order. -/
def sortPieces (l : List (Nat × Nat × List Byte)) : List (Nat × Nat × List Byte) :=
  l.foldl (fun acc q => (acc.filter (fun x => decide (x.1 < q.1))) ++ [q] ++ acc.filter (fun x => decide (x.1 > q.1))) []

/-- What a completed round writes under its plan (R159 to R163, R184, R197 to R212, Table 09-3). `free` supplies the
value that the spec leaves open. -/
def Round.outputs (rd : Round) (r gen chunk free : Nat) (p : Plan) : List Output × OutCounts :=
  let op := rOp r
  let n := rN r
  let base : Output := { member := (rd.added - 1) % 2 ^ 20, part := decide (rd.added < n), phase := rd.phase }
  if rd.phase = 1 then
    let off := if op = 0x23 then chunk % n else 0
    ([{ base with offset := off, count := n, fmt := 0xA
                  payload := (List.range n).flatMap (fun m =>
                    toBytes 4 (((rd.declared.find? (fun q => decide (q.1 = m))).map (·.2)).getD 0)) }], {})
  else if op = 0x22 then
    match rd.pieces with
    | q :: _ => ([{ base with member := 0, part := false, count := q.2.1, payload := q.2.2, fmt := rFmt r, mx := rMx r }], {})
    | [] => ([{ base with member := 0, part := false, fmt := rFmt r, mx := rMx r }], {})
  else if op = 0x21 then
    match rd.pieces with
    | q :: _ =>
      let k := rE r / n
      ((List.range n).map (fun m =>
        let bytes := if rMx r then
            let bs := 1 + 4 * fmtWidth (rFmt r)
            (q.2.2.drop (m * k / 32 * bs)).take (k / 32 * bs)
          else packElems (fmtWidth (rFmt r)) (((pieceElems r q).drop (m * k)).take k)
        { base with offset := m, member := 0, part := false, count := k, payload := bytes, fmt := rFmt r, mx := rMx r }), {})
    | [] => ([], {})
  else if opMove op then
    let ps := sortPieces rd.pieces
    let bytes := if rMx r then ps.flatMap (fun q => q.2.2) else packElems (fmtWidth (rFmt r)) (ps.flatMap (pieceElems r))
    ([{ base with offset := if op = 0x23 then chunk % n else 0, count := ps.foldl (fun a q => a + q.2.1) 0
                  payload := bytes, fmt := rFmt r, mx := rMx r }], {})
  else if rd.phase = 2 then
    if !rd.data then ([base], {})
    else
      ([{ base with count := rd.pos.length
                    payload := rd.pos.flatMap (fun q => toBytes 4 (match q.bestVal with
                      | .nan => canonNan 0
                      | .inf neg => infCode 0 neg
                      | .fin x => (toFloat x 0 none).1)) }], specials (rd.pos.map Pos.bestVal))
  else
    let cnt := rd.resultCount r
    let out := fun (b : List Byte × OutCounts) (fmt : Nat) (mx : Bool) =>
      ([{ base with count := cnt, payload := b.1, fmt := fmt, mx := mx }], b.2)
    if !rd.data then out ([], {}) p.fmt p.mx
    else if op = 0x10 then out (lsePayload r gen chunk free p rd) p.fmt p.mx
    else if op = 0x11 then
      let vb := valueBytes r
      out (rd.pos.flatMap (fun q =>
        q.pairs.flatMap (pairBytes vb (rFmt r)) ++ (List.replicate (rTopK r - q.pairs.length) (emptyPair vb)).flatten),
        specials (rd.pos.flatMap (fun q => q.pairs.map (fun a => decodeElem (rFmt r) a.1)))) (rFmt r) (rMx r)
    else if opPairs op then
      let vb := valueBytes r
      out ((rd.pos.take cnt).flatMap (fun q => match q.pairs with
        | a :: _ => pairBytes vb (rFmt r) a
        | [] => emptyPair vb), specials ((rd.pos.take cnt).flatMap (fun q =>
          (q.pairs.take 1).map (fun a => decodeElem (rFmt r) a.1)))) (rFmt r) (rMx r)
    else if opBits op then
      out (packElems (fmtWidth (rFmt r)) ((rd.pos.take cnt).map (fun q => q.word.getD 0)), {}) (rFmt r) (rMx r)
    else
      let vals := (rd.pos.take cnt).map (fun q =>
        if op = 1 then (postOp p (q.sumVal (rWindow r)), !q.got)
        else if q.got then (postOp p q.bestVal, false) else (q.bestVal, true))
      out (encodePlan r gen chunk free p vals) p.fmt p.mx

end Sys2Proof.Machine
end

