-- ==== Sys2Proof/Machine/Contexts.lean ====
section
/-! DEFINITION. Collective contexts: resources, chunk groups, completion, emission, release and faults (R169 to R189, R215 to
R218, R221, R225, R360 to R363). -/

namespace Sys2Proof.Machine

/-! ## Contexts by ID -/

/-- The context of an ID; none where it is FREE. -/
def Dev.ctxAt (d : Dev) (c : Nat) : Option Context := d.contexts.get none c
/-- Stores a context under its ID, none for FREE. -/
def Dev.putCtx (d : Dev) (c : Nat) (x : Option Context) : Dev := { d with contexts := d.contexts.put none c x }
/-- Changes a context that is not FREE. -/
def Dev.modCtx (d : Dev) (c : Nat) (f : Context → Context) : Dev :=
  match d.ctxAt c with
  | some x => d.putCtx c (some (f x))
  | none => d
/-- The contexts that are not FREE, by ascending ID. -/
def Dev.ctxs (d : Dev) : List (Nat × Context) := d.contexts.cells.filterMap (fun p => p.2.map (fun x => (p.1, x)))

/-- The key of a chunk group: position × 2¹⁷ + group. -/
def groupKey (p k : Nat) : Nat := p * 2 ^ 17 + k
/-- Position of a key. -/
def keyPos (key : Nat) : Nat := key / 2 ^ 17
/-- Group of a key. -/
def keyGroup (key : Nat) : Nat := key % 2 ^ 17
/-- A chunk group of a context. -/
def Context.group (x : Context) (key : Nat) : Group := x.groups.get {} key
/-- The context with a chunk group replaced. -/
def Context.putGroup (x : Context) (key : Nat) (g : Group) : Context := { x with groups := x.groups.put {} key g }
/-- Changes a chunk group of a context. -/
def Dev.modGroup (d : Dev) (c key : Nat) (f : Group → Group) : Dev :=
  d.modCtx c (fun x => x.putGroup key (f (x.group key)))
/-- The groups of a position: G + Gs (R176). -/
def rWidth (r : Nat) : Nat := rG r + rGs r
/-- A group lies in the Cellar (R189). -/
def rSpilled (r key : Nat) : Bool := decide (keyGroup key ≥ rG r)

/-- Raises a context event n times as its count goes, once as its record goes (R168, R352). -/
def Dev.raiseCtxN (d : Dev) (code ctx gen n b : Nat) : Dev :=
  if n = 0 then d else (d.countN code 0 (n - 1)).raiseCtx code ctx gen b

/-! ## Chunks and groups (R116, R117, R176) -/

/-- Spine index of the device. -/
def Dev.spine (d : Dev) : Nat := d.cfg 0x5000 1

/-- Chunk c is one of the context and striped to this device (R116). -/
def Dev.ownChunk (d : Dev) (r c : Nat) : Bool := decide (c < rC r ∧ (c + rBase r) % rS r = d.spine)
/-- Position of the crate set that reduces chunk c (R117). -/
def chunkPos (r c : Nat) : Nat := (c + rBase r) / rS r % rK r
/-- Local ordinal of chunk c (R176). -/
def chunkOrd (r c : Nat) : Nat := (c + rBase r) / (rS r * rK r)
/-- Key of the group of chunk c (R176). -/
def chunkKey (r c : Nat) : Nat := groupKey (chunkPos r c) (chunkOrd r c % rWidth r)

/-- A local ordinal exists at a position (R176). -/
def Dev.ordExists (d : Dev) (r p o : Nat) : Bool :=
  let c := d.spine + rS r * (p + rK r * o)
  decide (d.spine < rS r ∧ rBase r ≤ c ∧ c - rBase r < rC r)

/-- First ordinal of a group at a position, where it has one (R176). -/
def Dev.firstOrd (d : Dev) (r p k : Nat) : Option Nat :=
  let w := rWidth r
  let lo := if d.ordExists r p 0 then 0 else 1
  let o := lo + (k + w - lo % w) % w
  if d.ordExists r p o then some o else none

/-- Chunks of one generation that this device reduces. -/
def Dev.localChunks (d : Dev) (r : Nat) : Nat :=
  let f := (d.spine + rS r - rBase r) % rS r
  if d.spine < rS r ∧ f < rC r then (rC r - 1 - f) / rS r + 1 else 0

/-- The next chunk of a group: generation and local ordinal (R176). -/
def Dev.nextChunk (d : Dev) (x : Context) (key : Nat) : Option (Nat × Nat) :=
  match (x.group key).next with
  | some n => some n
  | none => (d.firstOrd x.record (keyPos key) (keyGroup key)).map (fun o => (x.armGen, o))

/-- The next chunk after (g, o) has returned to RELEASED (R176). -/
def Dev.chunkAfter (d : Dev) (r key g o : Nat) : Nat × Nat :=
  let w := rWidth r
  if d.ordExists r (keyPos key) (o + w) then (g, o + w)
  else ((g + 1) % 256, (d.firstOrd r (keyPos key) (keyGroup key)).getD o)

/-- One (generation, ordinal) comes before another, generations relative to gc (R176). -/
def comesBefore (gc : Nat) (a b : Nat × Nat) : Bool :=
  let x := wrapSub 8 a.1 gc
  let y := wrapSub 8 b.1 gc
  decide (x < y ∨ (x = y ∧ a.2 < b.2))

/-! ## Resources (R169, R175, R189, R217, R238, R361) -/

/-- A context holds slots, a home position, its upward share and spill space: it is not PARKED, and it has a crate set. -/
def Context.holds (x : Context) : Bool := decide (x.state ≠ .parked) && !x.crates.isEmpty

/-- Times that a Crate serves a context: at a position, or as the target of one being moved (R225). -/
def Context.seats (x : Context) (n : Nat) : Nat :=
  (x.crates.filter (fun c => decide (c = n))).length + (x.moving.filter (fun m => decide (m.2.1 = n))).length

/-- Sum over the contexts that hold resources. -/
def Dev.sumCtx (d : Dev) (f : Context → Nat) : Nat :=
  d.ctxs.foldl (fun (a : Nat) p => if p.2.holds then a + f p.2 else a) 0

/-- Shelf slots that quotas hold on a Crate (R175). -/
def Dev.quotaSlots (d : Dev) (n : Nat) : Nat := d.sumCtx (fun x => x.seats n * slotQuota x.record)

/-- Holding slots that a Crate keeps out of its free slots: the larger of the number in force and that committed. -/
def Dev.holdingKept (d : Dev) (n : Nat) : Nat := max (d.cfgAt n 0x6000 1) (d.targetIn d.inv.base (ad 0x6000 1))

/-- Free Shelf slots of a Crate (R175). -/
def Dev.freeSlots (d : Dev) (n : Nat) : Nat := 240 - d.holdingKept n - d.quotaSlots n

/-- Shelf slots that shadow groups hold on a Crate (R361). -/
def Dev.shadowSlots (d : Dev) (n : Nat) : Nat :=
  d.shadows.foldl (fun (a : Nat) s => if s.partner = n then a + s.slots else a) 0

/-- Cells of the result account that upward shares hold on a Crate (R217). -/
def Dev.shareCells (d : Dev) (n : Nat) : Nat := d.sumCtx (fun x => x.seats n * upwardShare x.record)

/-- Cells in use on a Crate by held upward contributions: of one context, or of all (R217). -/
def Dev.upwardCells (d : Dev) (n : Nat) (ctx : Option Nat) : Nat :=
  d.held.cells.foldl (fun (a : Nat) p =>
    match p.2 with
    | some x =>
      match x.upward with
      | some u => if x.crate = n ∧ (ctx = none ∨ ctx = some u.1) then a + cellsOf x.frame.flits else a
      | none => a
    | none => a) 0

/-- Cells of a Crate's result account that no share holds and that are free (R81, R217). -/
def Dev.resultFree (d : Dev) (n : Nat) : Nat :=
  d.cfgAt n 0x4000 3 - d.shareCells n - ((d.path n).result - d.upwardCells n none)

/-- Free cells of a context's upward share on a Crate (R217). -/
def Dev.shareFree (d : Dev) (n : Nat) (x : Context) : Nat :=
  x.seats n * upwardShare x.record - d.upwardCells n (some (rCtx x.record))

/-- Contexts that are neither FREE nor PARKED. -/
def Dev.activeCount (d : Dev) : Nat := d.sumCtx (fun _ => 1)
/-- Contexts that a Crate homes (R169). -/
def Dev.homeCount (d : Dev) (n : Nat) : Nat := d.sumCtx (fun x => if rHome x.record = n then 1 else 0)
/-- Contexts that are PARKED. -/
def Dev.parkedCount (d : Dev) : Nat := (d.ctxs.filter (fun p => decide (p.2.state = .parked))).length
/-- Templates that the store holds (R233). -/
def Dev.templateCapacity (d : Dev) : Nat := min 1048576 (512 * d.cfg 0x9000 2)
/-- The lowest template number that is free (R172; DESIGN CHOICE, assumption 24: the manual gives no order). -/
def Dev.freeTemplate (d : Dev) : Nat :=
  let used := d.ctxs.filterMap (fun p => if p.2.state = .parked then some p.2.template else none)
  ((List.range (used.length + 1)).find? (fun t => decide (t ∉ used))).getD 0
/-- The stack that holds a template: 2 KiB each, interleaved in units of 4 KiB (R232). -/
def templateStack (t : Nat) : Nat := t / 2 % 12

/-! ## The spill partition (R231, R232, R238) -/

/-- KiB of an interleaved partition of m MiB that stack k holds (R232). -/
def stackShare (mib k : Nat) : Nat := 4 * ceilDiv (256 * mib - k) 12

/-- KiB of the spill partition of a stack: the rest of its 32 GiB (R231, Table 10-1). -/
def Dev.spillSize (d : Dev) (k : Nat) : Nat :=
  33554432 - (if k < 2 then 8388608 else 0) - stackShare (if d.cfg 0x9000 1 = 1 then 256 else 0) k -
    stackShare (d.cfg 0x9000 2) k - stackShare (1024 * d.cfg 0x9000 3) k - 1024 * d.cfg (0x9010 + k) 1

/-- KiB of spill groups reserved on a stack (R238). -/
def Dev.spillUsed (d : Dev) (k : Nat) : Nat :=
  d.sumCtx (fun x => x.spill.foldl (fun (a : Nat) s => if s.stack = k then a + s.groups * spillKiB x.record else a) 0)

/-- Spill groups reserved on a stack (Table 10-5). -/
def Dev.spillGroups (d : Dev) (k : Nat) : Nat :=
  d.sumCtx (fun x => x.spill.foldl (fun (a : Nat) s => if s.stack = k then a + s.groups else a) 0)

/-- The home stack of a Crate (R230). -/
def homeStack (n : Nat) : Nat := 6 * (n / 64) + n % 64 % 6

/-- The runs of spill groups reserved on a stack: KiB from the top of its spill partition, and KiB taken. -/
def Dev.spillRuns (d : Dev) (k : Nat) : List (Nat × Nat) :=
  d.ctxs.flatMap (fun p =>
    if p.2.holds then (p.2.spill.filter (fun s => decide (s.stack = k))).map (fun s => (s.depth, s.groups * spillKiB p.2.record))
    else [])

/-- Puts a run in its place by depth. -/
def insertRun (a : Nat × Nat) : List (Nat × Nat) → List (Nat × Nat)
  | [] => [a]
  | b :: t => if a.1 ≤ b.1 then a :: b :: t else b :: insertRun a t

/-- The free runs of a partition of a size, from the top: those between the used ones, which are in order, and the rest. -/
def freeRuns (size : Nat) : Nat → List (Nat × Nat) → List (Nat × Nat)
  | at_, [] => if at_ < size then [(at_, size - at_)] else []
  | at_, u :: t => (if at_ < u.1 then [(at_, u.1 - at_)] else []) ++ freeRuns size (max at_ (u.1 + u.2)) t

/-- Reserves what it can of m spill groups of a size on a stack, downwards from the top of its spill partition (R238); a gap left
by groups freed is taken first where it holds one (DESIGN CHOICE, assumption 68). Answers how many found no space, and the
reservations after those already made. -/
def Dev.spillOn (d : Dev) (p k kib m : Nat) (made : List SpillRun) : Nat × List SpillRun :=
  let mine := (made.filter (fun s => decide (s.stack = k))).map (fun s => (s.depth, s.groups * kib))
  (freeRuns (d.spillSize k) 0 ((d.spillRuns k ++ mine).foldr insertRun [])).foldl
    (fun (a : Nat × List SpillRun) g =>
      let c := min a.1 (g.2 / kib)
      if c = 0 then a else (a.1 - c, a.2 ++ [⟨p, k, c, g.1⟩])) (m, made)

/-- Reserves m spill groups of a size for a position whose Crate is n: on the home stack, then on the lowest-numbered
stack of the die with space, none of them FAILED (R238, R242). Answers how many found no space, and the reservations after those
already made. -/
def Dev.spillPlan (d : Dev) (p n m kib : Nat) (made : List SpillRun) : Nat × List SpillRun :=
  let die := (List.range 6).map (fun k => 6 * dieOf n + k)
  (homeStack n :: die.filter (fun k => decide (k ≠ homeStack n))).foldl
    (fun (a : Nat × List SpillRun) k =>
      if a.1 = 0 ∨ (d.stack k).status = .failed then a else d.spillOn p k kib a.1 a.2) (m, made)

/-- Reserves the Gs spill groups of each position of a crate set; none where the partition lacks the space (R189). -/
def Dev.spillFor (d : Dev) (r : Nat) (crates : List Nat) : Option (List SpillRun) :=
  let q := (List.range crates.length).foldl (fun (a : Nat × List SpillRun) p =>
    let s := d.spillPlan p (crates.getD p 0) (rGs r) (spillKiB r) a.2
    (a.1 + s.1, s.2)) (0, [])
  if q.1 = 0 then some q.2 else none

/-- A group has moved to the remap target of its position (R225). -/
def Context.hasMoved (x : Context) (key : Nat) : Bool :=
  x.moving.any (fun m => decide (m.1 = keyPos key ∧ keyGroup key ∉ m.2.2))

/-- The stack and the depth of group i of a position, by its reservations in order. -/
def runAt (kib : Nat) : List SpillRun → Nat → Option (Nat × Nat)
  | [], _ => none
  | s :: t, i => if i < s.groups then some (s.stack, s.depth + i * kib) else runAt kib t (i - s.groups)

/-- Where a spill group of a context lies: its stack, and its depth in the spill partition (R238). -/
def Context.spillPlace (x : Context) (key : Nat) : Option (Nat × Nat) :=
  let p := if x.hasMoved key then keyPos key + 128 else keyPos key
  runAt (spillKiB x.record) (x.spill.filter (fun s => decide (s.pos = p))) (keyGroup key - rG x.record)

/-- The stack on which a spill group of a context lies. -/
def Context.spillStack (x : Context) (key : Nat) : Nat := ((x.spillPlace key).map (·.1)).getD 0

/-- The Crate that reduces a group: the position's Crate, or the remap target once the group has moved (R117, R225). -/
def Context.crateAt (x : Context) (key : Nat) : Nat :=
  let p := keyPos key
  match x.moving.find? (fun m => decide (m.1 = p)) with
  | some m => if keyGroup key ∈ m.2.2 then x.crates.getD p 0 else m.2.1
  | none => x.crates.getD p 0

/-! ## Plans (R221 to R223) -/

/-- Plan B is in force for groups that open now (R221, R223). -/
def Context.planB (x : Context) : Bool :=
  match x.override with
  | some b => b
  | none => if rPolicy x.record = 1 then x.onB else decide (rPolicy x.record = 2)

/-! ## Context state (R174) and generations (R178) -/

/-- A group is OPEN, COMPLETE or EMITTING. -/
def Group.busy (g : Group) : Bool := decide (g.state ≠ .released)

/-- Frees what a held upward contribution holds, or leaves it to its release where it is still to be sent (R216). -/
def Dev.dropUpward (d : Dev) (h : Nat) : Dev :=
  match d.heldAt h with
  | some x => if x.gone then d.dropHeld h else d.putHeld h { x with upward := none }
  | none => d

/-- Handles of the held upward contributions of a context, of one generation and chunk or of all (R216). -/
def Dev.upwardOf (d : Dev) (ctx : Nat) (gc : Option (Nat × Nat)) : List Nat :=
  d.held.cells.filterMap (fun p =>
    match p.2 with
    | some x =>
      match x.upward, x.frame.ext with
      | some u, some e => if u.1 = ctx ∧ (gc = none ∨ gc = some (e.gen, e.chunk)) then some p.1 else none
      | _, _ => none
    | none => none)

/-- Abandons a held upward contribution: freed, counted, event 0x6012 (R216, R217). -/
def Dev.abandonUpward (d : Dev) (ctx h : Nat) : Dev :=
  let e := ((d.heldAt h).bind (fun x => x.frame.ext)).getD {}
  (d.dropUpward h).raiseCtx 0x6012 ctx e.gen e.chunk

/-- A contribution's payload has been consumed: its release may go (R90). -/
def Dev.consume (d : Dev) (c : Contrib) : Dev :=
  match c.held with
  | some h => { d with consumed := d.consumed ++ [h] }
  | none => d

/-- Drops the contributions of a context that wait at C1 (R361), which its new state no longer admits. -/
def Dev.dropWaiting (d : Dev) (ctx : Nat) : Dev :=
  match d.ctxAt ctx with
  | none => d
  | some x =>
    let d := x.groups.cells.foldl (fun d p => p.2.waiting.foldl (fun (d : Dev) c => d.consume c) d) d
    d.putCtx ctx (some { x with groups := x.groups.mapAll {} (fun _ g => { g with waiting := [] }) })

/-- Work of a context is being moved away from a Crate: a remap from it is in progress (R225). -/
def Dev.remapping (d : Dev) (n : Nat) : Bool :=
  d.ctxs.any (fun p => p.2.moving.any (fun m => decide (p.2.crates.getD m.1 0 = n)))

/-- A remap may be complete: event 0x6013 with the Crate when no context remains (R225, R226). -/
def Dev.remapDone (d : Dev) (n : Nat) : Dev := if d.remapping n then d else d.raise 0x6013 n n

/-- Ends the moves of positions whose groups have all moved: the position names the target; event 0x6013 when no context
remains (R225). -/
def Dev.finishMoves (d : Dev) (ctx : Nat) : Dev :=
  match d.ctxAt ctx with
  | none => d
  | some x =>
    let ready := x.moving.filter (fun m => m.2.2.isEmpty)
    ready.foldl (fun (d : Dev) m =>
      let n := x.crates.getD m.1 0
      let d := d.modCtx ctx (fun x => { x with
        crates := listSet x.crates m.1 m.2.1
        moving := x.moving.filter (fun v => decide (v.1 ≠ m.1))
        spill := (x.spill.filter (fun s => decide (s.pos ≠ m.1))).map (fun (s : SpillRun) =>
          if s.pos = m.1 + 128 then { s with pos := m.1 } else s) })
      d.remapDone n) d

/-- A group of a context moves to the remap target of its position (R225). -/
def Dev.moveGroup (d : Dev) (ctx key : Nat) : Dev :=
  (d.modCtx ctx (fun x => { x with moving := x.moving.map (fun (m : Nat × Nat × List Nat) =>
    if m.1 = keyPos key then (m.1, m.2.1, m.2.2.filter (fun k => decide (k ≠ keyGroup key))) else m) })).finishMoves ctx

/-- A context leaves every slot: PARKED in a template, or FREE (R172, R173, R217, R358). A template on a FAILED stack is lost at
once (R242, Table 10-2). A remap that waited for it alone is complete (R225). -/
def Dev.endDrain (d : Dev) (ctx : Nat) (x : Context) : Dev :=
  let d := (d.upwardOf ctx none).foldl (fun d h => d.abandonUpward ctx h) d
  let d := { d with crates := d.crates.mapAll {} (fun _ c =>
    { c with mismatches := c.mismatches.filter (fun m => decide (m.ctx ≠ ctx)) }) }
  let t := d.freeTemplate
  let d :=
    if !x.park then d.putCtx ctx none
    else if (d.stack (templateStack t)).status = .failed then (d.putCtx ctx none).raise 0x9006 (templateStack t) 2 ctx
    else d.putCtx ctx (some { record := x.record, state := .parked, crates := rCrates x.record, template := t })
  (x.moving.map (fun m => x.crates.getD m.1 0)).eraseDups.foldl Dev.remapDone d

/-- Brings a context's state up to date with its groups (R174), and ends its drain when no slot is left (R173). -/
def Dev.settleCtx (d : Dev) (ctx : Nat) : Dev :=
  match d.ctxAt ctx with
  | none => d
  | some x =>
    let live := x.groups.cells.any (fun p => p.2.busy && !p.2.stale)
    match x.state with
    | .armed | .active => d.putCtx ctx (some { x with state := if live then .active else .armed })
    | .draining => if x.groups.cells.any (fun p => p.2.busy) then d else d.endDrain ctx x
    | _ => d

/-- A chunk of the generation has returned to RELEASED: the generation that has none left completes (R178). -/
def Dev.countDone (d : Dev) (x : Context) (gen : Nat) : Context :=
  let x := { x with done := x.done.upd 0 gen (· + 1) }
  if x.done.get 0 x.gc ≥ d.localChunks x.record then
    { x with done := x.done.put 0 x.gc 0, gc := (x.gc + 1) % 256, completed := wrapAdd 64 x.completed 1 }
  else x

/-! ## Tagged chunk rounds (R384, R385) -/

/-- The draw of a chunk for shadowing and tagging (R360, R384). -/
def chunkDraw (ctx gen chunk : Nat) : Nat := srDraw ctx gen chunk 16383

/-- The key under which a chunk round is followed. -/
def roundKey (ctx key : Nat) : Nat := ctx * 2 ^ 24 + key

/-- Changes the item that follows a chunk round whose emission is not written. -/
def Dev.mapRound (d : Dev) (ctx key : Nat) (f : Tagged → Tagged) : Dev :=
  if d.tele.items.isEmpty then d
  else { d with tele := { d.tele with items := d.tele.items.map (fun (i : Tagged) =>
    if i.kind = 2 ∧ !i.sent ∧ i.key = roundKey ctx key then f i else i) } }

/-- Starts to follow a chunk round with its first contribution, where the chunk is tagged (R384, R385). -/
def Dev.followRound (d : Dev) (ctx key crate gen chunk phase tc : Nat) (c : Contrib) : Dev :=
  let x := d.cfg 0xA000 3
  if x = 255 ∨ chunkDraw ctx gen chunk < 2 ^ 32 - 2 ^ (32 - x) then d
  else if (d.tele.items.filter (fun i => decide (i.crate = crate))).length ≥ 64 then
    { d with tele := { d.tele with chunkSkips := wrapAdd 64 d.tele.chunkSkips 1 } }
  else
    { d with tele := { d.tele with
        chunksTagged := wrapAdd 64 d.tele.chunksTagged 1
        items := d.tele.items ++ [{ kind := 2, crate := crate, key := roundKey ctx key, tc := tc, phase := phase,
                                    lane := c.lane, nameA := gen * 2 ^ 24 + ctx, nameB := chunk, t0 := c.at_.time }] } }

/-- A contribution has been added to a followed round: the last received, its last element in C3, and the count. -/
def Dev.touchRound (d : Dev) (ctx key : Nat) (c : Contrib) : Dev :=
  d.mapRound ctx key (fun i =>
    { i with lane := c.lane, size := min 255 (i.size + 1)
             stages := (i.stages.put none 1 (some c.at_.time)).put none 2 (some d.now) })

/-- A followed round is abandoned: its record is written with outcome 2 (R385). -/
def Dev.abandonRound (d : Dev) (ctx key : Nat) : Dev :=
  match takeFirst (fun (i : Tagged) => decide (i.kind = 2 ∧ i.key = roundKey ctx key) && !i.sent) d.tele.items with
  | some (i, rest) => { d with tele := { d.tele with items := rest } }.writeSample { i with outcome := 2 }
  | none => d

/-! ## Shadow checking (R360 to R363) -/

/-- A Crate is SUSPECT (R363). -/
def Dev.suspect (d : Dev) (n : Nat) : Bool := decide (d.imm (0x6580 + n) 2 = 1)

/-- Writes a Crate's health state: each change raises 0x6024 (R363). -/
def Dev.setHealth (d : Dev) (n v : Nat) : Dev :=
  if d.imm (0x6580 + n) 2 = v then d else (d.setImm (0x6580 + n) 2 v).raise 0x6024 n v

/-- A chunk of an arithmetic operator is picked for shadowing on a reducing Crate (R360). -/
def Dev.shadowPick (d : Dev) (r n ctx gen chunk : Nat) : Bool :=
  let x := if d.suspect n then d.cfg 0x6500 2 else d.cfg 0x6500 1
  !(opMove (rOp r)) && decide (x ≠ 255) && decide (chunkDraw ctx gen chunk < 2 ^ (32 - x))

/-- Opens the shadow group of a chunk that is picked, or counts it as skipped for want of slots (R361). -/
def Dev.openShadow (d : Dev) (ctx : Nat) (x : Context) (key gen chunk : Nat) (planB : Bool) : Dev :=
  let r := x.record
  let n := x.crateAt key
  if !(d.shadowPick r n ctx gen chunk) then d
  else
    let p := d.cfg (0x6580 + n) 1
    if d.freeSlots p < d.shadowSlots p + chunkSlots r then
      d.modCrate n (fun c => { c with shadowSkips := wrapAdd 64 c.shadowSkips 1 })
    else
      let s : Shadow := { ctx := ctx, record := r, key := key, gen := gen, chunk := chunk, crate := n, partner := p
                          slots := chunkSlots r, planB := planB, round := openRound r (firstPhase r) none }
      ({ d with shadows := d.shadows ++ [s] }).modCrate n (fun c => { c with shadowed := wrapAdd 64 c.shadowed 1 })

/-- A shadow is that of a chunk of a group. -/
def Shadow.isOf (s : Shadow) (ctx key gen chunk : Nat) : Bool :=
  decide (s.ctx = ctx ∧ s.key = key ∧ s.gen = gen ∧ s.chunk = chunk)

/-- The shadow of a group's present chunk: the newest of that name. -/
def Dev.shadowOf (d : Dev) (ctx : Nat) (x : Context) (key : Nat) : Option Shadow :=
  let g := x.group key
  d.shadows.reverse.find? (fun s => s.isOf ctx key g.gen g.chunk)

/-- Changes the shadow of a group's present chunk while it goes on. -/
def Dev.modShadow (d : Dev) (ctx key : Nat) (f : Shadow → Shadow) : Dev :=
  match d.ctxAt ctx with
  | none => d
  | some x =>
    let g := x.group key
    { d with shadows := d.shadows.map (fun (s : Shadow) => if s.isOf ctx key g.gen g.chunk && !s.ended then f s else s) }

/-- The messages of a shadow up to its n-th completion notice. -/
def throughNotices : Nat → List ShadowMsg → List ShadowMsg
  | 0, _ => []
  | _, [] => []
  | n + 1, .notice :: t => .notice :: throughNotices n t
  | n + 1, m :: t => m :: throughNotices (n + 1) t

/-- A shadow whose chunk is abandoned without a further result: what is left are the comparisons of the emissions it has made
(R361 to R363). -/
def Shadow.closed (s : Shadow) : Shadow :=
  let due := s.own.length - s.theirs.length
  { s with msgs := throughNotices due s.msgs, theirs := s.theirs.take s.own.length, ended := true
           slots := if due = 0 then 0 else s.slots }

/-- Nothing is left of a shadow: its chunk has ended and every emission is compared. -/
def Shadow.over_ (s : Shadow) : Bool := s.ended && s.own.isEmpty && s.msgs.isEmpty

/-- Ends the shadow of a chunk that is abandoned without a result (R361, R363). -/
def Dev.dropShadow (d : Dev) (ctx key : Nat) : Dev :=
  let d := d.modShadow ctx key Shadow.closed
  { d with shadows := d.shadows.filter (fun s => !s.over_) }

/-! ## Release and abandonment (R176, R178, R186, R239) -/

/-- A group returns to RELEASED after its chunk (R176, R178). -/
def Dev.releaseGroup (d : Dev) (ctx key : Nat) : Dev :=
  let d := d.modCtx ctx (fun x =>
    let g := x.group key
    if g.stale then x.putGroup key { ({} : Group) with next := g.next, zeroing := g.zeroing }
    else
      (d.countDone x g.gen).putGroup key
        { ({} : Group) with next := some (d.chunkAfter x.record key g.gen g.ord), zeroing := g.zeroing })
  d.settleCtx ctx

/-- A group whose sums are not yet drained is abandoned without a result: a spill group waits for the engine to clear it (R186,
R239). -/
def Dev.abandonGroup (d : Dev) (ctx key : Nat) : Dev :=
  let d := (d.abandonRound ctx key).dropShadow ctx key
  match d.ctxAt ctx with
  | none => d
  | some x =>
    if rSpilled x.record key then
      d.modGroup ctx key (fun g => { g with clearing := true, acks := [], round := {} })
    else d.releaseGroup ctx key

/-- A fault of a context: OPEN slots are abandoned and the state is FAULTED, with the latest reason; in a DRAINING context the
reason is recorded and the drain goes on (R186, R189, R363). Event 0x6001 with the chunk, where there is one, and the reason (R192). -/
def Dev.faultCtx (d : Dev) (ctx reason gen : Nat) (chunk : Option Nat) : Dev :=
  let event := fun (d : Dev) => match chunk with
    | some c => d.raiseCtx 0x6001 ctx gen c reason
    | none => d.raiseCtx 0x6001 ctx gen reason
  match d.ctxAt ctx with
  | none => d
  | some x =>
    if x.state = .draining then event (d.modCtx ctx (fun x => { x with fault := reason }))
    else if x.state = .parked ∨ x.state = .installed then d
    else
      let opens := x.groups.cells.filterMap (fun p => if p.2.state = .opened ∧ !p.2.clearing then some p.1 else none)
      let d := (d.modCtx ctx (fun x => { x with state := .faulted, fault := reason })).dropWaiting ctx
      event (opens.foldl (fun d k => d.abandonGroup ctx k) d)

/-- A fault that a group brings on its context; the group itself is abandoned, in a DRAINING context too, where its sums are not
yet drained (R186, R189, R192). -/
def Dev.faultGroup (d : Dev) (ctx key reason : Nat) : Dev :=
  match d.ctxAt ctx with
  | none => d
  | some x =>
    let g := x.group key
    let d := d.faultCtx ctx reason (if g.busy then g.gen else x.gc) (if g.busy then some g.chunk else none)
    match (d.ctxAt ctx).map (·.group key) with
    | some g => if (g.state = .opened ∨ g.state = .complete) ∧ g.clearing = false then d.abandonGroup ctx key else d
    | none => d

/-! ## Emission (R81, R184, R186, R215, R218, Table 13-1) -/

/-- The payload check of a context's algorithm (R55, R56). -/
def payloadCheck (r : Nat) (p : List Byte) : Nat :=
  if rCheck r = 1 then crc32 p else if rCheck r = 2 then crc64ecma p else crc32c p

/-- The frame of an output: a RESULT, or the CONTRIB of a BRANCH (R212, R215, Table 03-2). -/
def outputFrame (r gen chunk alive : Nat) (o : Output) : Frame :=
  let up := decide (rRole r = 1)
  { hdr := { opcode := if up then 0x10 else 0x11, tc := rTc r, len := o.payload.length, pcheck := payloadCheck r o.payload }
    ext := some { ctx := rCtx r, gen := gen, chunk := chunk, phase := if up then 0 else o.phase
                  member := if up then rUpMember r else o.member, alive := if up then alive else 0
                  fmt := o.fmt, mx := o.mx, part := !up && o.part, count := o.count }
    payload := o.payload }

/-- A slot becomes COMPLETE: its sums are final, and the completion notice follows the copies to the shadow partner (R177, R361). -/
def Dev.complete (d : Dev) (ctx key : Nat) (stamp : Stamped) : Dev :=
  let d := d.modGroup ctx key (fun g => { g with state := .complete, stamp := stamp, acks := [] })
  let d := d.mapRound ctx key (fun i => { i with stages := i.stages.put none 3 (some d.now) })
  d.modShadow ctx key (fun s => { s with msgs := s.msgs ++ [.notice] })

/-- The Combiner begins to round and encode a COMPLETE slot, which is EMITTING from then on (R159 to R163, R167, R177, R215,
R221, R362). -/
def Dev.encode (d : Dev) (ctx key : Nat) : Dev :=
  match d.ctxAt ctx with
  | none => d
  | some x =>
    let r := x.record
    let g := x.group key
    let p := emitPlan r g.round.phase g.planB
    let q := g.round.outputs r g.gen g.chunk (Config.unstatedPayload ctx g.gen g.chunk) p
    let n : Nat := q.1.foldl (fun a o => a + b2n o.part) 0
    let up := decide (rRole r = 1)
    let frames := q.1.map (fun o => (⟨outputFrame r g.gen g.chunk x.upAlive o, (p.group + o.offset) % 65536⟩ : Emit))
    let counts := plusCounts g.round.counts q.2.list
    let d := d.putCtx ctx (some ({ x with
        upAlive := if up then (x.upAlive + 1) % 65536 else x.upAlive
        partials := wrapAdd 64 x.partials (min n 1)
        counts := plusCounts x.counts q.2.list }.putGroup key
      { g with state := .emitting, part := g.part || decide (n > 0), emit := frames, round := { g.round with counts := counts } }))
    let d := d.mapRound ctx key (fun i =>
      { i with stages := i.stages.put none 4 (some d.now), outcome := if up then 3 else if n > 0 then 1 else 0 })
    let d := if rSpilled r key then
        { d with stackTab := d.stackTab.upd {} (x.spillStack key) (fun s =>
            { s with readClears := wrapAdd 64 s.readClears g.round.pos.length }) }
      else d
    (d.raiseCtxN 0x6041 ctx 0 q.2.overflow g.chunk).modShadow ctx key (fun s =>
      { s with own := s.own ++ [⟨g.round.finger, crc64we (q.1.flatMap (·.payload)), counts⟩]
               ended := (nextPhase g.round.phase).isNone })

/-- A chunk opens its group (R176, R177, R221, R360). -/
def Dev.openGroup (d : Dev) (ctx key gen chunk : Nat) : Dev :=
  match d.ctxAt ctx with
  | none => d
  | some x =>
    let r := x.record
    let d := (d.moveGroup ctx key).modGroup ctx key (fun g => { g with
      state := .opened, gen := gen, ord := chunkOrd r chunk, chunk := chunk, openAt := d.now, planB := x.planB
      round := openRound r (firstPhase r) none, part := false, emit := [], acks := [], stale := false })
    match d.ctxAt ctx with
    | some y => (d.openShadow ctx y key gen chunk x.planB).settleCtx ctx
    | none => d

/-- Adds a contribution that has passed the checks to its OPEN group (R156 to R158, R167, R179, R239, R361). -/
def Dev.addToGroup (d : Dev) (ctx key : Nat) (c : Contrib) : Dev :=
  match d.ctxAt ctx with
  | none => d
  | some x =>
    let r := x.record
    let g := x.group key
    let q := g.round.add r c
    let spilled := rSpilled r key
    let d := if g.round.added = 0 then
        d.followRound ctx key (x.crateAt key) g.gen g.chunk g.round.phase (rTc r) c else d
    let d := (d.touchRound ctx key c).putCtx ctx (some ({ x with
        touched := true
        counts := plusCounts x.counts q.2.list }.putGroup key
      { g with round := q.1, acks := if spilled then g.acks ++ [c.at_] else g.acks }))
    let d := if spilled then
        { d with stackTab := d.stackTab.upd {} (x.spillStack key) (fun s => { s with adds := wrapAdd 64 s.adds c.count }) }
      else d
    let d := (d.raiseCtxN 0x6040 ctx 0 q.2.window g.chunk).raiseCtxN 0x6014 ctx g.gen q.2.rowOver g.chunk
    let d := (d.modShadow ctx key (fun s => { s with msgs := s.msgs ++ [.copy c] })).consume c
    if !spilled && q.1.filled r then d.complete ctx key c.at_ else d

/-! ## Writing frames into the result account (R57, R76, R81, R92, R107, R115, R217) -/

/-- A frame as the device originates it: its version, half 0, its reserved bits 0 (R5, R107). -/
def Dev.originate (d : Dev) (f : Frame) (corr : Nat) : Frame :=
  { f with mac := none, pad := [], ext := f.ext.map (fun e => { e with rsv45 := 0, rsv46 := 0 })
           hdr := { f.hdr with e := d.activeVersion, h := false, corr := corr, rsv1 := 0, rsv3 := 0, rsv10 := 0 } }

/-- The lane of an upward contribution: port and lane of the link set by context ID and member index (R57, R115). An empty link
set falls back to every port of the direction with event 0x5015 at the context's home Crate, as R113 has it of forwarded frames
(R115 is silent: DESIGN CHOICE, assumption 64). -/
def Dev.upwardLane (d : Dev) (r group : Nat) : Option Nat × Dev :=
  let dir := rUp r
  let own := d.linkSet dir (some group)
  let ports := if own.isEmpty then d.linkSet dir none else own
  let d := if own.isEmpty && !ports.isEmpty then d.raise 0x5015 (rHome r) else d
  let n := rCtx r + rUpMember r
  match ports[n % max 1 ports.length]? with
  | none => (none, d)
  | some p =>
    let ls := d.carryingLanes p
    (ls[n % max 1 ls.length]?, d)

/-- Sends a held upward contribution towards its lane; with no lane it stays held (R215, R216). -/
def Dev.sendUpward (d : Dev) (h r group : Nat) : Dev :=
  let q := d.upwardLane r group
  match q.1, q.2.heldAt h with
  | some l, some x => ((q.2.putHeld h { x with gone := false, again := false }).stage h 1 d.now).sendDescriptor h l x false
  | _, _ => q.2.modHeld h (fun x => { x with gone := true })

/-- Stores a frame that the device originates on a Crate's result account. -/
def Dev.storeResult (d : Dev) (n : Nat) (x : Held) : Nat × Dev :=
  let q := d.store x
  (q.1, (q.2.modPath n (fun p => { p with
    result := p.result + cellsOf x.frame.flits
    grants := p.grants.upd 0 8 (fun k => wrapAdd 64 k x.frame.flits) })).noteLeast n)

/-- Writes one frame of an emission into the result account, where there is room: a RESULT starts its passes, a BRANCH
sends its contribution upward (R81, R92, R215, R217, R218). Answers whether it was written. -/
def Dev.writeEmit (d : Dev) (ctx : Nat) (x : Context) (key : Nat) (g : Group) (e : Emit) : Option Nat × Dev :=
  let r := x.record
  let n := x.crateAt key
  let up := decide (rRole r = 1)
  let cells := cellsOf e.frame.flits
  let room := if up then d.shareFree n x else d.resultFree n
  if room < cells then (none, d)
  else
    let f := d.originate e.frame g.stamp.corr
    let ex := f.ext.getD {}
    let base : Held := { frame := f, crate := n, lane := none, vc := vcOf f.hdr.tc false, account := .result,
                         start := g.stamp.time, whole := true }
    if up then
      let q := d.storeResult n { base with upward := some (ctx, ex.chunk, (rPlan r g.planB).link) }
      (some q.1, q.2.sendUpward q.1 r (rPlan r g.planB).link)
    else
      let m : MRecord := match rRow r, decide (rRole r = 2) with
        | some row, true => ⟨128, 0, row, 0, some e.group, false⟩
        | _, _ => ⟨128, 0, e.group, 0, none, false⟩
      let q := d.storeResult n { base with mrec := some m, res := some ⟨ctx, ex.gen, ex.chunk, rHome r⟩ }
      (some q.1, q.2.broadcast q.1)

/-- Writes the frames that an emission still has, in order, while there is room. -/
def Dev.writeEmits (ctx : Nat) (x : Context) (key : Nat) (g : Group) : List Emit → Option Nat → Dev → List Emit × Option Nat × Dev
  | [], last, d => ([], last, d)
  | e :: t, last, d =>
    match d.writeEmit ctx x key g e with
    | (none, d) => (e :: t, last, d)
    | (some h, d) => Dev.writeEmits ctx x key g t (some h) d

/-- The round of a chunk has been written: the next round opens, or the group returns to RELEASED (R177, R184, R186,
R201). -/
def Dev.roundWritten (d : Dev) (ctx key : Nat) : Dev :=
  match d.ctxAt ctx with
  | none => d
  | some x =>
    let r := x.record
    let g := x.group key
    match nextPhase g.round.phase, g.stale with
    | some ph, false =>
      let nx := openRound r ph (some g.round)
      let d := d.modGroup ctx key (fun g => { g with state := .opened, openAt := d.now, round := nx, emit := [] })
      if nx.filled r then d.complete ctx key ⟨d.now, 0⟩ else d
    | some _, true => (d.dropShadow ctx key).releaseGroup ctx key
    | none, _ =>
      let d := if g.part then d else d.modCtx ctx (fun x => { x with full := wrapAdd 64 x.full 1 })
      d.releaseGroup ctx key

/-- The Combiner begins on a COMPLETE slot. An uncorrectable error that it finds in the Shelf slots as it drains them faults the
context with reason 5, and the chunk is abandoned (R177, R192; DEDUCED, assumption 69). -/
def Dev.beginEmit (d : Dev) (ctx key : Nat) (shelf : Bool) : Dev :=
  match d.ctxAt ctx with
  | none => d
  | some x =>
    let g := x.group key
    if g.state ≠ .complete ∨ g.clearing = true then d
    else if shelf && !(rSpilled x.record key) then d.faultGroup ctx key 5
    else d.encode ctx key

/-- RESULT_WRITTEN: the Combiner begins on a COMPLETE slot; an EMITTING group writes what the result account has room for; the
round ends when nothing is left. Under policy 1 a shadowed chunk waits for the comparison (R81, R177, R184, R186, R217, R363). -/
def Dev.resultWritten (d : Dev) (ctx key : Nat) (shelf : Bool) : Dev :=
  let d := d.beginEmit ctx key shelf
  match d.ctxAt ctx with
  | none => d
  | some x =>
    let g := x.group key
    let waits := decide (d.cfg 0x6500 3 = 1) && (d.shadowOf ctx x key).any (fun s => !s.own.isEmpty)
    if g.state ≠ .emitting ∨ waits = true then d
    else
      let q := Dev.writeEmits ctx x key g g.emit none d
      let d := q.2.2.modGroup ctx key (fun g => { g with emit := q.1 })
      let d := match q.2.1 with
        | some h => d.mapRound ctx key (fun i =>
            let i := { i with stages := if i.stages.get none 5 = none then i.stages.put none 5 (some d.now) else i.stages }
            if q.1.isEmpty then { i with key := h, sent := true } else i)
        | none => d
      if q.1.isEmpty then d.roundWritten ctx key else d

end Sys2Proof.Machine
end

