-- ==== Sys2Proof/Machine/Contribs.lean ====
section
/-! DEFINITION. Collective frames as they arrive: the acceptance checks of a contribution, holding, CNACKs, mismatch records,
relayed RESULTs and the hold of upward contributions (R57 to R60, R178 to R188, R214 to R220, R357 to R359). -/

namespace Sys2Proof.Machine

/-! ## CNACKs (R60, R81) -/

/-- CNACK reasons (Table 03-6). -/
inductive NackReason where
  | check | notArmed | noContext | generation | member | chunk | format | length | aliveGap | faulted | draining
  | persistent | phase
  deriving DecidableEq, Repr

/-- Reason code (Table 03-6). -/
def NackReason.code : NackReason → Nat
  | .check => 1 | .notArmed => 2 | .noContext => 3 | .generation => 4 | .member => 5 | .chunk => 6 | .format => 7
  | .length => 8 | .aliveGap => 9 | .faulted => 10 | .draining => 11 | .persistent => 12 | .phase => 13

/-- The alive value the device expects of a member: the last accepted plus 1, or 0 where it holds none (R60). -/
def Dev.expectedAlive (d : Dev) (e : Ext) : Nat :=
  match d.ctxAt e.ctx with
  | some x => (x.alive.get 0xFFFF e.member + 1) % 65536
  | none => 0

/-- The CNACK for a refused contribution (R60). -/
def Dev.cnackFrame (d : Dev) (f : Frame) (e : Ext) (reason : NackReason) : Frame :=
  let p := toBytes 1 reason.code ++ toBytes 1 0 ++ toBytes 2 (d.expectedAlive e) ++ List.replicate 12 0
  { hdr := { opcode := 0x12, tc := f.hdr.tc, dst := f.hdr.src, len := 16, pcheck := crc32c p }
    ext := some { e with rsv45 := 0, rsv46 := 0 }, payload := p }

/-- Writes a CNACK into the result account of the Crate of a lane and enqueues it there; false where the account lacks
a cell (R60, R76, R81). -/
def Dev.writeNack (d : Dev) (w : NackWait) : Bool × Dev :=
  let n := crateOf w.lane
  if d.resultFree n < cellsOf w.frame.flits then (false, d)
  else
    let f := d.originate w.frame w.at_.corr
    let q := d.storeResult n { frame := f, crate := n, lane := none, vc := vcOf f.hdr.tc false, account := .result,
                               start := w.at_.time, whole := true }
    (true, q.2.takeDescriptor w.lane q.1 false)

/-- Refuses a contribution with a CNACK, which waits where its Crate's account is full or others wait there already
(R58, R60, R81). -/
def Dev.nack (d : Dev) (l : Nat) (f : Frame) (e : Ext) (t : FabricTime) (reason : NackReason) : Dev :=
  let w : NackWait := ⟨l, d.cnackFrame f e reason, ⟨t, f.hdr.corr⟩⟩
  if d.nacks.any (fun v => decide (crateOf v.lane = crateOf l)) then { d with nacks := d.nacks ++ [w] }
  else
    let q := d.writeNack w
    if q.1 then q.2 else { d with nacks := d.nacks ++ [w] }

/-- Writes the CNACKs that wait, oldest first, while their accounts have room (R81). -/
def Dev.retryNacks (d : Dev) : Dev :=
  let waits := d.nacks
  waits.foldl (fun d w =>
    if d.nacks.any (fun v => decide (crateOf v.lane = crateOf w.lane)) then { d with nacks := d.nacks ++ [w] }
    else
      let q := d.writeNack w
      if q.1 then q.2 else { d with nacks := d.nacks ++ [w] }) { d with nacks := [] }

/-! ## Checks 2 to 8 of Table 03-6 -/

/-- Where a chunk of the context stands in its group (R176, R180). -/
inductive Stand where
  /-- it occupies its group -/
  | occupies
  /-- it is the group's next chunk and the group is RELEASED -/
  | opens
  /-- it comes before the group's next chunk: late -/
  | past
  /-- none of these -/
  | no
  deriving DecidableEq, Repr

/-- Where a chunk stands (check 5, R176). -/
def Dev.stand (d : Dev) (x : Context) (gen chunk : Nat) : Stand :=
  let r := x.record
  let key := chunkKey r chunk
  let o := chunkOrd r chunk
  let g := x.group key
  if g.busy && !g.stale && !g.clearing && decide (g.gen = gen ∧ g.ord = o) then .occupies
  else
    let next := if g.busy && !g.stale then some (d.chunkAfter r key g.gen g.ord) else d.nextChunk x key
    match next with
    | none => .no
    | some n =>
      if n = (gen, o) ∧ g.busy = false then .opens
      else if comesBefore x.gc (gen, o) n && !(g.busy && decide (g.gen = gen ∧ g.ord = o)) then .past
      else .no

/-- Whether the ring conditions of check 4 hold for a contribution that arrived on a lane (R214). -/
def Dev.ringMember (d : Dev) (r l member : Nat) : Bool :=
  let role := d.role l
  if role = 2 ∨ role = 3 then
    decide (rRole r ≠ 0) && decide (rInput r (role - 2) = some member)
  else decide (rRole r = 0) || (decide (rInput r 0 ≠ some member) && decide (rInput r 1 ≠ some member))

/-- Check 4: the member index, the root member and the ring conditions (Table 03-4, R208, R214). -/
def Dev.memberOk (d : Dev) (r l member : Nat) : Bool :=
  decide (member < rN r) && (!(opRoot (rOp r)) || decide (member = rRoot r)) && d.ringMember r l member

/-- Check 6 for a chunk that has no round left: the phase is one that the context uses (R180, R185, R202). -/
def phaseUsed (r phase : Nat) : Bool :=
  if rOp r = 0x10 then decide (phase = 2 ∨ phase = 3)
  else if rCountX r then decide (phase ≤ 1)
  else decide (phase = 0)

/-- Check 7: the form that the phase and the arrival port require (R184, R201, R214). -/
def Dev.formatOk (d : Dev) (r l : Nat) (e : Ext) : Bool :=
  if e.phase = 1 then decide (e.fmt = 0xA ∧ e.mx = false)
  else if e.phase = 2 then decide (e.fmt = 0 ∧ e.mx = false)
  else if d.isRing l then decide ((e.fmt, e.mx) = rRingForm r 0 ∨ (e.fmt, e.mx) = rRingForm r 1)
  else decide (e.fmt = rFmt r ∧ e.mx = rMx r)

/-- A GATHER or DISPATCH, whose pieces R207 bounds. -/
def opPieces (o : Nat) : Bool := decide (o = 0x20 ∨ o = 0x23)

/-- Payload bytes of n elements of a data contribution in the form it carries (Table 09-3). -/
def dataBytes (r : Nat) (e : Ext) (n : Nat) : Option Nat :=
  if opPairs (rOp r) then some (n * (valueBytes r + 4)) else encSize e.fmt e.mx n

/-- The count of a count round lies in its range (R184, R207, R208). -/
def countOk (r v : Nat) : Bool :=
  if opPieces (rOp r) then decide (v ≤ rE r / rN r) && (!(rMx r) || decide (v % 32 = 0)) else decide (v ≤ rE r)

/-- Check 8: element count and payload length (Table 03-4, R181, R184, R197, R207 to R209). `declared` is the count that
the member declared, none where nothing is compared. For a chunk that has no round left it tests only Table 09-3 and E (R180). -/
def lengthOk (r : Nat) (e : Ext) (payload : List Byte) (past : Bool) (declared : Option Nat) : Bool :=
  let len := payload.length
  let o := rOp r
  let nr := rE r / rD r
  if e.phase = 1 then decide (e.count = 1 ∧ len = 4) && (past || countOk r (ofBytes payload))
  else if e.count = 0 ∨ len = 0 then
    decide (e.count = 0 ∧ len = 0) && !(opRoot o) && (past || !(decide (o = 0x20)) || rCountX r) &&
      (match declared with | some v => decide (v = 0) | none => true)
  else if e.phase = 2 then decide (len = 4 * e.count) && decide (e.count = nr)
  else if e.phase = 3 then
    decide (e.count = rE r) && decide (encSize (rFmt r) (rMx r) e.count = some (len - 8 * nr)) && decide (8 * nr ≤ len)
  else
    decide (dataBytes r e e.count = some len) && decide (e.count ≤ rE r) &&
      (if past then !(opRoot o) || decide (e.count = rE r)
       else match declared with
         | some v => decide (e.count = v)
         | none =>
           if rCountX r then true
           else if o = 0x20 then decide (e.count = rE r / rN r)
           else decide (e.count = rE r))

/-- The payload check passes (check 9, R55, R56). -/
def checkOk (r : Nat) (f : Frame) : Bool := decide (f.hdr.pcheck = payloadCheck r f.payload)

/-- What checks 1 to 8 answer. -/
inductive Early where
  | refuse (r : NackReason)
  | hold
  | pass (s : Stand)
  deriving DecidableEq, Repr

/-- The count with which check 8 compares a data contribution of count exchange: that declared by the member, 0 for
none; no comparison for a member that was excluded (R180, R184). -/
def declaredOf (r : Nat) (g : Group) (e : Ext) : Option Nat :=
  if rCountX r ∧ e.phase = 0 ∧ bit g.round.excluded e.member = false then
    some (((g.round.declared.find? (fun p => decide (p.1 = e.member))).map (·.2)).getD 0)
  else none

/-- Checks 1 to 8 of Table 03-6, in order. -/
def Dev.earlyChecks (d : Dev) (l : Nat) (f : Frame) (e : Ext) : Early :=
  match d.ctxAt e.ctx with
  | none => .refuse .noContext
  | some x =>
    let r := x.record
    let key := chunkKey r e.chunk
    let g := x.group key
    let own := d.ownChunk r e.chunk
    let s := if own then d.stand x e.gen e.chunk else .no
    match x.state with
    | .parked | .installed => .hold
    | .faulted => .refuse .faulted
    | st =>
      if st = .draining ∧ ¬ (s = .occupies ∧ g.state = .opened) then .refuse .draining
      else if e.gen ≠ x.gc ∧ e.gen ≠ (x.gc + 1) % 256 then .refuse .generation
      else if !(d.memberOk r l e.member) then .refuse .member
      else if s = .no then .refuse .chunk
      else if !(phaseUsed r e.phase) then .refuse .phase
      else if s = .occupies ∧ e.phase ≠ g.round.phase then .refuse .phase
      else if s = .opens ∧ e.phase ≠ firstPhase r then .refuse .phase
      else if !(d.formatOk r l e) then .refuse .format
      else
        let decl := if s = .occupies then declaredOf r g e else none
        if !(lengthOk r e f.payload (decide (s = .past)) decl) then .refuse .length
        else .pass s

/-! ## Check 9 (R357, R358) -/

/-- Detail C of the mismatch events: member, run and the same-fingerprint flag (R358). -/
def mismatchDetail (member run : Nat) (same : Bool) : Nat := member % 2 ^ 20 + run % 256 * 2 ^ 20 + b2n same * 2 ^ 28

/-- Puts a mismatch record at the front of a Crate's list; the 257th least recently used one is evicted (R358). -/
def Dev.putMismatch (d : Dev) (n : Nat) (m : Mismatch) : Dev :=
  d.modCrate n (fun c =>
    let rest := c.mismatches.filter (fun v => !(decide (v.ctx = m.ctx ∧ v.member = m.member)))
    if rest.length ≥ 256 then { c with mismatches := m :: rest.take 255, evicted := wrapAdd 64 c.evicted 1 }
    else { c with mismatches := m :: rest })

/-- Frees a mismatch record; one keyed otherwise counts as unresolved (Table 16-3). -/
def Dev.freeMismatch (d : Dev) (n ctx member : Nat) (unresolved : Bool) : Dev :=
  d.modCrate n (fun c => { c with
    mismatches := c.mismatches.filter (fun v => !(decide (v.ctx = ctx ∧ v.member = member)))
    unresolved := if unresolved then wrapAdd 64 c.unresolved 1 else c.unresolved })

/-- A mismatch event of a lane: generation and context ID in detail A, chunk in B (R358). -/
def Dev.raiseCheck (d : Dev) (code l : Nat) (e : Ext) (run : Nat) (same : Bool) : Dev :=
  let a := e.gen * 2 ^ 24 + e.ctx
  let c := if code = 0x6022 then mismatchDetail e.member run same else e.member
  if code = 0x6022 then d.raiseBy code 7 0 e.ctx 0 a e.chunk c else d.raise code l a e.chunk c

/-- Check 9 with Table 16-3: answers the reason where it fails. -/
def Dev.check9 (d : Dev) (l r : Nat) (f : Frame) (e : Ext) : Option NackReason × Dev :=
  let n := crateOf l
  let fp := crc64we f.payload
  let old := (d.crate n).mismatches.find? (fun m => decide (m.ctx = e.ctx ∧ m.member = e.member))
  let same := fun (m : Mismatch) => decide (m.gen = e.gen ∧ m.chunk = e.chunk ∧ m.alive = e.alive)
  if checkOk r f then
    match old with
    | none => (none, d)
    | some m =>
      if !(same m) then (none, d.freeMismatch n e.ctx e.member true)
      else if m.finger = fp then
        (none, ((d.freeMismatch n e.ctx e.member false).modLane l
          (fun x => { x with valueFaults := wrapAdd 64 x.valueFaults 1 })).raiseCheck 0x6021 l e 0 false)
      else
        (none, (d.freeMismatch n e.ctx e.member false).modLane l (fun x => { x with dataFaults := wrapAdd 64 x.dataFaults 1 }))
  else
    let d := d.modLane l (fun x => { x with checkBad := wrapAdd 64 x.checkBad 1 })
    let fresh : Mismatch := ⟨e.ctx, e.member, e.gen, e.chunk, e.alive, fp, f.hdr.pcheck, 1, true⟩
    match old with
    | none => (some .check, (d.putMismatch n fresh).raiseCheck 0x6020 l e 0 false)
    | some m =>
      if !(same m) then
        (some .check, ((d.freeMismatch n e.ctx e.member true).putMismatch n fresh).raiseCheck 0x6020 l e 0 false)
      else
        let run := min 255 (m.run + 1)
        let keep := m.same && decide (m.finger = fp)
        let d := d.putMismatch n { m with run := run, same := keep }
        let d := if run = 3 then
            (d.modLane l (fun x => { x with persistent := wrapAdd 64 x.persistent 1 })).raiseCheck 0x6022 l e run keep
          else d
        (some (if run < 3 then .check else .persistent), d)

/-! ## The way through the mesh (R10, R91, R100, R117, R225) -/

/-- The ways that a contribution takes through the mesh: from its ingress Crate to the Crate at its chunk's position, and on to a
remap target to which its group has moved (R117, R225). -/
def Context.ways (x : Context) (l key : Nat) : List (Nat × Nat) :=
  let n := x.crates.getD (keyPos key) 0
  [(crateOf l, n), (n, x.crateAt key)]

/-- A contribution goes through the mesh on VN2 (R98, Table 04-4). -/
def Dev.contribTrip (d : Dev) (x : Context) (l key : Nat) : Dev :=
  (x.ways l key).foldl (fun (d : Dev) w => d.trip 2 w.1 w.2) d

/-- The worm of a whole contribution can hold a grant of an arbiter on its way (R10, R100). -/
def Dev.contribAt (d : Dev) (a : Arbiter) (l h : Nat) (e : Ext) : Bool :=
  let ways := match d.ctxAt e.ctx with
    | some x => x.ways l (chunkKey x.record e.chunk)
    | none => []
  match a with
  | .egress _ _ => false
  | .larderWrite c r => decide (c = crateOf l ∧ r = laneIn l)
  | .larderRead c r => decide (c = crateOf l) && (ways.head?).any (fun w => decide (w.2 = r))
  | .cellar k _ => d.heldOnStack h k
  | a => ways.any (fun w => wayAsks 2 w a)

/-- What strikes a contribution before it is checked: the ECC of the cells that hold it, and an arbiter that cuts its worm. Either
makes it bad (R82, R91, R100). -/
def Dev.strikeContrib (d : Dev) (l h : Nat) (e : Ext) (ecc : Nat) (cut : Option Arbiter) : Dev :=
  let d := d.larderError h ecc
  match cut with
  | some a => if d.contribAt a l h e then ((d.setStalled a).raise 0x4010 (d.arbiterCrate h a)).makeBad h else d
  | none => d

/-! ## Checks 10 and 11, and the outcome (R58, R59, R179, R180, R358) -/

/-- What becomes of a contribution that is not refused. -/
inductive Fate where
  /-- refused or dropped: its storage is free at once -/
  | done
  /-- held in the holding area -/
  | hold
  /-- added, or waiting at C1: its storage stays until it is consumed -/
  | kept
  deriving DecidableEq, Repr

/-- The outcome of the alive check (R59). -/
inductive AliveOutcome where
  | accept | replay | gap | stale
  deriving DecidableEq, Repr

/-- The alive check (R59). -/
def aliveCheck (rx last : Nat) : AliveOutcome :=
  let k := wrapSub 16 rx last
  if k = 1 then .accept else if k = 0 then .replay else if k < 32768 then .gap else .stale

/-- Check 11 and the addition of a contribution whose alive value has been accepted (R179, R180, R361): late and
duplicate ones are dropped, one whose group's slots are being zeroed waits at C1. -/
def Dev.finishContrib (d : Dev) (l : Nat) (e : Ext) (s : Stand) (c : Contrib) : Fate × Dev :=
  match d.ctxAt e.ctx with
  | none => (.done, d)
  | some x =>
    let r := x.record
    let key := chunkKey r e.chunk
    let g := x.group key
    let late := fun (d : Dev) =>
      (Fate.done, (d.count 0x6E02 l).modCtx e.ctx (fun x => { x with late := wrapAdd 64 x.late 1 }))
    match s with
    | .past => late d
    | .no => (.done, d)
    | .opens =>
      if g.zeroing > 0 then
        if g.waiting.any (fun w => decide (w.member = c.member)) then (.done, d.count 0x6E02 l)
        else (.kept, d.modGroup e.ctx key (fun g => { g with waiting := g.waiting ++ [c] }))
      else (.kept, (d.openGroup e.ctx key e.gen e.chunk).addToGroup e.ctx key c)
    | .occupies =>
      if bit g.round.members e.member then (.done, d.count 0x6E02 l)
      else if bit g.round.excluded e.member ∨ g.state ≠ .opened then late d
      else (.kept, d.addToGroup e.ctx key c)

/-- Checks 2 to 11 of Table 03-6 on a whole contribution that came on a lane (R58). -/
def Dev.judge (d : Dev) (l : Nat) (f : Frame) (e : Ext) (t : FabricTime) (held : Option Nat) : Fate × Dev :=
  match d.earlyChecks l f e with
  | .refuse reason => (.done, d.nack l f e t reason)
  | .hold => (.hold, d)
  | .pass s =>
    match d.ctxAt e.ctx with
    | none => (.done, d)
    | some x =>
      match d.check9 l x.record f e with
      | (some reason, d) => (.done, d.nack l f e t reason)
      | (none, d) =>
        match aliveCheck e.alive (x.alive.get 0xFFFF e.member) with
        | .gap => (.done, d.nack l f e t .aliveGap)
        | .replay | .stale => (.done, d.count 0x6E01 l)
        | .accept =>
          let d := d.modCtx e.ctx (fun x => { x with alive := x.alive.put 0xFFFF e.member e.alive, touched := true })
          (d.contribTrip x l (chunkKey x.record e.chunk)).finishContrib l e s ⟨e.member, e.count, e.phase, f.payload, e.fmt, e.mx, ⟨t, f.hdr.corr⟩, l, held⟩

/-! ## Holding (R182, R183) -/

/-- Refuses a contribution that is or would be held: CNACK NOT-ARMED, counted, event 0x6004 (R182). -/
def Dev.refuseHeld (d : Dev) (h : HoldC) : Dev :=
  let e := h.frame.ext.getD {}
  ((d.nack h.lane h.frame e h.time .notArmed).modCtx h.ctx (fun x => { x with refused := wrapAdd 64 x.refused 1 })).raiseCtx
    0x6004 h.ctx e.gen e.chunk

/-- Holds a contribution in its ingress Crate's holding area, or refuses it at once where the area is full or the hold
time is 0 (R182). -/
def Dev.holdContrib (d : Dev) (l : Nat) (f : Frame) (e : Ext) (t : FabricTime) : Dev :=
  let n := crateOf l
  let h : HoldC := ⟨n, l, e.ctx, f, t⟩
  if (d.holding.filter (fun x => decide (x.crate = n))).length ≥ 5 * d.cfgAt n 0x6000 1 ∨ d.cfg 0x6000 2 = 0 then
    d.refuseHeld h
  else { d with holding := d.holding ++ [h] }

/-- HOLD_TIME_EXPIRY: the hold time of the oldest contribution held at a Crate passes (R182). -/
def Dev.holdExpiry (d : Dev) (n : Nat) : Dev :=
  match takeFirst (fun (h : HoldC) => decide (h.crate = n)) d.holding with
  | some (h, rest) => { d with holding := rest }.refuseHeld h
  | none => d

/-- Refuses every held contribution of a context that leaves INSTALLED or PARKED for a state other than ARMED (R182). -/
def Dev.refuseAllHeld (d : Dev) (ctx : Nat) : Dev :=
  let mine := d.holding.filter (fun h => decide (h.ctx = ctx))
  mine.foldl (fun d h => d.refuseHeld h) { d with holding := d.holding.filter (fun h => decide (h.ctx ≠ ctx)) }

/-- Takes the held contributions of a context that has become ARMED, in order of arrival (R183). -/
def Dev.takeHeld (d : Dev) (ctx : Nat) : Dev :=
  let mine := d.holding.filter (fun h => decide (h.ctx = ctx))
  mine.foldl (fun d h => (d.judge h.lane h.frame (h.frame.ext.getD {}) h.time none).2)
    { d with holding := d.holding.filter (fun h => decide (h.ctx ≠ ctx)) }

/-- An uncorrectable error that the Combiner finds in the Shelf slots as it adds a contribution: the context faults with reason 5
(R192). -/
def Dev.shelfError (d : Dev) (e : Ext) : Dev :=
  match d.ctxAt e.ctx with
  | none => d
  | some x =>
    let key := chunkKey x.record e.chunk
    if (x.group key).busy && !(rSpilled x.record key) then d.faultGroup e.ctx key 5 else d

/-- CONTRIB: a whole contribution arrives (R58). One that is struck on its way to the Combiner is discarded and reaches no check
(R91). -/
def Dev.contrib (d : Dev) (l : Nat) (f : Frame) (fcs : Fcs) (t : FabricTime) (ecc : Nat) (cut : Option Arbiter) (shelf : Bool) :
    Dev :=
  if f.hdr.opcode ≠ 0x10 then d
  else
    let q := d.wholeFrame l f fcs t
    if !q.2 then q.1
    else
      let d := q.1
      let vc := d.vcIn l f
      match f.ext with
      | none => d.passFlits l vc f.flits true
      | some e =>
        let s := d.store { d.arriving l f t false with whole := true }
        let d := ((s.2.takeRun l vc s.1 f.flits).stageFlits l s.1 f.flits).larderWrites l vc f.flits
        let d := (d.noteLeast (crateOf l)).strikeContrib l s.1 e ecc cut
        if (d.heldAt s.1).any (·.bad) then d.dropHeld s.1
        else
          match d.judge l f e t (some s.1) with
          | (.kept, d) => if shelf then d.shelfError e else d
          | (.done, d) => d.dropHeld s.1
          | (.hold, d) => (d.dropHeld s.1).holdContrib l f e t

/-! ## RESULT and CNACK frames from the ring (R216, R218 to R220) -/

/-- The direction of a ring lane: 0 east, 1 west; none for a leaf-facing lane. -/
def Dev.ringDir (d : Dev) (l : Nat) : Option Nat := if d.role l = 2 then some 0 else if d.role l = 3 then some 1 else none

/-- The context that relays a RESULT from a lane: a BRANCH whose up direction it is (R218, R219). -/
def Dev.relayOf (d : Dev) (l : Nat) (e : Ext) : Option Context :=
  match d.ctxAt e.ctx with
  | some x => if x.holds && decide (rRole x.record = 1) && decide (d.ringDir l = some (rUp x.record)) then some x else none
  | none => none

/-- RESULT: the head of a RESULT arrives: relayed by a BRANCH in two passes, or discarded with 0x6011 (R218, R219). -/
def Dev.result (d : Dev) (l : Nat) (f : Frame) (t : FabricTime) : Dev :=
  if f.hdr.opcode ≠ 0x11 then d
  else
    let q := d.frameHead l f t
    if !q.2 then q.1
    else
      let a := q.1.admitHead l f t
      if !a.2 then a.1
      else
        let d := a.1
        let e := f.ext.getD {}
        match d.relayOf l e with
        | none => (d.raiseCtx 0x6011 e.ctx e.gen e.chunk).discardHead l f t
        | some x =>
          let r := x.record
          let col := (rPlan r false).group
          let m : MRecord := match rRow r with
            | some row => ⟨128, 0, row, d.excludedOf l, some col, false⟩
            | none => ⟨128, 0, col, 0, none, false⟩
          match d.admitFrame l f t { d.arriving l f t false with mrec := some m, res := some ⟨e.ctx, e.gen, e.chunk, rHome r⟩ } with
          | (none, d) => d
          | (some h, d) => d.broadcast h

/-- A relayed RESULT has come whole and good: it ends the hold of R216 for its generation and chunk (R216, R218). -/
def Dev.endHold (d : Dev) (h : Nat) : Dev :=
  match d.heldAt h with
  | some x =>
    match x.res, x.lane with
    | some r, some _ => (d.upwardOf r.ctx (some (r.gen, r.chunk))).foldl (fun d k => d.dropUpward k) d
    | _, _ => d
  | none => d

/-- FRAME_TAIL: the tail of the frame arriving on a lane (R61, R66, R216). -/
def Dev.tail (d : Dev) (l : Nat) (fcs : Fcs) (t : FabricTime) : Dev :=
  match d.frameTail l fcs t with
  | (d, some h) => (d.endHold h).retryNacks
  | (d, none) => d.retryNacks

/-- The held upward contribution that a CNACK from a lane names (R220). -/
def Dev.nackTarget (d : Dev) (l : Nat) (e : Ext) : Option (Nat × Context) :=
  match d.relayOf l e with
  | none => none
  | some x =>
    if e.member ≠ rUpMember x.record then none
    else
      ((d.upwardOf e.ctx (some (e.gen, e.chunk))).find? (fun h =>
        (d.heldAt h).any (fun y => (y.frame.ext.getD {}).alive = e.alive))).map (fun h => (h, x))

/-- Applies a CNACK to the upward contribution it names, by its reason (R60, R216). -/
def Dev.applyNack (d : Dev) (h : Nat) (x : Context) (e : Ext) (p : List Byte) : Dev :=
  let reason := bytesFrom p 0 1
  if reason = 1 ∨ reason = 2 ∨ reason = 6 ∨ reason = 9 then
    match d.heldAt h with
    | some y =>
      if y.gone then d.sendUpward h x.record ((y.upward.map (fun u => u.2.2)).getD 0) else d.putHeld h { y with again := true }
    | none => d
  else if reason = 4 then (d.dropUpward h).modCtx e.ctx (fun x => { x with upAlive := bytesFrom p 2 2 })
  else if reason = 3 ∨ reason = 10 ∨ reason = 11 then d.abandonUpward e.ctx h
  else if reason = 0 ∨ reason ≥ 14 then d.count 0x6011 0
  else d

/-- Upward contributions that a CNACK asked for again and whose earlier copy has gone are sent (R216). -/
def Dev.sendAgain (d : Dev) : Dev :=
  let due := d.held.cells.filterMap (fun p => match p.2 with
    | some x => if x.again && x.gone then x.upward.map (fun u => (p.1, u)) else none
    | none => none)
  due.foldl (fun d p =>
    match d.ctxAt p.2.1 with
    | some x => d.sendUpward p.1 x.record p.2.2.2
    | none => d) d

/-- CNACK: forwarded like DATA where it carries an endpoint ID, else applied under R216 or discarded with 0x6011
(Table 03-3, R220). -/
def Dev.cnack (d : Dev) (l : Nat) (f : Frame) (fcs : Fcs) (t : FabricTime) : Dev :=
  if f.hdr.opcode ≠ 0x12 then d
  else if isEndpoint f.hdr.dst then
    let q := d.frameHead l f t
    if !q.2 then q.1
    else
      let g := if q.1.passesI2 l f then q.1.tagDraw l else (false, q.1)
      let a := g.2.admitHead l f t
      if !a.2 then a.1.sampleLost g.1 l f t else a.1.forward l f t g.1
  else
    let q := d.wholeFrame l f fcs t
    if !q.2 then q.1
    else
      let d := (q.1.larderWrites l (q.1.vcIn l f) f.flits).passFlits l (q.1.vcIn l f) f.flits true
      let e := f.ext.getD {}
      let reason := bytesFrom f.payload 0 1
      if reason = 0 ∨ 13 < reason then d.count 0x2E06 l
      else match d.nackTarget l e with
      | some (h, x) => (d.applyNack h x e f.payload).retryNacks
      | none => d.raiseCtx 0x6011 e.ctx e.gen e.chunk

/-- MEMBER_ABSENT_NOTICE: the oldest notice in flight to a home Crate arrives: counted with event 0x6003, or discarded
where the context is FREE or PARKED (R188). -/
def Dev.memberAbsent (d : Dev) (n : Nat) : Dev :=
  match d.deliver n (fun m => match m with | .memberAbsent _ _ _ _ _ => true | _ => false) with
  | some (.memberAbsent _ ctx gen chunk port, d) =>
    match d.ctxAt ctx with
    | some x =>
      if x.holds then (d.modCtx ctx (fun x => { x with absent := wrapAdd 64 x.absent 1 })).raiseCtx 0x6003 ctx gen chunk port
      else d
    | none => d
  | _ => d

end Sys2Proof.Machine
end

