-- ==== Sys2Proof/Machine/CtxCmds.lean ====
section
/-! DEFINITION. What is done to contexts: installs, commands, timeouts, plan switches, remaps, the accumulate engine and the
shadow partner (R169 to R175, R182, R186, R216, R222 to R225, R239, R360 to R363). -/

namespace Sys2Proof.Machine

/-! ## Resources of a record (R171, R175, R189, R217) -/

/-- The crate set in force for an install or an ARM from PARKED: remap targets in place of the Crates they serve (R225). -/
def Dev.placedCrates (d : Dev) (r : Nat) : List Nat :=
  (rCrates r).map (fun n => let t := d.cfg (0x6380 + n) 2; if t = 0xFF then n else t)

/-- The result account that a Crate has under the value in force and the one committed: the lesser (R217). -/
def Dev.accountCells (d : Dev) (n : Nat) : Nat := min (d.cfgAt n 0x4000 3) (d.targetIn d.inv.base (ad 0x4000 3))

/-- Times a list names a Crate. -/
def timesIn (l : List Nat) (n : Nat) : Nat := (l.filter (fun c => decide (c = n))).length

/-- The refusal code for want of resources: limits of R169, Shelf slots, upward share, spill space; 0 for none (R171). -/
def Dev.resourceCode (d : Dev) (r : Nat) : Nat :=
  let cs := d.placedCrates r
  if d.homeCount (rHome r) ≥ 128 then 9
  else if d.activeCount ≥ 16384 then 0xA
  else if cs.any (fun n => decide (d.freeSlots n < timesIn cs n * slotQuota r)) then 8
  else if upwardShare r ≠ 0 ∧ cs.any (fun n =>
      decide (d.accountCells n < d.shareCells n + timesIn cs n * upwardShare r + 17)) = true then 0xF
  else if (d.spillFor r cs).isNone then 0xC
  else 0

/-! ## Slots taken from shadow groups (R361) -/

/-- Puts slots to be zeroed on the Shelf groups of a position, the highest group first. -/
def zeroGroups (x : Context) (p per : Nat) : Nat → Nat → Context
  | 0, _ => x
  | _, 0 => x
  | left, k + 1 =>
    let key := groupKey p k
    let c := min left per
    if left ≤ per then x.putGroup key { x.group key with zeroing := c }
    else zeroGroups (x.putGroup key { x.group key with zeroing := c }) p per (left - c) k

/-- The oldest of a list of shadow groups whose slots come to at least a number. -/
def shadowVictims : List Shadow → Nat → List Shadow
  | [], _ => []
  | v :: t, need => if need = 0 then [] else v :: shadowVictims t (need - v.slots)

/-- A shadow whose shadow group is abandoned for its slots: what the partner has computed already is still compared (R361). -/
def Shadow.claimed (s : Shadow) : Shadow :=
  { s with slots := 0, ended := true, msgs := [], own := s.own.take s.theirs.length, theirs := s.theirs.take s.own.length }

/-- A context's reservation on the Crate of a position takes the slots that shadow groups hold there: they are
abandoned and counted as skipped, and the slots are to be zeroed (R361). -/
def Dev.claimAt (d : Dev) (ctx p n : Nat) : Dev :=
  let need := d.shadowSlots n - d.freeSlots n
  if need = 0 then d
  else
    let victims := shadowVictims (d.shadows.filter (fun s => decide (s.partner = n ∧ s.slots > 0))) need
    let d := victims.foldl (fun (d : Dev) v =>
      d.modCrate v.crate (fun c => { c with shadowSkips := wrapAdd 64 c.shadowSkips 1 })) d
    let left := d.shadows.map (fun (s : Shadow) => if s ∈ victims then s.claimed else s)
    { d with shadows := left.filter (fun s => !s.over_) }.modCtx ctx (fun x =>
      zeroGroups x p (chunkSlots x.record) need (rG x.record))

/-- Takes slots from shadow groups on every Crate of a context's crate set (R361). -/
def Dev.claimSlots (d : Dev) (ctx : Nat) : Dev :=
  match d.ctxAt ctx with
  | none => d
  | some x => (List.range x.crates.length).foldl (fun d p => d.claimAt ctx p (x.crates.getD p 0)) d

/-! ## Installs and commands (R171 to R173) -/

/-- The ports of a group's map, by their first lanes. -/
def Dev.groupPorts (d : Dev) (g : Nat) : List Nat := setBits 1024 (d.cfg (0x5400 + g / 64) (g % 64 + 1))

/-- A group is a row group: ring ports alone, at most one of each direction (R118). -/
def Dev.isRowGroup (d : Dev) (g : Nat) : Bool :=
  let of_ := fun (r : Nat) => ((d.groupPorts g).filter (fun m => decide (d.role m = r))).length
  decide (of_ 2 ≤ 1 ∧ of_ 3 ≤ 1 ∧ of_ 2 + of_ 3 = (d.groupPorts g).length)

/-- The refusal code of an install record: its fields, the row group it names among them; 0 where it is right (R118, R170, R171,
R213). -/
def Dev.recordFault (d : Dev) (r : Nat) : Nat :=
  if (rRow r).any (fun g => !(d.isRowGroup g)) then 4 else recordCode r

/-- The refusal code of an install; 0 where it is accepted (R171). -/
def Dev.installCode (d : Dev) (r : Nat) : Nat :=
  let rc := d.recordFault r
  if rc ≠ 0 then rc
  else match d.ctxAt (rCtx r) with
    | some x => if x.state = .installed ∧ x.record = r then 0 else 1
    | none => d.resourceCode r

/-- A context that holds its resources, from its record (R171, R225). -/
def Dev.seated (d : Dev) (r : Nat) : Context :=
  let cs := d.placedCrates r
  { record := r, state := .installed, crates := cs, spill := (d.spillFor r cs).getD [] }

/-- Installs a context at its commit step (R171): an identical record of an INSTALLED context changes nothing. -/
def Dev.installApply (d : Dev) (r : Nat) : Dev :=
  match d.ctxAt (rCtx r) with
  | some _ => d
  | none => (d.putCtx (rCtx r) (some (d.seated r))).claimSlots (rCtx r)

/-- A context whose drain has nothing to wait for. A DRAINING context of the device always has a busy slot; among the
contexts as they will stand at a commit step, this is one that an earlier sealed commit retires and that no slot holds
back (DEDUCED from R172 and R174; assumption 43). -/
def Context.drained (x : Context) : Bool :=
  decide (x.state = .draining) && !(x.groups.cells.any (fun p => p.2.busy))

/-- The refusal code of an ARM; 0 where it is accepted (R173). -/
def Dev.armCode (d : Dev) (ctx gen : Nat) : Nat :=
  match d.ctxAt ctx with
  | none => 2
  | some x =>
    if x.state = .installed then 0
    else if x.state = .parked then d.resourceCode x.record
    else if x.state = .armed ∧ x.armGen = gen ∧ x.touched = false then 0
    else if x.drained then (if x.park then 0 else 2)
    else 3

/-- The groups of an arming: only the zeroing of their slots goes on. -/
def freshGroups (t : Tab Group) : Tab Group := t.mapAll {} (fun _ g => { zeroing := g.zeroing })

/-- The template of a PARKED context is lost: the context is FREE, what is held for it is refused, and event 0x9006 names the
stack, the partition and the context (R182, R244, Table 10-2). -/
def Dev.templateLost (d : Dev) (ctx t : Nat) : Dev :=
  ((d.refuseAllHeld ctx).putCtx ctx none).raise 0x9006 (templateStack t) 2 ctx

/-- ARM at its commit step: generation, alive values and chunk groups set, held contributions taken (R173, R176, R183). A
template on a FAILED stack is lost (R242). -/
def Dev.armApply (d : Dev) (ctx gen : Nat) : Dev :=
  match d.ctxAt ctx with
  | none => d
  | some x =>
    if x.state = .parked ∧ (d.stack (templateStack x.template)).status = .failed then d.templateLost ctx x.template
    else if x.state = .installed ∨ x.state = .parked then
      let d := if x.state = .parked then
          (d.putCtx ctx (some { d.seated x.record with record := x.record })).claimSlots ctx
        else d
      (d.modCtx ctx (fun x => { x with state := .armed, gc := gen, armGen := gen, alive := {}, touched := false
                                       groups := freshGroups x.groups, done := {}, upAlive := 0 })).takeHeld ctx
    else d

/-- The refusal code of a RESET; 0 where it is accepted (R173). -/
def Dev.resetCode (d : Dev) (ctx : Nat) : Nat :=
  match d.ctxAt ctx with
  | none => 2
  | some x => if x.state = .armed ∨ x.state = .active ∨ x.state = .faulted then 0
    else if x.drained && !x.park then 2 else 3

/-- A group at a RESET: EMITTING finishes, OPEN and COMPLETE are abandoned, a spill group after the engine has cleared it (R173,
R239). -/
def resetGroup (r key : Nat) (g : Group) : Group :=
  if g.state = .emitting then { g with stale := true, next := none }
  else if g.busy then
    if rSpilled r key then { g with stale := true, next := none, clearing := true, acks := [], round := {}, waiting := [] }
    else { zeroing := g.zeroing }
  else { zeroing := g.zeroing }

/-- RESET at its commit step (R173). -/
def Dev.resetApply (d : Dev) (ctx gen : Nat) : Dev :=
  match d.ctxAt ctx with
  | none => d
  | some x =>
    if x.state = .armed ∨ x.state = .active ∨ x.state = .faulted then
      let opens := x.groups.cells.filterMap (fun p => if (p.2.state = .opened ∨ p.2.state = .complete) ∧ !p.2.stale then some p.1 else none)
      let d := opens.foldl (fun (d : Dev) k => (d.abandonRound ctx k).dropShadow ctx k) (d.dropWaiting ctx)
      d.modCtx ctx (fun x => { x with state := .armed, gc := gen, armGen := gen, alive := {}, touched := false
                                      groups := x.groups.mapAll {} (resetGroup x.record), done := {}, upAlive := 0 })
    else d

/-- Contexts PARKED or draining towards PARKED. -/
def Dev.templatesDue (d : Dev) : Nat :=
  (d.ctxs.filter (fun p => decide (p.2.state = .parked) || (decide (p.2.state = .draining) && p.2.park))).length

/-- The refusal code of a RETIRE-PARK or a RETIRE-FREE; 0 where it is accepted (R173). -/
def Dev.retireCode (d : Dev) (ctx : Nat) (park : Bool) : Nat :=
  match d.ctxAt ctx with
  | none => if park then 2 else 0
  | some x =>
    if park && x.drained && !x.park then 2
    else if park && !(decide (x.state = .parked) || (decide (x.state = .draining) && x.park)) &&
        decide (d.templatesDue ≥ d.templateCapacity) then 0xB
    else 0

/-- RETIRE-PARK and RETIRE-FREE at their commit step (R173, R182). -/
def Dev.retireApply (d : Dev) (ctx : Nat) (park : Bool) : Dev :=
  match d.ctxAt ctx with
  | none => d
  | some x =>
    if x.state = .parked then
      if park then d else (d.refuseAllHeld ctx).putCtx ctx none
    else
      let d := if x.state = .installed then d.refuseAllHeld ctx else d.dropWaiting ctx
      (d.modCtx ctx (fun x => { x with state := .draining, park := park })).settleCtx ctx

/-- Records a refusal in 0x6000:05 with event 0x6005: a slot and a code (R171, R173, R192). -/
def Dev.ctxRefused (d : Dev) (slot code ctx gen : Nat) : Dev :=
  { d with inv := { d.inv with ctxRefusal := slot * 2 ^ 24 + code } }.raiseCtx 0x6005 ctx gen code

/-- INSTALL: a commit that carries one install record in slot 1 (R171). -/
def Dev.install (d : Dev) (record : Nat) : Dev :=
  let r := cleanRecord record
  let code := d.installCode r
  if code = 0 then d.installApply r else d.ctxRefused 1 code (rCtx r) 0

/-- A command in command slot 1, with its refusal code and its effect (R173). -/
def Dev.ctxCommand (d : Dev) (ctx gen code : Nat) (f : Dev → Dev) : Dev :=
  if ctx = 0 then d.ctxRefused 0x41 4 ctx gen
  else if code = 0 then f d else d.ctxRefused 0x41 code ctx gen

/-- ARM (R173). -/
def Dev.arm (d : Dev) (ctx gen : Nat) : Dev := d.ctxCommand ctx gen (d.armCode ctx gen) (fun d => d.armApply ctx gen)
/-- RESET (R173). -/
def Dev.resetCtx (d : Dev) (ctx gen : Nat) : Dev := d.ctxCommand ctx gen (d.resetCode ctx) (fun d => d.resetApply ctx gen)
/-- RETIRE-PARK and RETIRE-FREE (R173). -/
def Dev.retireCtx (d : Dev) (ctx : Nat) (park : Bool) : Dev :=
  d.ctxCommand ctx 0 (d.retireCode ctx park) (fun d => d.retireApply ctx park)

/-! ## Timeouts (R186, R216) -/

/-- STRAGGLER_TIMEOUT: the timer of an OPEN group expires: a partial result, a fault, or in a DRAINING context an
abandonment (R186). -/
def Dev.straggler (d : Dev) (ctx key : Nat) : Dev :=
  match d.ctxAt ctx with
  | none => d
  | some x =>
    let r := x.record
    let g := x.group key
    if g.state ≠ .opened ∨ g.clearing = true ∨ g.stale = true then d
    else if rPartial r && decide (g.round.added ≥ rQuorum r) then
      (d.raiseCtx 0x6002 ctx g.gen g.chunk).complete ctx key ⟨d.now, 0⟩
    else d.faultGroup ctx key (if rPartial r then 2 else 1)

/-- UPWARD_CONTRIBUTION_TIMEOUT: the straggler timeout passes from the latest transmission of a held upward
contribution: freed, counted, event 0x6012 (R216). -/
def Dev.upwardTimeout (d : Dev) (ctx gen chunk : Nat) : Dev :=
  ((d.upwardOf ctx (some (gen, chunk))).foldl (fun (d : Dev) h =>
    if (d.heldAt h).any (·.gone) then d.abandonUpward ctx h else d) d).retryNacks

/-! ## The accumulate engine (R239) -/

/-- ENGINE_ACKNOWLEDGEMENT: the engine has added the oldest contribution of a spill group; the group is COMPLETE when it
was the last member's (R239, Table 13-1). -/
def Dev.engineAck (d : Dev) (ctx key : Nat) : Dev :=
  match d.ctxAt ctx with
  | none => d
  | some x =>
    let g := x.group key
    match g.acks with
    | [] => d
    | s :: rest =>
      if g.state ≠ .opened ∨ g.clearing = true then d
      else
        let d := d.modGroup ctx key (fun g => { g with acks := rest })
        if (d.stack (x.spillStack key)).status = .failed then d.faultGroup ctx key 4
        else if rest.isEmpty && g.round.filled x.record then d.complete ctx key s else d

/-- SPILL_GROUP_CLEAR_DONE: the engine has cleared an abandoned spill group, which returns to RELEASED (R239). -/
def Dev.spillCleared (d : Dev) (ctx key : Nat) : Dev :=
  match d.ctxAt ctx with
  | none => d
  | some x =>
    if (x.group key).clearing then
      (d.modGroup ctx key (fun g => { g with clearing := false })).releaseGroup ctx key
    else d

/-! ## Plans (R221 to R223) -/

/-- A change of plan: the count restarts, the switch is counted and event 0x6010 carries the new plan (R223). -/
def Dev.planChanged (d : Dev) (ctx : Nat) (b : Bool) : Dev :=
  (d.modCtx ctx (fun x => { x with hold := 0, switchDue := false, switches := wrapAdd 64 x.switches 1 })).raiseCtx 0x6010 ctx
    (((d.ctxAt ctx).map (·.gc)).getD 0) (b2n b)

/-- PLAN_SWITCH: a switch under level balance that is due takes effect (R223). -/
def Dev.planSwitch (d : Dev) (ctx : Nat) : Dev :=
  match d.ctxAt ctx with
  | none => d
  | some x =>
    if x.switchDue && x.override.isNone && decide (rPolicy x.record = 1) then
      (d.modCtx ctx (fun x => { x with onB := !x.onB })).planChanged ctx (!x.onB)
    else d.modCtx ctx (fun x => { x with switchDue := false })

/-- A plan override is refused: the context is FREE or PARKED, or plan B is forced on a context of one plan (Table 09-8). -/
def Dev.overrideRefused (d : Dev) (ctx : Nat) (v : Option Bool) : Bool :=
  match d.ctxAt ctx with
  | none => true
  | some x => !x.holds || (decide (v = some true) && !(rTwo x.record))

/-- A plan override at its commit step: the plan it forces, or none for the installed policy (R223). -/
def Dev.overrideApply (d : Dev) (ctx : Nat) (v : Option Bool) : Dev :=
  match d.ctxAt ctx with
  | none => d
  | some x =>
    let y := { x with override := v, switchDue := false }
    let d := d.putCtx ctx (some y)
    if y.planB = x.planB then d else d.planChanged ctx y.planB

/-- PLAN_OVERRIDE_FORCE_A, PLAN_OVERRIDE_FORCE_B and PLAN_OVERRIDE_RETURN: a commit that carries the override alone. -/
def Dev.planOverride (d : Dev) (ctx : Nat) (v : Option Bool) : Dev :=
  if d.overrideRefused ctx v then d else d.overrideApply ctx v

/-- A whole step, in the units in which shares of a step are kept: a multiple of what a lane carries in a step of any length from 1
to 64 µs at either payload rate, so that no busy fraction is rounded before its mean is taken (R222, R298, R387). -/
def wholeStep : Nat := 6000000 * 1182266884102822267511361600

/-- Mean of busy fractions, as an integer from 0 to 255 (R222). -/
def levelOf (l : List Nat) : Nat :=
  let s := l.foldl (fun (a : Nat) b => a + b) 0
  if l.isEmpty then 0 else min 255 (s * 256 / (l.length * wholeStep))

/-- Lanes whose transmit busy fraction makes the outbound level of a context (R222). -/
def Dev.outboundLanes (d : Dev) (r : Nat) : List Nat :=
  if rRole r = 1 then (d.linkSet (rUp r) (some (rPlan r false).link)).flatMap d.carryingLanes
  else
    let gs := (rPlan r false).group :: (rRow r).toList
    ((d.allPorts.map (·.1)).filter (fun p => gs.any (fun g => d.isMember g 0 p))).flatMap d.portLanes

/-- Leaf-facing lanes that carry data. -/
def Dev.leafLanes (d : Dev) : List Nat :=
  (d.lanes.cells.map (·.1)).filter (fun l => !(d.isRing l) && d.carries l)

/-- The inbound level: mean receive busy fraction of the leaf-facing lanes that carry data (R222). -/
def Dev.inboundLevel (d : Dev) : Nat := levelOf (d.leafLanes.map (fun l => (d.egress l).busyRx))

/-- The levels of every context under plan policy 1, and the consecutive steps that meet its pending condition (R222,
R223). -/
def Dev.computeLevels (d : Dev) : Dev :=
  let bi := d.inboundLevel
  d.ctxs.foldl (fun (d : Dev) p =>
    let x := p.2
    let r := x.record
    if rPolicy r ≠ 1 ∨ x.holds = false then d
    else
      let bo := levelOf ((d.outboundLanes r).map (fun l => (d.egress l).busyTx))
      let met := if x.onB then decide (bo ≤ rLow r) else decide (bo ≥ rHigh r ∧ bi ≤ rLow r)
      let hold := if x.override.isNone && met then min 65535 (x.hold + 1) else 0
      d.putCtx p.1 (some { x with bo := bo, bi := bi, hold := hold, switchDue := decide (hold ≥ rHold r ∧ hold ≠ 0) })) d

/-! ## Remap (R225) -/

/-- Contexts with work on a Crate: ID, context and position. -/
def Dev.workOn (d : Dev) (n : Nat) : List (Nat × Context × Nat) :=
  d.ctxs.filterMap (fun p =>
    if p.2.holds then (p.2.crates.findIdx? (fun c => decide (c = n))).map (fun i => (p.1, p.2, i)) else none)

/-- Contexts that a remap of a Crate still concerns (0x6380+n:03). -/
def Dev.remapPending (d : Dev) (n : Nat) : Nat :=
  (d.ctxs.filter (fun p => p.2.moving.any (fun m => decide (p.2.crates.getD m.1 0 = n)))).length

/-- Spill groups for the contexts of a remap on the target's die, context by context; none where space lacks. -/
def Dev.remapSpill (d : Dev) (t : Nat) (work : List (Nat × Context × Nat)) : Option (List (Nat × List SpillRun)) :=
  work.foldl (fun (a : Option (List (Nat × List SpillRun))) w =>
    match a with
    | none => none
    | some l =>
      let scratch := l.foldl (fun (d : Dev) q => d.modCtx q.1 (fun x => { x with spill := x.spill ++ q.2 })) d
      let s := scratch.spillPlan (w.2.2 + 128) t (rGs w.2.1.record) (spillKiB w.2.1.record) []
      if s.1 = 0 then some (l ++ [(w.1, s.2)]) else none) (some [])

/-- A commit of a remap is refused (R225, Table 09-8). -/
def Dev.remapRefused (d : Dev) (n t : Nat) : Bool :=
  if d.remapping n then decide (t ≠ d.cfg (0x6380 + n) 2)
  else if t = 0xFF ∨ t = d.cfg (0x6380 + n) 2 then false
  else
    let work := d.workOn n
    let slots := work.foldl (fun (a : Nat) w => a + slotQuota w.2.1.record) 0
    let share := work.foldl (fun (a : Nat) w => a + upwardShare w.2.1.record) 0
    decide (t = n) || decide (d.cfg (0x6380 + t) 2 ≠ 0xFF) ||
      allCrates.any (fun m => decide (d.cfg (0x6380 + m) 2 = n)) ||
      work.any (fun w => decide (t ∈ w.2.1.crates)) || decide (d.freeSlots t < slots) ||
      (decide (share ≠ 0) && decide (d.accountCells t < d.shareCells t + share + 17)) || (d.remapSpill t work).isNone

/-- A remap at its commit step: the target reserves, groups that are RELEASED move, the others follow (R225). -/
def Dev.remapApply (d : Dev) (n t : Nat) : Dev :=
  if t = 0xFF then d
  else
    let work := d.workOn n
    let spill := (d.remapSpill t work).getD []
    if work.isEmpty then d.remapDone n
    else work.foldl (fun (d : Dev) w =>
      let sp := ((spill.find? (fun q => decide (q.1 = w.1))).map (·.2)).getD []
      let d := d.modCtx w.1 (fun x =>
        let busy := x.groups.cells.filterMap (fun p =>
          if keyPos p.1 = w.2.2 ∧ p.2.busy = true then some (keyGroup p.1) else none)
        { x with moving := x.moving ++ [(w.2.2, t, busy)], spill := x.spill ++ sp })
      (d.claimAt w.1 w.2.2 t).finishMoves w.1) d

/-- REMAP_GROUP_MOVE: a chunk group that is RELEASED after a remap moves to the target (R225). -/
def Dev.groupMove (d : Dev) (ctx key : Nat) : Dev :=
  match d.ctxAt ctx with
  | none => d
  | some x =>
    if (x.group key).busy || !(x.moving.any (fun m => decide (m.1 = keyPos key ∧ keyGroup key ∈ m.2.2))) then d
    else d.moveGroup ctx key

/-! ## Shadow checking (R361 to R363) -/

/-- Changes the first of a list that a test picks. -/
def modFirst {α : Type} (test : α → Bool) (f : α → α) : List α → List α
  | [] => []
  | a :: t => if test a then f a :: t else a :: modFirst test f t

/-- The oldest shadow of a group that a test picks. -/
def Dev.firstShadow (d : Dev) (ctx key : Nat) (test : Shadow → Bool) : Option Shadow :=
  d.shadows.find? (fun s => decide (s.ctx = ctx ∧ s.key = key) && test s)

/-- Changes the oldest shadow of a group that a test picks; one of which nothing is left goes. -/
def Dev.onShadow (d : Dev) (ctx key : Nat) (test : Shadow → Bool) (f : Shadow → Shadow) : Dev :=
  let all := modFirst (fun (s : Shadow) => decide (s.ctx = ctx ∧ s.key = key) && test s) f d.shadows
  { d with shadows := all.filter (fun s => !s.over_) }

/-- The next message of a shadow is a copy. -/
def Shadow.copyNext (s : Shadow) : Bool := match s.msgs with | .copy _ :: _ => true | _ => false
/-- The next message of a shadow is a completion notice. -/
def Shadow.noticeNext (s : Shadow) : Bool := match s.msgs with | .notice :: _ => true | _ => false

/-- SHADOW_COPY: the oldest copy on its way reaches the partner on VN2 and is added to the shadow group (R361). -/
def Dev.shadowCopy (d : Dev) (ctx key : Nat) : Dev :=
  match d.firstShadow ctx key Shadow.copyNext with
  | none => d
  | some s => (d.trip 2 s.crate s.partner).onShadow ctx key Shadow.copyNext (fun s =>
      match s.msgs with
      | .copy c :: t => { s with msgs := t, round := (s.round.add s.record c).1 }
      | _ => s)

/-- The partner computes its values of a round, and keeps the round's successor, or ends its group (R167, R362). -/
def Shadow.emitted (s : Shadow) : Shadow :=
  let r := s.record
  let out := s.round.outputs r s.gen s.chunk (Config.unstatedPayload (rCtx r) s.gen s.chunk) (emitPlan r s.round.phase s.planB)
  let counts := plusCounts s.round.counts out.2.list
  let vals : ShadowVal := ⟨s.round.finger, crc64we (out.1.flatMap (·.payload)), counts⟩
  let s := { s with theirs := s.theirs ++ [vals] }
  let due := s.msgs.any (fun m => decide (m = .notice))
  match nextPhase s.round.phase with
  | some ph => { s with round := openRound r ph (some { s.round with counts := counts }), slots := if s.ended && !due then 0 else s.slots }
  | none => { s with slots := 0 }

/-- SHADOW_COMPLETION_NOTICE: the completion notice reaches the partner on VN2, behind the copies; the partner completes the shadow
group and sends its values (R361, R362). -/
def Dev.shadowNotice (d : Dev) (ctx key : Nat) : Dev :=
  match d.firstShadow ctx key Shadow.noticeNext with
  | none => d
  | some s => (d.trip 2 s.crate s.partner).onShadow ctx key Shadow.noticeNext (fun s =>
      match s.msgs with
      | .notice :: t => { s with msgs := t }.emitted
      | _ => s)

/-- The conditions of a Crate for a shadow mismatch record: temperature, island voltage, clock, issue slots (Table 16-4).
The island voltage is a free value: no rule states it. -/
def Dev.conditions (d : Dev) (n : Nat) : Nat × Dev :=
  let q := d.draw
  let slots := if d.cfg (0x6380 + n) 1 = 0 then 4 else if d.cfg (0x6380 + n) 1 = 1 then 2 else 1
  (packBits [(16, (d.crate n).temp), (16, q.1), (16, (d.crate n).freq), (8, slots), (8, 0)], q.2)

/-- Writes a shadow mismatch record, newest first, the latest 16 kept (R362, Table 16-4). -/
def Dev.shadowRecord (d : Dev) (s : Shadow) (own theirs : ShadowVal) (withheld : Bool) : Dev :=
  let a := d.conditions s.crate
  let b := a.2.conditions s.partner
  let v := packBits [(8, s.gen), (24, s.ctx), (32, s.chunk), (8, s.crate), (8, s.partner), (8, b2n withheld), (8, 0), (64, a.1),
    (64, b.1), (64, own.operand), (64, theirs.operand), (64, own.result), (64, theirs.result), (32, 0)]
  { b.2 with shadowRecs := (v :: b.2.shadowRecs).take 16 }

/-- A chunk has a mismatch: record, count, event 0x6023, both Crates suspect; under policy 1 it is abandoned without a result and
its context faults with reason 3 (R362, R363). -/
def Dev.shadowMismatch (d : Dev) (s : Shadow) (own theirs : ShadowVal) : Dev :=
  let hold := decide (d.cfg 0x6500 3 = 1)
  let d := (d.shadowRecord s own theirs hold).modCrate s.crate (fun c => { c with shadowBad := wrapAdd 64 c.shadowBad 1 })
  let d := d.raiseCtx 0x6023 s.ctx s.gen s.chunk (s.crate * 256 + s.partner)
  let d := (d.setHealth s.crate 1).setHealth s.partner 1
  match d.ctxAt s.ctx with
  | none => d
  | some x =>
    let g := x.group s.key
    if hold && decide (g.state = .emitting ∧ g.gen = s.gen ∧ g.chunk = s.chunk) then
      (((d.abandonRound s.ctx s.key).dropShadow s.ctx s.key).faultCtx s.ctx 3 g.gen (some g.chunk)).releaseGroup s.ctx s.key
    else d

/-- A shadow has values of both Crates to compare. -/
def Shadow.comparable (s : Shadow) : Bool := !s.theirs.isEmpty && !s.own.isEmpty

/-- SHADOW_VALUES: the partner's values reach the reducing Crate on VN1 and are compared with its own, the numeric counts of the
chunk among them (R167, R362, R363). The errors are what a faulty Combiner, engine or path has changed in the partner's values, as
XOR masks of the two fingerprints. -/
def Dev.shadowValues (d : Dev) (ctx key operandError resultError : Nat) : Dev :=
  match d.firstShadow ctx key Shadow.comparable with
  | none => d
  | some s =>
    match s.own, s.theirs with
    | a :: _, b0 :: _ =>
      let b : ShadowVal := { b0 with operand := b0.operand ^^^ operandError % 2 ^ 64, result := b0.result ^^^ resultError % 2 ^ 64 }
      let d := (d.trip 1 s.partner s.crate).onShadow ctx key Shadow.comparable (fun s =>
        { s with own := s.own.drop 1, theirs := s.theirs.drop 1 })
      if a = b then d.modCrate s.crate (fun c => { c with shadowGood := wrapAdd 64 c.shadowGood 1 })
      else d.shadowMismatch s a b
    | _, _ => d

/-- The frame of a contribution that waits at C1 has turned bad, so it is discarded unadded (R91). -/
def Dev.struck (d : Dev) (c : Contrib) : Bool := (c.held.bind d.heldAt).any (·.bad)

/-- SHELF_SLOT_ZEROED: a slot taken from a shadow group has been zeroed; with the last one of its group, contributions that
wait at C1 are added in order (R361). -/
def Dev.slotZeroed (d : Dev) (ctx key : Nat) : Dev :=
  match d.ctxAt ctx with
  | none => d
  | some x =>
    let g := x.group key
    if g.zeroing = 0 then d
    else
      let d := d.modGroup ctx key (fun g => { g with zeroing := g.zeroing - 1 })
      if g.zeroing > 1 ∨ g.waiting = [] then d
      else
        match d.nextChunk x key with
        | none => d
        | some (gen, o) =>
          let r := x.record
          let chunk := d.spine + rS r * (keyPos key + rK r * o) - rBase r
          let good := g.waiting.filter (fun c => !(d.struck c))
          let d := (g.waiting.filter d.struck).foldl (fun (d : Dev) c => d.consume c) (d.modGroup ctx key (fun g => { g with waiting := [] }))
          if good.isEmpty then d else good.foldl (fun (d : Dev) c => d.addToGroup ctx key c) (d.openGroup ctx key gen chunk)

end Sys2Proof.Machine
end

