-- ==== Sys2Proof/Machine/Cellar.lean ====
section
/-! DEFINITION. The Cellar stacks: layout, errors and their outcomes, scrubbing, a failed stack (R228 to R245). -/

namespace Sys2Proof.Machine

/-- The sizes in KiB of a stack's partitions in the order of R231. -/
def Dev.partitions (d : Dev) (k : Nat) : List Nat :=
  [if k < 2 then 8388608 else 0, stackShare (if d.cfg 0x9000 1 = 1 then 256 else 0) k, stackShare (d.cfg 0x9000 2) k,
   stackShare (1024 * d.cfg 0x9000 3) k, 1024 * d.cfg (0x9010 + k) 1, d.spillSize k]

/-- The partition that a byte offset of a stack lies in, and its offset there: 0 Attic memory, 1 flow contexts, 2 templates,
3 telemetry, 4 queues and replay, 5 spill, 6 none (R231). -/
def partitionAt : List Nat → Nat → Nat → Nat × Nat
  | [], i, off => (i, off)
  | p :: t, i, off => if off < p * 1024 then (i, off) else partitionAt t (i + 1) (off - p * 1024)

/-- The byte of an interleaved partition at an offset of a stack's share (R232). -/
def interleaved (k off : Nat) : Nat := (off / 4096 * 12 + k) * 4096 + off % 4096

/-! ## The telemetry archive's layout (R379, R386) -/

/-- Bytes of the sample ring. -/
def Dev.sampleBytes (d : Dev) : Nat := d.cfg 0xA000 6 * 2 ^ 30
/-- Snapshot records that the snapshot ring holds (R379). -/
def Dev.snapCapacity (d : Dev) : Nat := (d.cfg 0x9000 3 * 2 ^ 30 - d.sampleBytes - 2 ^ 20) / 2 ^ 22

/-- Event 0xA002 for a record struck by an error, with the step concerned (R379, R386, R393). -/
def Dev.recordStruck (d : Dev) (step : Nat) : Dev := d.raise 0xA002 0 0 step

/-- The latest snapshot step: that of the newest valid record (Table 17-10). -/
def newestValid (l : List Snap) : Nat := match l.find? (fun s => s.valid) with | some s => s.step | none => 0

/-- The j-th newest snapshot record is struck: its Valid bit is clear and the invalid count rises, at every error (R379, R393). -/
def Dev.strikeSnap (d : Dev) (j : Nat) : Dev :=
  match d.tele.ring[j]? with
  | some s =>
    let ring := listSet d.tele.ring j { s with valid := false }
    ({ d with tele := { d.tele with
        ring := ring, invalid := wrapAdd 64 d.tele.invalid 1, latest := newestValid ring } }).recordStruck s.step
  | none => d

/-- The j-th newest congestion map is struck (R387, Table 17-9). -/
def Dev.strikeMap (d : Dev) (j : Nat) : Dev :=
  match d.tele.maps[j]? with
  | some m => ({ d with tele := { d.tele with maps := listSet d.tele.maps j { m with valid := false } } }).recordStruck m.endStep
  | none => d

/-- The sample records that a test of their place picks are struck: kind 0, and event 0xA002 for each with the current step
(R386, R393). -/
def Dev.strikeSamples (d : Dev) (test : Nat → Bool) : Dev :=
  let cap := d.sampleCapacity
  let hit := d.tele.samples.filter (fun s => test (s.index % cap))
  hit.foldl (fun (d : Dev) _ => d.recordStruck d.step) { d with tele := { d.tele with
    samples := d.tele.samples.map (fun (s : Sample) => if test (s.index % cap) then { s with valid := false } else s) } }

/-- The record at a byte of the archive is struck (R379, R386): snapshot records stand in the ring in the order they were
taken, and map j of the newest four at 256 KiB × j of the map area (DESIGN CHOICE, assumption 35). -/
def Dev.strikeArchive (d : Dev) (b : Nat) : Dev :=
  if b < d.sampleBytes then d.strikeSamples (fun i => decide (i = b / 64))
  else if b < d.sampleBytes + 2 ^ 20 then d.strikeMap ((b - d.sampleBytes) / 2 ^ 18)
  else
    let n := d.snapCapacity
    let slot := (b - d.sampleBytes - 2 ^ 20) / 2 ^ 22
    let written := d.tele.taken - b2n d.tele.freeze.isSome
    match (List.range (min n written)).find? (fun j => decide ((written - 1 - j) % n = slot)) with
    | some j => d.strikeSnap j
    | none => d

/-! ## Outcomes of an uncorrectable error (R240, Table 10-2) -/

/-- The PARKED context whose template lies at a place loses it (Table 10-2). -/
def Dev.templateStruck (d : Dev) (t : Nat) : Dev :=
  match d.ctxs.find? (fun p => decide (p.2.state = .parked ∧ p.2.template = t)) with
  | some p => d.templateLost p.1 t
  | none => d

/-- Flow context i is poisoned, wherever it is held, event 0x9004 (Table 10-2). -/
def Dev.poisonFlow (d : Dev) (i : Nat) : Dev :=
  let mark := fun (f : Flow) => { f with poison := true }
  ({ d with flows := d.flows.upd {} i mark
            crates := d.crates.mapAll {} (fun _ c => { c with path := { c.path with
              cache := c.path.cache.map (fun p => if p.1 = i then (p.1, mark p.2) else p) } }) } : Dev).raisePoison i

/-- The spill groups of the contexts that hold one on a stack: context and key. -/
def Dev.spillKeys (d : Dev) (k : Nat) : List (Nat × Nat) :=
  d.ctxs.flatMap (fun p =>
    if p.2.holds && p.2.spill.any (fun s => decide (s.stack = k)) then
      (List.range p.2.crates.length).flatMap (fun pos => (List.range (rGs p.2.record)).filterMap (fun g =>
        let key := groupKey pos (rG p.2.record + g)
        if p.2.spillStack key = k then some (p.1, key) else none))
    else [])

/-- The spill group whose space holds a KiB of a stack's spill partition, counted from its top (R238). -/
def Dev.spillGroupAt (d : Dev) (k depth : Nat) : Option (Nat × Nat) :=
  (d.spillKeys k).find? (fun p => match d.ctxAt p.1 with
    | some x => (match x.spillPlace p.2 with
      | some q => decide (q.2 ≤ depth ∧ depth < q.2 + spillKiB x.record)
      | none => false)
    | none => false)

/-- A burst of the spill partition is struck: the context whose group lies there faults with reason 4 (Table 10-2). -/
def Dev.strikeSpill (d : Dev) (k off : Nat) : Dev :=
  match d.spillGroupAt k (d.spillSize k - off / 1024 - 1) with
  | some p => d.faultGroup p.1 p.2 4
  | none => d

/-- What the manual does not place in the queues-and-replay partition is struck: a frame of a Cellar ring becomes bad, a lane with
a replay buffer is reset (Table 10-2). -/
def Dev.strikeHit (d : Dev) (k : Nat) (hit : CellarHit) : Dev :=
  match hit with
  | .free => d
  | .frame h => if d.evictedTo h k then d.makeBad h else d
  | .replay l => if d.isRing l = true ∧ replayStack l = k then d.laneReset l else d

/-- An uncorrectable error at a byte of a stack: counted, event 0x9002, and the outcome of its partition (R240). -/
def Dev.cellarError (d : Dev) (k addr : Nat) (hit : CellarHit) : Dev :=
  let a := addr / 64 * 64
  let p := partitionAt (d.partitions k) 0 a
  let d := (d.modStack k (fun s => { s with fatal := wrapAdd 64 s.fatal 1 })).raise 0x9002 k p.1 a
  if p.1 = 0 then d.machineCheck
  else if p.1 = 1 then d.poisonFlow (interleaved k p.2 / 64)
  else if p.1 = 2 then d.templateStruck (interleaved k p.2 / 2048)
  else if p.1 = 3 then d.strikeArchive (interleaved k p.2)
  else if p.1 = 4 then d.strikeHit k hit
  else if p.1 = 5 then d.strikeSpill k p.2
  else d

/-- CELLAR_UNCORRECTABLE_ERROR on a stack that is READY (R240). -/
def Dev.cellarUncorrectable (d : Dev) (k addr : Nat) (hit : CellarHit) : Dev :=
  if (d.stack k).status = .ready ∧ addr < 2 ^ 35 then d.cellarError k addr hit else d

/-- SCRUB: a logic die reads the next burst of its stack: it is good (0), corrected (1) or uncorrectable (2); after the last
burst a pass is complete (R240, R241). -/
def Dev.scrub (d : Dev) (k ecc : Nat) (hit : CellarHit) : Dev :=
  let s := d.stack k
  if s.status ≠ .ready then d
  else
    let at_ := s.scrubAt
    let last := decide (at_ + 1 ≥ 2 ^ 29)
    let d := d.modStack k (fun s => { s with
      scrubAt := if last then 0 else at_ + 1, passes := if last then wrapAdd 64 s.passes 1 else s.passes })
    if ecc = 1 then
      let p := partitionAt (d.partitions k) 0 (64 * at_)
      let d := if p.1 = 0 then d.modAttic (fun a => { a with memCorrected := wrapAdd 64 a.memCorrected 1 }) else d
      (d.modStack k (fun s => { s with corrected := wrapAdd 64 s.corrected 1 })).raise 0x9001 k p.1 (64 * at_)
    else if ecc = 2 then d.cellarError k (64 * at_) hit
    else d

/-- A run of bytes of an interleaved partition touches a stack (R232). -/
def touches (k off len : Nat) : Bool :=
  (List.range (min 12 ((off + len - 1) / 4096 + 1 - off / 4096))).any (fun i => decide ((off / 4096 + i) % 12 = k))

/-- STACK_FAILED: a logic die reports a fatal fault: the stack is FAILED, what it held has the outcome of an uncorrectable
error, and the lanes whose replay or Cellar rings lie on it are held IDLE (R242). -/
def Dev.stackFailed (d : Dev) (k : Nat) : Dev :=
  if (d.stack k).status = .failed then d
  else
    let d := (d.modStack k (fun s => { s with status := .failed })).raise 0x9003 k
    let lost := d.ctxs.filterMap (fun p => if p.2.state = .parked ∧ templateStack p.2.template = k then some p.2.template else none)
    let d := lost.foldl (fun (d : Dev) t => d.templateStruck t) d
    let cached := (d.crates.cells.flatMap (fun p => p.2.path.cache.map (·.1))).eraseDups.filter (fun i => decide (flowStack i = k))
    let d := cached.foldl (fun (d : Dev) i => d.poisonFlow i) d
    let open_ := (d.spillKeys k).filter (fun p => match d.ctxAt p.1 with | some x => (x.group p.2).busy | none => false)
    let d := open_.foldl (fun (d : Dev) p => d.faultGroup p.1 p.2 4) d
    let frames := d.held.cells.filterMap (fun p => if p.2.isSome && d.evictedTo p.1 k then some p.1 else none)
    let d := frames.foldl (fun (d : Dev) h => d.makeBad h) d
    let d := (List.range d.tele.ring.length).foldl (fun (d : Dev) j => d.strikeSnap j) d
    let d := (List.range d.tele.maps.length).foldl (fun (d : Dev) j =>
      if touches k (d.sampleBytes + 2 ^ 18 * j) 17632 then d.strikeMap j else d) d
    let d := d.strikeSamples (fun i => decide (i * 64 / 4096 % 12 = k))
    let lanes := (d.lanes.cells.map (·.1)).filter (fun l => d.stackHolds l && (d.lane l).rx.lock)
    let d := lanes.foldl (fun (d : Dev) l => (d.dropLock l).evalLane l) d
    if k < 2 then d.machineCheck else d

end Sys2Proof.Machine
end

