-- ==== Sys2Proof/Machine/Power.lean ====
section
/-! DEFINITION. Power and heat: the power cap, the thermal loop, island frequencies (R18, R404 to R406). -/

namespace Sys2Proof.Machine

/-- The frequency that governs a Crate: the lowest of the nominal, the cap and its thermal frequency (R404). -/
def Dev.targetFreq (d : Dev) (n : Nat) : Nat := min (d.cfg 0x4880 1) (min d.power.cap (d.crate n).thermal)

/-- What limits a Crate: 0 nominal, 1 cap, 2 thermal (Table 18-9). -/
def Dev.limitCause (d : Dev) (n : Nat) : Nat :=
  let t := d.targetFreq n
  if d.cfg 0x4880 1 = t then 0 else if d.power.cap = t then 1 else 2

/-! ## Cycles of the islands (R101, R381, R382) -/

/-- Cycles of an island of a frequency in MHz in a time in 2⁻³² ns. -/
def cyclesIn (mhz t : Nat) : Nat := t * mhz / (1000 * 2 ^ 32)

/-- Cycles of a Crate's island since reset, following the time unit (DESIGN CHOICE, assumption 70). -/
def Dev.crateCycles (d : Dev) (n : Nat) : Nat :=
  let c := d.crate n
  c.cycles + cyclesIn c.freq (d.time.ran - c.cyclesAt)

/-- Issue slots that a derate leaves a Combiner (R224). -/
def Dev.issueSlots (d : Dev) (n : Nat) : Nat :=
  if d.cfg (0x6380 + n) 1 = 0 then 4 else if d.cfg (0x6380 + n) 1 = 1 then 2 else 1

/-- Issue-slot cycles that derates have removed since reset, with a number of slots left now (Table 17-5). -/
def Dev.removedWith (d : Dev) (n slots : Nat) : Nat :=
  let c := d.crate n
  c.slotsOff + cyclesIn c.freq (d.time.ran - c.cyclesAt) * (4 - slots)

/-- Issue-slot cycles that derates have removed since reset (Table 17-5). -/
def Dev.slotsRemoved (d : Dev) (n : Nat) : Nat := d.removedWith n (d.issueSlots n)

/-- The cycles of a Crate so far are taken, with the slots that were left in them, before its frequency or derate changes. -/
def Dev.takeCycles (d : Dev) (n slots : Nat) : Dev :=
  let a := d.crateCycles n
  let b := d.removedWith n slots
  d.modCrate n (fun c => { c with cycles := a, slotsOff := b, cyclesAt := d.time.ran })

/-- The Crates whose derate differs from what it was: the cycles until now had the slots it left (R224, R382). -/
def Dev.derated (d old : Dev) : Dev :=
  allCrates.foldl (fun (d : Dev) n => if old.issueSlots n = d.issueSlots n then d else d.takeCycles n (old.issueSlots n)) d

/-! ## Frequencies -/

/-- A Crate island moves one 25 MHz step towards the frequency that governs it, and the change is counted (R18, R404). -/
def Dev.stepFreq (d : Dev) (n : Nat) : Dev :=
  let t := d.targetFreq n
  let f := (d.crate n).freq
  if f = t then d
  else ((d.takeCycles n (d.issueSlots n)).modCrate n (fun c => { c with freq := if f < t then min t (f + 25) else max t (f - 25) })).count 0x4E01 n

/-- Every Crate island moves a step. -/
def Dev.stepFreqs (d : Dev) : Dev := allCrates.foldl (fun (d : Dev) n => d.stepFreq n) d

/-- POWER_MEASUREMENT: the package power in W and the rail powers in mW, against the power cap (R405). -/
def Dev.powerMeasured (d : Dev) (watts : Nat) (rails : List Nat) : Dev :=
  if d.attic.holding then d
  else
    let d := { d with power := { d.power with watts := watts % 65536, rails := (List.range 9).map (fun i => rails.getD i 0 % 2 ^ 32) } }
    let d := if watts > d.cfg 0x4880 2 then
        if d.power.cap ≤ 1000 then d.raise 0x4032 0
        else
          let bound := d.power.capBinds
          let d := { d with power := { d.power with cap := d.power.cap - 25, capBinds := true } }
          if bound then d else d.raise 0x4031 0
      else d
    d.stepFreqs

/-- POWER_CAP_RAISE: package power has stayed below 98 % of the cap for 1 ms (R405). -/
def Dev.capRaise (d : Dev) : Dev :=
  if d.attic.holding ∨ d.power.watts * 100 ≥ d.cfg 0x4880 2 * 98 then d
  else
    let cap := min 1800 (d.power.cap + 25)
    ({ d with power := { d.power with cap := cap, capBinds := d.power.capBinds && decide (cap < 1800) } }).stepFreqs

/-- HOT_SPOT_READING: a Crate's hot-spot sensor in 1/16 °C, against the throttle temperature (R406). -/
def Dev.hotSpot (d : Dev) (n temp : Nat) : Dev :=
  if d.attic.holding then d
  else
    let d := d.modCrate n (fun c => { c with temp := temp % 65536 })
    if toSigned 16 temp ≥ 16 * (d.cfg 0x4880 3 : Nat) then
      (((d.modCrate n (fun c => { c with thermal := max 1000 (c.thermal - 25) })).raise 0x4030 n).stepFreq n)
    else d.stepFreq n

/-- THERMAL_FREQUENCY_RAISE: a Crate has been 3 °C below the throttle temperature for 1 ms (R406). -/
def Dev.thermalRaise (d : Dev) (n : Nat) : Dev :=
  if d.attic.holding ∨ toSigned 16 (d.crate n).temp > 16 * ((d.cfg 0x4880 3 : Nat) - 3 : Int) then d
  else (d.modCrate n (fun c => { c with thermal := min 1800 (c.thermal + 25) })).stepFreq n

end Sys2Proof.Machine
end

