-- ==== Sys2Proof/Machine/Readers.lean ====
section
/-! DEFINITION. What a read of each RO entry returns, but for the wide reads of chapter 17 (the entry maps of every chapter),
and the digests (R320, R321). -/

namespace Sys2Proof.Machine

/-- The sum of the fields of a BLOB in order, each of a width in bits. -/
def fields (w : Nat) (l : List Nat) : Nat := packBits (l.map (fun x => (w, x)))

/-- The cycles, of a number of them from one on, in which something holds. -/
def countFrom (p : Nat → Bool) (a : Nat) : Nat → Nat
  | 0 => 0
  | n + 1 => countFrom p a n + b2n (p (a + n))

/-- The run of such cycles that is still going on, and the longest. -/
def runsFrom (p : Nat → Bool) (a : Nat) : Nat → Nat × Nat
  | 0 => (0, 0)
  | n + 1 =>
    let r := runsFrom p a n
    if p (a + n) then (r.1 + 1, max r.2 (r.1 + 1)) else (0, r.2)

/-! ## Arbiter records (Tables 04-5, 04-6) -/

/-- An arbiter record: grants, wait cycles, longest wait, and whether it stalled. -/
def arbiterRecord (grants wait longest : Nat) (stalled : Bool) : Nat :=
  packBits [(64, grants), (64, wait), (32, longest), (30, 0), (1, b2n (decide (longest = 0xFFFFFFFF))), (1, b2n stalled)]

/-- A requester's record, of an arbiter at an entry: its grants, and what it has waited in the cycles a to b since the last clear,
which the model does not time: in which cycles it waits is free (R101; assumption 70). -/
def waitRecord (entry unit r a b grants : Nat) (stalled : Bool) : Nat :=
  let p := Config.waiting entry unit r
  arbiterRecord (grants % 2 ^ 64) (countFrom p a (b - a) % 2 ^ 64) (min 0xFFFFFFFF (runsFrom p a (b - a)).2) stalled

/-- The grants, in the cycles a to b, of a requester whose requests the model does not give. -/
def freeGrants (entry unit r a b : Nat) : Nat := countFrom (Config.granted entry unit r) a (b - a)

/-- The records of a Crate's arbiter, of n requesters, at an entry; one that does not exist reads 0. -/
def Dev.crateRecords (d : Dev) (entry unit crate n : Nat) (grants : Nat → Nat) (stalled there : Nat → Bool) : Nat :=
  let a := (d.crate crate).arbFrom
  let b := d.crateCycles crate
  fields 192 ((List.range n).map (fun r => if there r then waitRecord entry unit r a b (grants r) (stalled r) else 0))

/-- An input of a router has a neighbour: x− and x+ at a die's edge only where the bridge stands, y− and y+ not at the edge (R8,
R10; Table 04-8). -/
def inputThere (n input : Nat) : Bool :=
  match input with
  | 1 => decide (colOf n ≠ 0 ∨ dieOf n = 1)
  | 2 => decide (colOf n ≠ 7 ∨ dieOf n = 0)
  | 3 => decide (rowOf n ≠ 0)
  | 4 => decide (rowOf n ≠ 7)
  | _ => true

/-- The records of a router: virtual networks 0 to 3 by the messages that pass, and 4, the Cellar's, free (R98, R101). -/
def Dev.routerRecords (d : Dev) (n : Nat) : Nat :=
  let p := d.path n
  d.crateRecords 0x4682 n n 25
    (fun r => p.grants.get 0 (128 + r) + (if r / 5 = 4 then freeGrants 0x4682 n r (d.crate n).arbFrom (d.crateCycles n) else 0))
    (fun r => decide (128 + r ∈ p.stalled)) (fun r => inputThere n (r % 5))

/-- The records of a die-bridge row link in a direction; the bridge runs at 1.6 GHz (R101). Its Cellar traffic is free. -/
def Dev.bridgeRecords (d : Dev) (y dir : Nat) : Nat :=
  let a := cyclesIn 1600 d.arb.since
  let b := cyclesIn 1600 d.time.ran
  fields 192 ((List.range 8).map (fun x =>
    let r := y * 16 + dir * 8 + x
    waitRecord 0x4780 (y * 16 + dir * 8) x a b (d.arb.bridge.get 0 r + freeGrants 0x4780 (y * 16 + dir * 8) x a b) (decide (r ∈ d.arb.stalled))))

/-- The records of a stack's channel arbiter, in cycles of its logic die at 1.0 GHz (DESIGN CHOICE, assumption 70); the Attic's
stays 0 on stacks 2 to 11 (R245). -/
def Dev.channelRecords (d : Dev) (k : Nat) : Nat :=
  let a := cyclesIn 1000 d.arb.since
  let b := cyclesIn 1000 d.time.ran
  fields 192 ((List.range 67).map (fun r =>
    if r = 65 ∧ 2 ≤ k then 0
    else waitRecord 0x9017 k r a b (freeGrants 0x9017 k r a b) (decide (r ∈ (d.stack k).stalled))))

/-! ## Larder (Table 04-8) -/

/-- Lane egress status: 0 closed, 1 open, 2 busy. A flush is done at once, so 3 is never read. -/
def Dev.egressStatus (d : Dev) (l : Nat) : Nat :=
  let e := d.egress l
  if !(d.carries l) then 0 else if e.cur.isSome || e.sel.isSome then 2 else if e.isOpen then 1 else 2

/-- The state of a route version (Table 05-3). -/
def VState.code : VState → Nat
  | .idle => 0 | .prepared => 1 | .active => 2 | .draining => 3

/-! ## Contexts and Combiners (Tables 08-9, 09-8) -/

/-- The value of a context state (Table 08-3): FREE is 0. -/
def CtxState.code : CtxState → Nat
  | .parked => 1 | .installed => 2 | .armed => 3 | .active => 4 | .draining => 5 | .faulted => 6

/-- The context read status of a context (0x6200:03). -/
def ctxStatus (x : Option Context) : Nat :=
  match x with
  | none => 0
  | some x =>
    let busy := (x.groups.cells.filter (fun p => p.2.busy)).length
    packBits [(8, x.state.code), (8, x.gc), (16, x.fault), (32, busy), (64, x.completed), (64, x.full), (64, x.partials),
      (64, x.absent), (64, x.refused), (64, x.late), (64, 0)]

/-- The context read plan status of a context (0x6200:05). -/
def planStatus (x : Option Context) : Nat :=
  match x with
  | none => 0
  | some x =>
    packBits [(8, b2n x.planB), (8, if x.override.isSome then 3 else rPolicy x.record), (16, x.hold), (8, x.bo), (8, x.bi),
      (16, 0), (64, x.switches)]

/-- Level busy fractions (0x6400:01). -/
def Dev.levelFractions (d : Dev) : Nat :=
  let set := fun dir g =>
    levelOf (((d.linkSet dir (some g)).flatMap d.portLanes).filter d.carries |>.map (fun l => (d.egress l).busyTx))
  fields 8 ((List.range 4).map (set 0) ++ (List.range 4).map (set 1) ++ [d.inboundLevel])

/-! ## The Cellar (Table 10-5) -/

/-- The reserved write rate of a stack, MB/s: each ring lane's payload rate on its replay stack, and a twelfth of it on every
stack (R237). In units of 1/48 MB/s to keep the twelfths whole. -/
def reserved48 (k : Nat) (ringLanes : List (Nat × Bool)) : Nat :=
  ringLanes.foldl (fun (a : Nat) p =>
    let rate := if p.2 then 1125000 else 1200000
    a + (if 6 * (p.1 / 512) + p.1 % 6 = k then rate else 0) + rate / 12) 0

/-- The lanes with a ring role and whether each runs Strong FEC. -/
def Dev.ringLanes (d : Dev) : List (Nat × Bool) := (allLanes.filter d.isRing).map (fun l => (l, d.strong l))

/-! ## Optics and Chutes (Tables 11-11, 12-4) -/

/-- Spare states (0x3020+L:07). -/
def Spare.byte (s : Spare) : Nat :=
  (match s.state with | .parked => 0 | .tuning => 16 | .active => 32 + s.chan | .failed => 48)

/-- Rings of a Hatch in each loop state. -/
def Dev.ringCounts (d : Dev) (h : Nat) : List Nat :=
  (List.range 7).map (fun c => (hatchLanes h).foldl (fun (a : Nat) l =>
    a + b2n (decide ((d.optics l).modl.state.code = c)) + b2n (decide ((d.optics l).drop.state.code = c))) 0)

/-- The receive status that a lane reads (Table 11-9). Between light and PCS lock the receiver passes through CDR and ALIGNED at
moments that the manual leaves to its circuits: with the drop ring in TRACK the value is free from what is known up to ALIGNED
(R266; DESIGN CHOICE, assumption 71). -/
def Dev.receiveStatus (d : Dev) (l : Nat) : Nat :=
  let o := d.optics l
  if o.drop.state = .track ∧ 1 ≤ o.status ∧ o.status ≤ 3 ∧ d.enabled (d.portOf l).1 = true then
    o.status + Config.receiveStage l d.time.ran % (4 - o.status)
  else o.status

/-- The heater power that a loop's ring reads: 40 mW while its started Hatch is not warm (R409). -/
def Dev.heaterOf (d : Dev) (l : Nat) (drop : Bool) : Nat :=
  let h := d.hatch (hatchOfLane l)
  if h.started && !h.warm then 40000 else (d.loop l drop).heater

/-- The Chute map as it reads: a withheld column's byte has its fault bit set (R276). -/
def Dev.chuteMap (d : Dev) (h base : Nat) : Nat :=
  let cols := (d.chute h).withheld.map (fun x => x % 16)
  fields 8 ((List.range 16).map (fun j => let b := mapByte base j; if j ∈ cols then (b ||| 64) else b))

/-- Chute status: 0 IDLE, 1 PENDING, 2 PROGRAMMING, 3 DEGRADED (R276, Table 12-4). -/
def Dev.chuteStatus (d : Dev) (h : Nat) : Nat :=
  let c := d.chute h
  if c.programming then 2
  else if d.inv.sealed.any (fun s => s.staged.any (fun p => decide (p.1 = ad (0x3400 + h) 1))) then 1
  else if c.degraded then 3 else 0

/-- The value of a cell state (Table 12-1). -/
def cellCode : Cell → Nat
  | .clear => 0 | .set => 1 | .uncertain => 2 | .failed => 3

/-- The 48 bytes of an event record (R352). -/
def Event.number (e : Event) : Nat :=
  packBits [(32, e.seq), (16, e.code), (2, e.sev), (6, 0), (8, e.kind), (64, e.step), (80, e.time), (16, e.src), (32, e.a), (64, e.b),
    (64, e.c)]

/-! ## Digests (R320, R321) -/

/-- An entry is RW-STAGED. -/
def isStaged (index sub : Nat) : Bool :=
  match famOf index sub with | some f => decide (f.acc = .staged) | none => false

/-- The index digest of an index under a base table (R320). -/
def Dev.indexBytes (d : Dev) (base : Tab Nat) (index : Nat) : List Byte :=
  ((List.range 255).map (fun k => k + 1)).flatMap (fun s =>
    match famOf index s with
    | some f => if f.acc = .staged then
        toBytes 5 (packBits [(16, index), (8, s), (8, f.ty.code), (8, f.ty.len / 256)]) ++ toBytes 1 f.ty.len ++
          toBytes f.ty.len (d.baseIn base (ad index s)) else []
    | none => [])

/-- Some entry of an index is RW-STAGED. -/
def stagedIndex (index : Nat) : Bool :=
  (famsIn (index / 4096)).any (fun f => decide (f.acc = .staged ∧ f.base ≤ index ∧ index < f.base + f.n))

/-- A region digest (R320). -/
def Dev.regionDigest (d : Dev) (base : Tab Nat) (r : Nat) : Nat :=
  sm3 (((List.range 4096).filter (fun i => stagedIndex (4096 * r + i))).flatMap (fun i =>
    toBytes 2 (4096 * r + i) ++ toBytes 32 (sm3 (d.indexBytes base (4096 * r + i)))))

/-- The device digest (R320). -/
def Dev.deviceDigest (d : Dev) (base : Tab Nat) : Nat :=
  sm3 ((List.range 16).flatMap (fun r => toBytes 32 (d.regionDigest base r)))

/-- The number that a response's value stands for: a digest is computed only here (R320). -/
def RVal.number : RVal → Nat
  | .num n => n
  | .deviceDigest b m => ({ mac := m } : Dev).deviceDigest b
  | .regionDigest r b m => ({ mac := m } : Dev).regionDigest b r
  | .indexDigest i b m => if stagedIndex i then sm3 (({ mac := m } : Dev).indexBytes b i) else 0

/-! ## Reads by region -/

/-- The lane that an index and subindex of a per-lane family name. -/
def laneAt (base index sub : Nat) : Nat := 8 * (index - base) + (sub - 1)

/-- Region 0x2000. -/
def Dev.read2 (d : Dev) (i s : Nat) : Nat :=
  if i < 0x2580 then (d.lane (laneAt 0x2500 i s)).disc.status.code
  else if i < 0x2600 then
    let l := laneAt 0x2580 i s
    (d.port (d.portOf l).1).state.code
  else if i < 0x2680 then (d.lane (laneAt 0x2600 i s)).disc.seenId
  else if i < 0x2700 then
    let q := (d.lane (laneAt 0x2680 i s)).disc
    8 * q.seenPort + q.seenLane
  else if i < 0x2780 then d.reasonOf (laneAt 0x2700 i s)
  else if i = 0x2800 ∧ s = 3 then min 65535 d.fencesIn
  else 0

/-- Region 0x3000. -/
def Dev.read3 (d : Dev) (v : Nv) (i s : Nat) : Nat :=
  if i < 0x3020 then
    let h := i - 0x3010
    if s = 1 then d.hatchStatus h else if s = 2 then fields 16 (d.hatch h).sensors else fields 16 (d.ringCounts h)
  else if i < 0x3200 then
    let m := d.module (i - 0x3020)
    if s = 1 then m.status else if s = 2 then fields 8 m.source else if s = 3 then fields 16 m.line
    else fields 8 [m.spareA.byte, m.spareB.byte]
  else if i < 0x3300 then
    let l := laneAt 0x3280 i s
    let o := d.optics l
    packBits [(8, o.modl.state.code), (8, o.drop.state.code), (16, d.heaterOf l false), (16, d.heaterOf l true), (16, o.power),
      (8, d.receiveStatus l), (56, 0)]
  else if i < 0x3380 then
    let o := d.optics (laneAt 0x3300 i s)
    fields 64 [o.codewords, o.corrected, o.uncorrectable, o.corrBits, o.lockLosses, o.ber]
  else if i < 0x3400 then
    let l := laneAt 0x3380 i s
    let c := fun drop => v.calibration.get ringCalibration (ringOf l drop)
    fields 16 [c false / 2 ^ 16, c true / 2 ^ 16, c false, c true]
  else
    let h := i - 0x3400
    let n := v.chute h
    if s = 2 then fields 8 ((List.range 256).map (fun x => cellCode (n.cell x)))
    else if s = 3 then d.chuteStatus h
    else if s = 4 then fields 16 ((List.range 16).map (fun j =>
      if n.cells.cells.any (fun p => decide (p.1 % 16 = j ∧ p.2 = .set)) then
        let x := Config.circuitPower h j d.time.fab % 65536
        if toSigned 16 x < -2000 then 0x8000 else x
      else 0x8000))
    else if s = 5 then fields 32 ((List.range 256).map (fun x => n.pulses.get 0 x))
    else 0

/-- Region 0x4000. -/
def Dev.read4 (d : Dev) (i s : Nat) : Nat :=
  let n := i % 128
  if i < 0x4480 then fields 32 ((List.range 16).map (fun vc => (d.egress (laneAt 0x4400 i s)).depth vc))
  else if i < 0x4500 then d.egressStatus (laneAt 0x4480 i s)
  else if i < 0x4600 then
    if s = 1 then d.freeCells n else if s = 2 then d.sharedFree n
    else if s = 3 then min ((d.path n).sharedLow.getD (d.sharedFree n)) (d.sharedFree n) else d.freeEntries n
  else if i < 0x4680 then
    let l := laneAt 0x4600 i s
    let e := d.egress l
    d.crateRecords 0x4600 l (crateOf l) 17 (fun r => e.grants.get 0 r) (fun r => decide (r ∈ e.stalled)) (fun _ => true)
  else if i < 0x4780 then
    let p := d.path n
    if s = 1 then
      d.crateRecords 0x4681 n n 10 (fun r => p.grants.get 0 r) (fun r => decide (r ∈ p.stalled)) (fun r => decide (r ≠ 9 ∨ n = 0))
    else if s = 2 then d.routerRecords n
    else
      d.crateRecords 0x4683 n n 128 (fun r => p.grants.get 0 (256 + r)) (fun r => decide (256 + r ∈ p.stalled)) (fun _ => true)
  else if i < 0x4800 then d.bridgeRecords (i - 0x4780) (s - 1)
  else if i < 0x4880 then
    let c := d.crate n
    packBits [(16, c.temp), (16, Config.islandVoltage n c.freq c.temp), (16, c.freq), (8, d.limitCause n), (8, 0)]
  else if s = 4 then d.power.watts
  else if s = 5 then fields 32 ((List.range 9).map (fun k => d.power.rails.getD k 0))
  else d.power.cap

/-- Region 0x5000. -/
def Dev.read5 (d : Dev) (s : Nat) : Nat :=
  if s = 4 then b2n d.activeVersion else if s = 5 then d.versions.v0.code else if s = 6 then d.versions.v1.code
  else d.versions.retire

/-- Region 0x6000. -/
def Dev.read6 (d : Dev) (i s : Nat) : Nat :=
  let n := i % 128
  if i = 0x6000 then if s = 3 then d.activeCount else if s = 4 then d.parkedCount else d.inv.ctxRefusal
  else if i = 0x6200 then
    let x := d.ctxAt (d.imm 0x6200 1 % 2 ^ 24)
    if s = 2 then (match x with | some x => x.record | none => 0)
    else if s = 3 then ctxStatus x
    else if s = 4 then (match x with | some x => if x.state = .parked then 0 else fields 64 x.counts | none => 0)
    else planStatus x
  else if i < 0x6300 then
    if s = 1 then min 240 (d.freeSlots n) else if s = 2 then d.homeCount n
    else (d.holding.filter (fun h => decide (h.crate = n))).length
  else if i < 0x6400 then d.remapPending n
  else if i = 0x6400 then d.levelFractions
  else if i = 0x6500 then fields 512 ((List.range 16).map (fun k => d.shadowRecs.getD k 0))
  else if i < 0x6600 then
    let c := d.crate n
    if s = 3 then fields 64 [c.shadowed, c.shadowSkips, c.shadowGood, c.shadowBad] else fields 64 [c.evicted, c.unresolved]
  else
    let l := d.lane (laneAt 0x6600 i s)
    fields 64 [l.checkBad, l.valueFaults, l.dataFaults, l.persistent]

/-- The copy of a flow context that a read returns: a Crate's cached one where there is one (R144); where several Crates cache it,
that of the first (R144 names none: DESIGN CHOICE, assumption 77). -/
def Dev.flowRead (d : Dev) (index : Nat) : Flow :=
  match d.crates.cells.findSome? (fun c => c.2.path.cache.find? (fun p => decide (p.1 = index))) with
  | some p => p.2
  | none => d.flows.get {} index

/-- Region 0x7000. -/
def Dev.read7 (d : Dev) (i s : Nat) : Nat :=
  if i < 0x7300 then
    let e := d.egress (laneAt 0x7280 i s)
    fields 64 ((List.range 16).flatMap (fun vc => let x := e.shapers.get {} vc; [ofSigned 64 x.atRefill.1, ofSigned 64 x.atRefill.2]))
  else if i < 0x7400 then let p := d.path (i - 0x7300); fields 64 [p.hits, p.misses, p.overflows, p.writeBacks]
  else (d.flowRead (d.imm 0x7480 1)).toNat

/-- Region 0x8000. -/
def Dev.read8 (d : Dev) (i s : Nat) : Nat :=
  let t := d.time
  if i = 0x8000 then
    if s = 2 then t.clock else if s = 3 then t.root else if s = 7 then t.step else if s = 8 then d.now
    else if s = 0x0E then
      packBits [(16, t.parent.getD 0xFFFF), (8, t.hops), (8, 0), (32, d.errorBound), (64, ofSigned 64 t.offset),
        (32, ofSigned 32 d.rateAdjust), (32, if t.clock = 3 then (d.now - t.holdFrom) / (65536 * 1000000) else 0)]
    else packBits [(8, b2n t.lost0), (8, b2n t.lost1), (8, t.driver), (8, 0)]
  else if i < 0x8280 then let c := d.crate (i - 0x8200); if s = 1 then c.stamps.length else c.stampLost
  else let x := (d.lane (laneAt 0x8280 i s)).time; fields 64 [x.valid, x.discarded, x.disagree, x.delay]

/-- The status of a stack. -/
def StackState.code : StackState → Nat
  | .wiping => 0 | .ready => 1 | .failed => 2

/-- Region 0x9000. -/
def Dev.read9 (d : Dev) (i s : Nat) : Nat :=
  if i = 0x9000 then (List.range 12).foldl (fun (a : Nat) k => a + d.spillSize k) 0
  else if i < 0x9100 then
    let k := i - 0x9010
    let x := d.stack k
    if s = 2 then d.spillSize k else if s = 3 then x.status.code
    else if s = 4 then fields 64 [x.corrected, x.fatal, x.passes]
    else if s = 5 then fields 64 [x.adds, x.readClears, d.spillGroups k]
    else if s = 6 then reserved48 k d.ringLanes / 48
    else d.channelRecords k
  else (d.lane (laneAt 0x9200 i s)).rx.stagingLost

/-- The six cycle counts of a lane: each cycle of its Crate is counted under one row of Table 17-4, which one being free; they sum
to the Crate's cycles (R381). -/
def Dev.stallCycles (d : Dev) (l : Nat) : List Nat :=
  let n := d.crateCycles (crateOf l)
  (List.range 6).map (fun j => countFrom (fun i => decide (Config.stallRow l i % 6 = j)) 0 n)

/-- The issue slots, of a number of them not removed by a derate from one on, that are counted under a row of Table 17-5 after the
first: 0 wasted, 1 retired, 2 starved at the back, 3 at the front. -/
def slotsUnder (n row a len : Nat) : Nat := countFrom (fun i => decide (Config.slotRow n i % 4 = row)) a len

/-- A Combiner's cycles and its five slot counts, which sum to four times the cycles (R382). -/
def Dev.slotCounts (d : Dev) (n : Nat) : List Nat :=
  let c := d.crateCycles n
  let off := d.slotsRemoved n
  [c, off] ++ (List.range 4).map (fun j => slotsUnder n j 0 (4 * c - off))

/-- Region 0xA000, but for its wide reads. -/
def Dev.readA (d : Dev) (i s : Nat) : Nat :=
  let t := d.tele
  if i = 0xA000 then
    if s = 8 then t.latest else if s = 9 then fields 64 [t.taken, t.skipped, t.invalid] else if s = 10 then t.writeIndex
    else fields 64 [t.framesTagged, t.chunksTagged, t.frameSkips, t.chunkSkips]
  else if i = 0xA100 then
    let code := d.imm 0xA100 1
    let k := kindCount ((tallyKind code).getD 0)
    fields 64 ((List.range 64).map (fun j => let n := d.imm 0xA100 2 + j; if n < k then d.tallyOf code n else 0))
  else if 0xA200 ≤ i ∧ i < 0xA280 then
    let e := d.egress (laneAt 0xA200 i s)
    fields 64 ((List.range 32).map (fun j => e.traffic.get 0 j))
  else if 0xA280 ≤ i ∧ i < 0xA300 then
    let l := laneAt 0xA280 i s
    let e := d.egress l
    fields 32 ((List.range 16).map (fun vc => e.peaks.get 0 vc)) * 2 ^ 512 +
      fields 64 (d.stallCycles l ++ [e.replayed, e.marked])
  else if 0xA300 ≤ i ∧ i < 0xA380 then
    fields 64 (d.slotCounts (i - 0xA300))
  else if i = 0xAF00 then
    let g := d.log
    if s = 3 then g.latest else if s = 4 then g.lost
    else if s = 6 then
      fields 384 ((List.range 16).map (fun j =>
        let q := (d.imm 0xAF00 5 + j) % 2 ^ 32
        match g.recs.find? (fun e => decide (e.seq = q)) with
        | some e => e.number
        | none => 0))
    else g.acked
  else 0

/-- The bytes of an attestation report, signed with the identity key over bytes 0 to 287, the node identity as the ZA identity
(R348, Table 15-10). -/
def Report.number (r : Report) (v : Nv) : Nat :=
  let body := ((r.head * 2 ^ 256 + ({ mac := r.mac } : Dev).deviceDigest r.base) * 2 ^ 256 + r.record.digest false) * 2 ^ 256 + r.tail
  let id := toBytes 8 (nodeIdOf (sm2Public v.fuses.secret))
  body * 2 ^ 512 + sm2Sign id v.fuses.secret (toBytes 288 body) (sm2Secret (Config.signNonce body))

/-- Region 0x1000. -/
def Dev.read1 (d : Dev) (v : Nv) (s : Nat) : Nat :=
  let f := v.fuses
  if s = 1 then d.attic.nodeId else if s = 2 then f.stepping else if s = 3 then f.part else if s = 4 then f.life else f.serial

/-- Region 0xB000. -/
def Dev.readB (d : Dev) (v : Nv) (i s : Nat) : Nat :=
  let f := v.fuses
  if i = 0xB000 then
    if s = 1 then d.attic.pubKey else if s = 2 then f.endorsement else if s = 3 then f.slots + 16 * f.revoked
    else if s = 4 then fields 256 ((List.range 4).map (fun k => if bit f.slots k then f.keys.getD k 0 else 0))
    else if s = 5 then f.ownerKey else if s = 6 then f.recoveryKey else if s = 7 then f.security
    else (d.attic.sessions.filter (fun x => x.isOpen)).length
  else if i = 0xB100 then
    if s = 2 then (match d.attic.report with | some r => r.number v | none => 0) else d.attic.reportStatus
  else
    match d.attic.sessions[s - 1]? with
    | some x => packBits [(16, if x.isOpen then x.id else 0), (8, b2n x.isOpen), (8, x.authority), (64, x.peer), (64, x.received), (64, x.sent),
        (32, x.dropped)]
    | none => 0

/-- Region 0xC000. -/
def Dev.readC (d : Dev) (s : Nat) : Nat :=
  let a := d.attic
  if s = 1 then (match a.state with | .running => 1 | .restarting => 2 | _ => 0)
  else if s = 4 then a.restarts else if s = 5 then a.cause
  else if s = 10 then
    packBits [(8, a.slot), (5, 0), (1, b2n a.failover), (1, b2n a.trial), (1, b2n a.failSeen), (8, a.codeA), (8, a.codeB),
      (32, a.bootUs), (64, a.build), (128, 0)]
  else if s = 11 then fields 4096 [a.headerA, a.headerB]
  else fields 64 [a.memCorrected, a.memFatal]

/-- Region 0xF000, but for its digests. -/
def Dev.readF (d : Dev) (i s : Nat) : Nat :=
  let v := d.inv
  if i = 0xF000 then
    if s = 6 then v.fabricRec.digest false else if s = 7 then v.fabricRec.digest true else if s = 8 then v.changeStep
    else if s = 9 then fields 64 ((List.range 16).map (fun k => (v.sealed.map (fun c => c.step)).getD k 0))
    else if s = 10 then packBits [(16, v.result.status), (16, v.result.index), (8, v.result.sub), (24, 0), (64, v.result.step)]
    else if s = 11 then v.trans.length
    else packBits [(16, v.epoch), (48, v.seqApplied), (64, v.seqStep)]
  else if i < 0xF280 then (d.lane (laneAt 0xF200 i s)).disc.digest
  else (d.lane (laneAt 0xF280 i s)).disc.disagreements

/-- The value of an RO entry at the moment of the read, but for the wide reads of chapter 17 and the digests. -/
def Dev.readRo (d : Dev) (v : Nv) (i s : Nat) : Nat :=
  match i / 4096 with
  | 1 => d.read1 v s
  | 2 => d.read2 i s
  | 3 => d.read3 v i s
  | 4 => d.read4 i s
  | 5 => d.read5 s
  | 6 => d.read6 i s
  | 7 => d.read7 i s
  | 8 => d.read8 i s
  | 9 => d.read9 i s
  | 10 => d.readA i s
  | 11 => d.readB v i s
  | 12 => d.readC s
  | 15 => d.readF i s
  | _ => 0

end Sys2Proof.Machine
end

