-- ==== Sys2Proof/Machine/Sessions.lean ====
section
/-! DEFINITION. The frames that the Attic sends, the layout of management messages, and the sessions that carry them (R81, R107, R288,
R324, R325, R344 to R347). -/

namespace Sys2Proof.Machine

/-! ## Frames that the Attic sends (R81, R107, R288) -/

/-- Free cells of the Attic account, on Crate 0 (Table 04-8). -/
def Dev.atticFree (d : Dev) : Nat := d.cfg 0x4000 4 - (d.path 0).attic

/-- The route of a frame that the Attic sends, by the ACTIVE version (R107, Table 05-2). -/
def Dev.atticRoute (d : Dev) (dst : Nat) : Look :=
  let e := d.routeEntry (b2n d.activeVersion) dst
  let kind := bits e 15 14
  if kind = 0 then .discard 0x5010
  else if kind = 3 then .pair (bits e 12 0)
  else if kind = 2 then .ring (bits e 13 13) (bits e 12 11) false
  else
    let p := bits e 9 0
    if (d.portOf p).1 = p ∧ (d.portLanes p).all (fun k => decide (d.role k = 1)) ∧ d.portCarries p = true then .port p
    else .discard 0x5011

/-- Writes a frame into the Attic account of Crate 0, with what it serves (R81, Table 13-1). -/
def Dev.storeAttic (d : Dev) (x : AtticFrame) (m : Option MRecord) : Nat × Dev :=
  let f := if x.frame.raw then x.frame else d.originate x.frame x.frame.hdr.corr
  let q := d.store { frame := f, crate := 0, lane := none, vc := vcOf f.hdr.tc false, account := .attic, start := d.now
                     whole := true, stampTag := x.stamp, insert := x.insert, mrec := m }
  (q.1, (q.2.modPath 0 (fun p => { p with attic := p.attic + cellsOf f.flits })).noteLeast 0)

/-- A frame of the Attic goes to a lane by its descriptor (R83). -/
def Dev.atticTo (d : Dev) (x : AtticFrame) (l : Nat) : Dev :=
  let q := d.storeAttic x none
  match q.2.heldAt q.1 with
  | some h => (q.2.stage q.1 1 d.now).sendDescriptor q.1 l h false
  | none => q.2

/-- A frame of the Attic is written and sent on its way: on its lane, or by its endpoint ID (R81, R107, R325). -/
def Dev.atticGo (d : Dev) (x : AtticFrame) : Dev :=
  match x.lane with
  | some l => d.atticTo x l
  | none =>
    let dst := x.frame.hdr.dst
    let lost := fun (d : Dev) (code : Nat) => (d.raise code 0 dst).count (0x5E01 + x.frame.hdr.tc) 0
    let goes := fun (r : Option Nat × Dev) =>
      match r.1 with
      | some k => r.2.atticTo x k
      | none => lost r.2 0x5011
    match d.atticRoute dst with
    | .discard code => lost d code
    | .port p => goes (d.pickLane 0 p)
    | .ring dir g _ => goes (d.pickRing 0 dir g dst)
    | .pair q =>
      let s := d.storeAttic x (some { pending := 128, refs := 0, group := 2 * q + 1, next := some (2 * q) })
      s.2.broadcast s.1

/-- The Attic account has cells for a frame. -/
def Dev.atticFits (d : Dev) (f : Frame) : Bool := decide (cellsOf f.flits ≤ d.atticFree)

/-- A frame of the Attic: it goes, or it waits behind those that wait for cells of the account (R81). -/
def Dev.atticPut (d : Dev) (x : AtticFrame) : Dev :=
  if d.atticWaits = [] ∧ d.atticFits x.frame = true then d.atticGo x else { d with atticWaits := d.atticWaits ++ [x] }

/-- The frames that wait for cells of the Attic account go in their order, as far as the account has cells, at most `n`. -/
def Dev.atticDrain : Nat → Dev → Dev
  | 0, d => d
  | n + 1, d =>
    match d.atticWaits with
    | [] => d
    | x :: rest => if d.atticFits x.frame then Dev.atticDrain n ({ d with atticWaits := rest }.atticGo x) else d

/-- What follows when cells of the Attic account are freed (R81). -/
def Dev.atticRetry (d : Dev) : Dev := d.atticDrain d.atticWaits.length

/-- ATTIC_SEND: the Attic sends a frame on a lane, or by its endpoint ID, with a timestamp request or a one-step insert; it
waits while its account lacks cells (R81, R288, R325). -/
def Dev.atticSend (d : Dev) (f : Frame) (lane : Option Nat) (stamp insert : Option Nat) : Dev :=
  if d.atticRuns = false ∨ f.hdr.tc = 6 then d else d.atticPut ⟨f, lane, stamp, insert⟩

/-! ## The layout of a message (R324, Tables 14-8, 14-9) -/

/-- The bytes of one item of a response; a READ's answer has more fields (Table 14-9). -/
def RespItem.bytes (r : RespItem) (read : Bool) : List Byte :=
  toBytes 4 (packBits [(16, r.index), (8, r.sub), (8, r.status)]) ++
    if read then toBytes 4 (packBits [(8, r.type), (8, 0), (16, r.len)]) ++
      (match r.value with | some x => toBytes r.len x.number | none => [])
    else []

/-- The bytes of a message's body (Table 14-9, R356, R389). -/
def Body.bytes (read : Bool) : Body → List Byte
  | .items l => l.flatMap (fun r => r.bytes read)
  | .status s => toBytes 2 s
  | .commit code index sub step digest =>
    toBytes 16 (packBits [(16, code), (16, index), (8, sub), (24, 0), (64, step)]) ++ toBytes 32 digest.number
  | .state step clock opens sealed digest =>
    toBytes 16 (packBits [(64, step), (8, clock), (8, opens), (48, 0)]) ++
      (List.range 16).flatMap (fun k => toBytes 8 (sealed.getD k 0)) ++ toBytes 32 digest.number
  | .notice recs => recs.flatMap (fun e => toBytes 48 e.number)
  | .telemetry kind step offset data =>
    toBytes 16 (packBits [(8, kind), (24, 0), (64, step), (32, offset)]) ++ data

/-- The bytes of a message of the device: the header of Table 14-8 and the body. It names its own node identity as the device
addressed (DEDUCED, assumption 75). -/
def Message.bytes (m : Message) (nodeId : Nat) : List Byte :=
  toBytes 16 (packBits [(4, 1), (4, 0), (8, m.type), (16, m.tag), (64, nodeId), (16, m.trans), (16, m.count)]) ++
    m.body.bytes (decide (m.type = 0x81))

/-- The items of a READ, as many as its body holds whole. -/
def readItemsOf : Nat → List Byte → List ReadItem
  | 0, _ => []
  | n + 1, b =>
    if b.length < 4 then []
    else ⟨bytesFrom b 0 2, bytesFrom b 2 1, bit (bytesFrom b 3 1) 0⟩ :: readItemsOf n (b.drop 4)

/-- The items of a WRITE, as many as its body holds whole. -/
def writeItemsOf : Nat → List Byte → List WriteItem
  | 0, _ => []
  | n + 1, b =>
    let len := bytesFrom b 4 2
    if b.length < 6 + len then []
    else ⟨bytesFrom b 0 2, bytesFrom b 2 1, len, bytesFrom b 6 len⟩ :: writeItemsOf n (b.drop (6 + len))

/-- The request that a message's bytes hold. Items that the body does not hold whole are not there (DESIGN CHOICE, assumption 75). -/
def requestOf (b : List Byte) : Request :=
  let tid := bytesFrom b 12 2
  let n := bytesFrom b 14 2
  let body := b.drop 16
  match bytesFrom b 1 1 with
  | 1 => .read (readItemsOf n body)
  | 2 => .write tid (writeItemsOf n body)
  | 3 => .open_
  | 4 => .commit tid (bytesFrom body 0 8)
  | 5 => .abort tid
  | 6 => .cancel (bytesFrom body 0 8)
  | 7 => .status
  | t => .other t

/-- The header of a message, with the way that it came (Table 14-8). -/
def peerOf (src : Nat) (lane : Option Nat) (session : Nat) (b : List Byte) : Peer :=
  { src := src, lane := lane, session := session, version := bytesFrom b 0 1 / 16, tag := bytesFrom b 2 2, target := bytesFrom b 4 8 }

/-! ## Management frames (R324, R325) -/

/-- The MGMT frame that carries a record to a source ID: from 0xFF_FFFF, TC7. One that leaves on the management port is an Ethernet
frame with the Swent EtherType and link sequence 0; its source address is the device's (DEDUCED, assumption 75). -/
def Dev.mgmtFrame (d : Dev) (src : Nat) (lane : Option Nat) (session : Nat) (record : List Byte) : Frame :=
  let f := d.originate { hdr := { opcode := 0x30, tc := 7, dst := src, len := record.length }, payload := record } 0
  if isEndpoint src ∨ lane.isSome then f
  else { f with mac := some { dst := Config.managementAddress session % 2 ^ 48, src := d.cfg 0x2000 0x0A
                              ether := d.cfg 0x2000 8 } }.padded.sealed

/-- The way of a MGMT frame: by its endpoint ID, on the lane by which its peer came, or out of the management port, which holds
nothing back (R325). -/
def Dev.carry (d : Dev) (src : Nat) (lane : Option Nat) (f : Frame) : Dev :=
  if isEndpoint src then d.atticPut { frame := f }
  else match lane with
    | some l => d.atticPut { frame := f, lane := some l }
    | none => d

/-! ## Sessions (R345, R347) -/

/-- A session is open. -/
def Dev.sessionOpen (d : Dev) (id : Nat) : Bool := (d.session id).any (fun s => s.isOpen)

/-- The MGMT frame of a message in a DATA record of a session, with its next sequence (R325, R347). -/
def Dev.sealMessage (d : Dev) (src : Nat) (lane : Option Nat) (session : Nat) (m : Message) : Frame :=
  let s := (d.session session).getD { id := session }
  d.mgmtFrame src lane session (sealedRecord s.shared 4 session s.txNext (m.bytes d.attic.nodeId))

/-- A message leaves in a DATA record of its session; none where the session has closed (R325, R346, R347). -/
def Dev.sendMessage (d : Dev) (src : Nat) (lane : Option Nat) (session : Nat) (m : Message) : Dev :=
  if (d.session session).isNone then d
  else
    let f := d.sealMessage src lane session m
    (((d.emit (.message src lane session m f)).modSession session (fun s => { s with
      txNext := s.txNext + 1, sent := wrapAdd 64 s.sent 1 })).spentSession session).carry src lane f

/-- The authority of a static public key: the recovery key, a list position, one-way, or none (R346). -/
def authorityOf (f : Fuses) (d : Dev) (key : Nat) : Option Nat :=
  let g := keyDigest key
  if f.life = 0 ∨ f.life = 3 then some 0xFF
  else if g = f.recoveryKey then some 0
  else (List.range 8).findSome? (fun k => if d.cfg 0xB010 (k + 1) ≠ 0 ∧ d.cfg 0xB010 (k + 1) = g then some (k + 1) else none)

/-- A session ID that no session holds, after the last one given. -/
def nextSession (d : Dev) : Nat :=
  ((List.range 9).map (fun i => (d.attic.lastSession + i) % 65535 + 1)).find? (fun i => (d.session i).isNone) |>.getD 1

/-- The ephemeral secret of the next exchange. -/
def Dev.exchangeSecret (d : Dev) : Nat := sm2Secret (Config.ephemeralSecret d.attic.inits)

/-- The outcome of the exchange that an INIT starts (R345). -/
def Dev.agree (d : Dev) (v : Nv) (key ra id : Nat) : Option Agreed :=
  sm2Respond v.fuses.secret d.exchangeSecret d.attic.nodeId key ra id

/-- INIT: a peer starts a session; the device answers with a RESPONSE (R345, R346). An INIT for another device is discarded
under R324; one beyond eight sessions, with an unlisted key, or whose exchange fails is refused. -/
def sessionInit (v : Nv) (d : Dev) (src : Nat) (lane : Option Nat) (key ra id target : Nat) : Dev :=
  if d.atticRuns = false then d
  else if target ≠ d.attic.nodeId then
    d.raiseBy 0xF011 1 (lane.getD 0) (d.arrivalKey lane) (lane.getD 0) 0 0 0
  else if d.attic.sessions.length ≥ 8 then d.sessionEvent 0xB003 0 lane
  else match authorityOf v.fuses d key, d.agree v key ra id with
    | some au, some g =>
      let s := nextSession d
      let rb := sm2Public d.exchangeSecret
      let x : Session := { id := s, authority := au, key := key, ra := ra, rb := rb, shared := g.key, sa := g.sa, peer := id
                           src := src, lane := lane }
      let f := d.mgmtFrame src lane s (plainRecord 2 s (toBytes 64 rb ++ toBytes 32 g.sb))
      ((d.modAttic (fun a => { a with sessions := a.sessions ++ [x], lastSession := s, inits := a.inits + 1 })).emit
        (.response src lane s rb g.sb f)).carry src lane f
    | _, _ => d.sessionEvent 0xB003 0 lane

end Sys2Proof.Machine
end

