-- ==== Sys2Proof/Machine/Telemetry.lean ====
section
/-! DEFINITION. Telemetry: snapshots, the sample ring, congestion maps, the wide reads and the export of records (R374 to
R394). -/

namespace Sys2Proof.Machine

/-! ## What a freeze copy holds (R377, R378) -/

/-- Read results are not copied (R378). -/
def isReadResult (i s : Nat) : Bool :=
  decide ((i = 0x6200 ∧ 2 ≤ s) ∨ (i = 0x7480 ∧ s = 2) ∨ (i = 0xA100 ∧ s = 3) ∨ (i = 0xA180 ∧ s = 3) ∨ (i = 0xA380 ∧ s = 2) ∨
    (i = 0xA400 ∧ s = 3))

/-- The RO entries of an index that a freeze copy holds, with their lengths in bytes: subindex and length (R378). -/
def copiedSubs (i : Nat) : List (Nat × Nat) :=
  let fs := (famsIn (i / 4096)).filter (fun f => decide (f.acc = .ro ∧ f.base ≤ i ∧ i < f.base + f.n))
  if fs.isEmpty then []
  else (List.range 255).filterMap (fun k =>
    match fs.find? (fun f => decide (f.lo ≤ k + 1 ∧ k + 1 ≤ f.hi)) with
    | some f => if isReadResult i (k + 1) then none else some (k + 1, f.ty.len)
    | none => none)

/-- The indices whose RO entries a freeze copy holds: regions 0x2000 to 0x9000, and 0xA200 to 0xA3FF (R378). -/
def copiedIndices : List Nat := (List.range 0x8000).map (fun k => 0x2000 + k) ++ (List.range 0x200).map (fun k => 0xA200 + k)

/-- The freeze copy of step k, taken at the boundary that ends it (R377, R378, Table 17-3). -/
def freezeOf (v : Nv) (d : Dev) (k : Nat) : Snap :=
  { step := k, clock := d.time.clock, time := ((d.boundaryOf (k + 1)) % ((2 ^ 80 : Nat) : Int)).toNat, tally := d.tele.tally
    entries := copiedIndices.flatMap (fun i => (copiedSubs i).map (fun p => (ad i p.1, d.readRo v i p.1)))
    base := d.inv.base, mac := d.mac }

/-- Step k is named for a snapshot (R377). -/
def Dev.snapNamed (d : Dev) (k : Nat) : Bool :=
  let p := d.cfg 0xA000 1
  (decide (p ≠ 0) && decide (k % p = 0)) || decide (k ∈ d.tele.named)

/-- Flits queued on a lane, all virtual channels together. -/
def Egress.total (e : Egress) : Nat := (List.range 16).foldl (fun (a : Nat) vc => a + e.depth vc) 0

/-- A lane's peak depths are reset to the current depths (R381). -/
def Egress.peaksAfresh (e : Egress) : Egress :=
  { e with peaks := (List.range 16).foldl (fun (t : Tab Nat) vc => t.put 0 vc (e.depth vc)) {} }

/-- What the boundary that ends step k makes of its snapshot: the freeze copy, or none where the previous copy is still being
written or the ring holds no record (R377, R379). -/
def freezeAt (v : Nv) (d : Dev) (k : Nat) : Option Snap :=
  if d.tele.freeze.isSome ∨ d.snapCapacity = 0 then none else some (freezeOf v d k)

/-- SNAPSHOT of step k: the freeze copy of its boundary waits to be written, or the snapshot is counted as skipped (R377). -/
def Dev.takeSnapshot (d : Dev) (k : Nat) (copy : Option Snap) : Dev :=
  match copy with
  | none => (d.modTele (fun t => { t with skipped := wrapAdd 64 t.skipped 1 })).raise 0xA001 0 0 k
  | some f => d.modTele (fun t => { t with freeze := some f, taken := wrapAdd 64 t.taken 1 })

/-- Puts a record, by kind and step, among others in order of their steps. -/
def insertRecord (p : Nat × Nat) : List (Nat × Nat) → List (Nat × Nat)
  | [] => [p]
  | q :: t => if p.2 < q.2 then p :: q :: t else q :: insertRecord p t

/-- A record joins those that the Attic sends, in order of their steps, while it runs (R389). -/
def Dev.toExport (d : Dev) (kind step : Nat) : Dev :=
  if d.atticRuns then d.modTele (fun t => { t with toSend := insertRecord (kind, step) t.toSend }) else d

/-- SNAPSHOT_RECORD_COMPLETE: the record is written, its header last, and the latest snapshot step is set; the ring overwrites
its oldest. A record that lies on a FAILED stack is invalid (R242, R378, R379). -/
def Dev.snapshotComplete (d : Dev) : Dev :=
  match d.tele.freeze with
  | none => d
  | some f =>
    let d := d.modTele (fun t => { t with freeze := none, ring := (f :: t.ring).take d.snapCapacity, latest := f.step })
    let d := if d.stackTab.cells.any (fun p => decide (p.2.status = .failed)) then d.strikeSnap 0 else d
    d.toExport 1 f.step

/-! ## Snapshot records (R378, R379, Table 17-3) -/

/-- Puts a pair in a list that ascends by its keys. -/
def insertKey (p : Nat × Nat) : List (Nat × Nat) → List (Nat × Nat)
  | [] => [p]
  | q :: t => if p.1 < q.1 then p :: q :: t else q :: insertKey p t

/-- Every code of the Tally with its source kind, ascending (R374). -/
def tallyCodes : List (Nat × Nat) := (eventKinds ++ countKinds).foldl (fun (a : List (Nat × Nat)) p => insertKey p a) []

/-- The Tally section of a snapshot record: each code's counters in source order (R378). -/
def Snap.tallyBytes (s : Snap) : List Byte :=
  tallyCodes.flatMap (fun p => (List.range (kindCount p.2)).flatMap (fun n => toBytes 8 (s.tally.get 0 (p.1 * 2048 + n))))

/-- The entries of a snapshot record, each in its Inventory encoding (R378). -/
def Snap.entryBytes (s : Snap) : List Byte :=
  s.entries.flatMap (fun p => match famOf (p.1 / 256) (p.1 % 256) with | some f => toBytes f.ty.len p.2 | none => [])

/-- The device digest of a base configuration. -/
def digestOf (base : Tab Nat) (mac : Nat) : Nat := ({ mac := mac } : Dev).deviceDigest base

/-- A snapshot record up to its zero fill. Of an invalid one only the header is what it was, with Valid clear; what stands behind it
reads as 0 (R378, R379, Table 17-3). -/
def Snap.bytes (s : Snap) : List Byte :=
  let body := s.tallyBytes ++ s.entryBytes
  toBytes 64 (packBits [(32, 0x54414C59), (16, 1), (7, 0), (1, b2n s.valid), (8, s.clock), (64, s.step), (80, s.time), (16, 0),
    (32, 64 + body.length), (256, digestOf s.base s.mac)]) ++ (if s.valid then body else List.replicate body.length 0)

/-- `n` bytes of a record from an offset, zeros past its end, as a number. -/
def recordAt (b : List Byte) (off n : Nat) : Nat :=
  let x := (b.drop off).take n
  ofBytes x * 256 ^ (n - x.length)

/-! ## Sample records (Table 17-6) -/

/-- A stage time: an offset from T0 in units of 2⁻⁴ ns, or all ones where it was never reached (R385). -/
def Tagged.stageTime (i : Tagged) (k : Nat) : Nat :=
  match i.stages.get none k with
  | some t => min 0xFFFFFFFE ((t - i.t0) / 4096)
  | none => 0xFFFFFFFF

/-- The 64 bytes of a sample record. -/
def Sample.number (s : Sample) : Nat :=
  let i := s.item
  packBits ([(4, if s.valid then i.kind else 0), (4, i.outcome), (3, i.tc), (1, i.h), (4, i.phase), (16, i.lane),
    (16, match i.egress with | some l => l | none => 0x8000), (8, i.crate), (8, min 255 i.size), (32, i.nameA), (32, i.nameB),
    (80, i.t0), (16, 0)] ++ (List.range 7).map (fun k => (32, i.stageTime (k + 1))) ++ [(32, 0), (32, s.index)])

/-- A sample record as a read returns it: 0 where it is not held (R386). -/
def Dev.sampleRead (d : Dev) (i : Nat) : Nat :=
  match d.tele.samples.find? (fun s => decide (s.index = i)) with
  | some s => s.number
  | none => 0

/-! ## Congestion maps (R387, Table 17-7) -/

/-- What a lane's payload carries in a step at its own rate, in 1/16 bytes: 25 B/ns, or 23.4375 B/ns under Strong FEC. -/
def Dev.stepBytes16 (d : Dev) (l : Nat) : Nat := d.cfg 0x8000 4 * 1000 * (if d.strong l then 375 else 400)

/-- A busy fraction of the step now ended, as a part of `wholeStep` (R222). -/
def Dev.fraction (d : Dev) (l bytes : Nat) : Nat := min wholeStep (bytes * 16 * (wholeStep / d.stepBytes16 l))

/-- The map material of the step now ended; its cycles begin where those of the step before end (R387). -/
def Dev.stepMaterial (d : Dev) (k : Nat) : MapStep :=
  let last := d.tele.mapSteps.head?
  let eg := d.lanes.cells.map (fun p => (p.1, p.2.egress))
  let tab := fun (f : Nat → Egress → Nat) => eg.foldl (fun (t : Tab Nat) p => t.put 0 p.1 (f p.1 p.2)) ({} : Tab Nat)
  { step := k
    tx := tab (fun l e => d.fraction l e.stepTx)
    rx := tab (fun l e => d.fraction l e.stepRx)
    deep := eg.foldl (fun (t : Tab (Nat × Nat)) p => t.put (0, 0) p.1 (p.2.stepDeep, p.2.stepDeepVc)) {}
    sent := eg.foldl (fun (t : Tab (Nat × Nat × Nat)) p =>
      t.put (0, 0, 0) p.1 (p.2.stepSent, p.2.stepMarked, p.2.stepReplayed)) {}
    least := d.crates.cells.foldl (fun (t : Tab (Nat × Nat)) p => t.put (0, 0) p.1 (p.2.path.stepCells, p.2.path.stepEntries)) {}
    begins := (last.map (·.ends)).getD {}
    ends := d.crates.cells.foldl (fun (t : Tab (Nat × Nat)) p => t.put (0, 0) p.1 (d.crateCycles p.1, d.slotsRemoved p.1)) {}
    from_ := (last.map (·.till)).getD 0
    till := d.time.ran
    reserved := (List.range 12).foldl (fun (t : Tab Nat) k => t.put 0 k (reserved48 k d.ringLanes)) {} }

/-- A map ends at step y (R387). -/
def Dev.mapEnds (d : Dev) (y : Nat) : Bool :=
  let q := d.cfg 0xA000 4
  (decide (q ≠ 0) && decide (y % q = q - 1)) || decide (y ∈ d.tele.mapReqs)

/-- The map that ends at step y, of the steps of its window, as it stands at the boundary (R387). -/
def Dev.mapAt (d : Dev) (y : Nat) : CMap :=
  let w := d.cfg 0xA000 5
  { endStep := y, window := w
    place := packBits [(64, d.attic.nodeId), (8, d.cfg 0x2000 1), (8, d.cfg 0x2000 2), (16, d.cfg 0x5000 1)]
    steps := d.tele.mapSteps.filter (fun s => decide (s.step ≤ y ∧ y < s.step + w))
    ports := d.lanes.cells.map (fun p => (p.1, (d.port (d.portOf p.1).1).state.code)) }

/-- CONGESTION_MAP: a map is written, the four newest are held, and it joins those that the Attic sends (R387, R389). -/
def Dev.takeMap (d : Dev) (m : CMap) : Dev :=
  let d := d.modTele (fun t => { t with maps := (m :: t.maps).take 4 })
  let d := (List.range 12).foldl (fun (d : Dev) k =>
    if (d.stack k).status = .failed ∧ touches k d.sampleBytes 17632 = true then d.strikeMap 0 else d) d
  d.toExport 2 m.endStep

/-- A mean over a window of per-step fractions, × 256, rounded down and held at 255 (R387). -/
def CMap.mean (m : CMap) (f : MapStep → Nat) : Nat :=
  let n := m.steps.length
  if n = 0 then 0 else min 255 (m.steps.foldl (fun (a : Nat) s => a + f s) 0 * 256 / (n * wholeStep))

/-- The greatest of a value over a window. -/
def CMap.most (m : CMap) (f : MapStep → Nat) : Nat := m.steps.foldl (fun (a : Nat) s => max a (f s)) 0

/-- The sum of a value over a window. -/
def CMap.total (m : CMap) (f : MapStep → Nat) : Nat := m.steps.foldl (fun (a : Nat) s => a + f s) 0

/-- A Crate's cycles and removed issue slots at the two ends of the window. -/
def CMap.span (m : CMap) (n : Nat) : (Nat × Nat) × (Nat × Nat) :=
  (((m.steps.getLast?).map (fun s => s.begins.get (0, 0) n)).getD (0, 0), ((m.steps.head?).map (fun s => s.ends.get (0, 0) n)).getD (0, 0))

/-- A share × 256, rounded down and held at 255. -/
def share256 (part all : Nat) : Nat := if all = 0 then 0 else min 255 (part * 256 / all)

/-- The share of a lane's cycles in the window that are credit-stall cycles (Table 17-4). -/
def CMap.stalls (m : CMap) (l : Nat) : Nat :=
  let s := m.span (crateOf l)
  let n := s.2.1 - s.1.1
  share256 (countFrom (fun i => decide (Config.stallRow l i % 6 = 2)) s.1.1 n) n

/-- The share of a Combiner's issue-slot cycles in the window under a row of Table 17-5 after the first. -/
def CMap.slots (m : CMap) (n row : Nat) : Nat :=
  let s := m.span n
  let a := 4 * s.1.1 - s.1.2
  share256 (slotsUnder n row a ((4 * s.2.1 - s.2.2) - a)) (4 * (s.2.1 - s.1.1))

/-- The busy share of a die-bridge link or a stack's channel: the mean over the window of what it is in each step, which is free. -/
def CMap.load (m : CMap) (entry unit : Nat) : Nat := m.mean (fun s => min wholeStep (Config.channelLoad entry unit s.step))

/-- The longest wait of the requesters of an arbiter in the window, in cycles of an island of a frequency in MHz. -/
def CMap.longest (m : CMap) (mhz entry unit n : Nat) : Nat :=
  let a := cyclesIn mhz (((m.steps.getLast?).map (·.from_)).getD 0)
  let b := cyclesIn mhz (((m.steps.head?).map (·.till)).getD 0)
  min 0xFFFFFFFF ((List.range n).foldl (fun (x : Nat) r => max x (runsFrom (Config.waiting entry unit r) a (b - a)).2) 0)

/-- The mean over the window of a stack's reserved write rate as a share of its channel's 2.0 TB/s (R237; DEDUCED, assumption 72). -/
def CMap.reservedShare (m : CMap) (k : Nat) : Nat :=
  share256 (m.total (fun s => s.reserved.get 0 k)) (m.steps.length * (48 * 2000000))

/-- The 16 bytes of a lane. -/
def CMap.laneEntry (m : CMap) (l : Nat) : Nat :=
  let deep := m.steps.foldl (fun (a : Nat × Nat) s => let x := s.deep.get (0, 0) l; if x.1 > a.1 then x else a) (0, 0)
  let sent := m.total (fun s => (s.sent.get (0, 0, 0) l).1)
  let marked := m.total (fun s => (s.sent.get (0, 0, 0) l).2.1)
  packBits [(8, m.mean (fun s => s.tx.get 0 l)), (8, m.mean (fun s => s.rx.get 0 l)), (8, m.stalls l),
    (8, if sent = 0 then 0 else min 255 (marked * 256 / sent)), (32, deep.1), (4, 0), (4, deep.2),
    (8, ((m.ports.find? (fun p => decide (p.1 = l))).map (·.2)).getD 0),
    (16, min 0xFFFF (m.total (fun s => (s.sent.get (0, 0, 0) l).2.2))), (32, 0)]

/-- The 8 bytes of a Crate. -/
def CMap.crateEntry (m : CMap) (n : Nat) : Nat :=
  packBits [(8, m.slots n 1), (8, m.slots n 3), (8, m.slots n 2), (8, 0),
    (16, 8192 - m.most (fun s => (s.least.get (0, 0) n).1)), (16, 16384 - m.most (fun s => (s.least.get (0, 0) n).2))]

/-- The 17,632 bytes of a congestion map. One that an error struck has its Valid bit clear, and zeros behind its header, as R379 has
it of a snapshot record (R387, Table 17-7; DEDUCED, assumption 32). -/
def CMap.bytes (m : CMap) : List Byte :=
  let head := toBytes 64 (packBits [(32, 0x434D4150), (16, 1), (7, 0), (1, b2n m.valid), (8, 0), (64, m.endStep), (32, m.window),
    (96, m.place), (256, 0)])
  if m.valid then
    head ++ (List.range 1024).flatMap (fun l => toBytes 16 (m.laneEntry l)) ++
      (List.range 128).flatMap (fun n => toBytes 8 (m.crateEntry n)) ++
      (List.range 8).flatMap (fun y => toBytes 8 (packBits [(8, m.load 0x4780 (2 * y)), (8, m.load 0x4780 (2 * y + 1)), (16, 0),
        (32, max (m.longest 1600 0x4780 (y * 16) 8) (m.longest 1600 0x4780 (y * 16 + 8) 8))])) ++
      (List.range 12).flatMap (fun k => toBytes 8 (packBits [(8, m.load 0x9017 k), (8, m.reservedShare k), (16, 0),
        (32, m.longest 1000 0x9017 k 67)]))
  else head ++ List.replicate 17568 0

/-! ## Wide reads -/

/-- The read results of chapter 17: the snapshot, sample and map reads, and the maps held (R379, R386, R387). -/
def Dev.readWide (d : Dev) (i s : Nat) : Nat :=
  let t := d.tele
  if i = 0xA180 then
    match t.ring.find? (fun r => decide (r.step = d.imm 0xA180 1)) with
    | some r => recordAt r.bytes (d.imm 0xA180 2) 2048
    | none => 0
  else if i = 0xA380 then fields 512 ((List.range 32).map (fun k => d.sampleRead ((d.imm 0xA380 1 + k) % 2 ^ 64)))
  else if s = 3 then
    match t.maps[d.imm 0xA400 1]? with
    | some m => recordAt m.bytes (d.imm 0xA400 2) 2048
    | none => 0
  else fields 64 ((List.range 4).map (fun k => ((t.maps[k]?).map (·.endStep)).getD 0))

/-- A read of one of the entries of `readWide`. -/
def isWide (i s : Nat) : Bool := decide ((i = 0xA180 ∧ s = 3) ∨ (i = 0xA380 ∧ s = 2) ∨ (i = 0xA400 ∧ 3 ≤ s))

/-! ## Requests and export (R377, R387, R389) -/

/-- A named snapshot request in force: a step already named is accepted without change (Table 17-10). -/
def Dev.nameSnapshot (d : Dev) (k : Nat) : Dev :=
  d.modTele (fun t => { t with named := if k ∈ t.named then t.named else t.named ++ [k] })

/-- NAMED_SNAPSHOT_REQUEST in a commit of the current step: a step not earlier than it (Table 17-10). -/
def Dev.snapshotRequest (d : Dev) (k : Nat) : Dev := if k < d.step then d else d.nameSnapshot k

/-- A map request in force. -/
def Dev.nameMap (d : Dev) (y : Nat) : Dev :=
  d.modTele (fun t => { t with mapReqs := if y ∈ t.mapReqs then t.mapReqs else t.mapReqs ++ [y] })

/-- A map request is refused at a commit step: its window begins before it (Table 17-10). -/
def Dev.mapRefused (d : Dev) (x y : Nat) : Bool := decide (y + 1 < x + d.cfg 0xA000 5)

/-- CONGESTION_MAP_REQUEST in a commit of the current step (Table 17-10). -/
def Dev.mapRequest (d : Dev) (y : Nat) : Dev := if d.mapRefused d.step y then d else d.nameMap y

/-- TELEMETRY_SUBSCRIPTION: a session's write of 0xA000:07 (R389). -/
def Dev.teleSubscribe (d : Dev) (session v : Nat) : Dev :=
  if d.atticRuns ∧ v ≤ 3 then d.modSession session (fun s => { s with telemetry := v }) else d

/-- The bytes of a record that the Attic exports: of a snapshot without its zero fill (R389). -/
def Dev.exportBytes (d : Dev) (kind step : Nat) : List Byte :=
  if kind = 1 then ((d.tele.ring.find? (fun r => decide (r.step = step))).map Snap.bytes).getD []
  else ((d.tele.maps.find? (fun m => decide (m.endStep = step))).map CMap.bytes).getD []

/-- The body of the k-th TELEMETRY message of a record: up to 4,032 of its bytes (R389). -/
def teleBody (kind step : Nat) (b : List Byte) (k : Nat) : Body := .telemetry kind step (4032 * k) ((b.drop (4032 * k)).take 4032)

/-- One record in TELEMETRY messages to a session, in ascending offset (R389). -/
def Dev.sendRecord (d : Dev) (s : Session) (kind step : Nat) (b : List Byte) : Dev :=
  (List.range (ceilDiv b.length 4032)).foldl (fun (d : Dev) k =>
    d.sendMessage s.src s.lane s.id ⟨0x91, 0, 0, 0, teleBody kind step b k⟩) d

/-- A snapshot of an earlier step is still to be written. -/
def Dev.earlierComes (d : Dev) (step : Nat) : Bool :=
  d.tele.freeze.any (fun f => decide (f.step < step)) ||
    d.due.any (fun x => match x with | .snapshot k (some _) => decide (k < step) | _ => false)

/-- TELEMETRY: the Attic sends the record of the earliest step that waits to each session that subscribes to its kind, unless one of
an earlier step is still to come (R389). -/
def Dev.telemetry (d : Dev) : Dev :=
  match d.atticRuns, d.tele.toSend with
  | true, (kind, step) :: rest =>
    if d.earlierComes step then d
    else
      let b := d.exportBytes kind step
      let to_ := d.attic.sessions.filter (fun s => s.isOpen && bit s.telemetry (kind - 1))
      to_.foldl (fun (d : Dev) s => d.sendRecord s kind step b) (d.modTele (fun t => { t with toSend := rest }))
  | _, _ => d

end Sys2Proof.Machine
end

