-- ==== Sys2Proof/Machine/Services.lean ====
section
/-! DEFINITION. What the Attic and the Strongbox do on a write or of themselves: acknowledgements and notices, the port-group
reset, the clearing of arbiter records (R101, R355, R356, R363, R367). -/

namespace Sys2Proof.Machine

/-! ## Alerts and notices (R355, R356) -/

/-- An acknowledgement is refused: it is after the latest sequence (R355). -/
def Dev.ackRefused (d : Dev) (q : Nat) : Bool := seqAfter q d.log.latest

/-- ACKNOWLEDGE: a write of a sequence to 0xAF00:02 (R355). -/
def Dev.acknowledge (d : Dev) (q : Nat) : Dev :=
  if d.atticRuns = false ∨ d.ackRefused q = true then d else { d with log := { d.log with acked := q } }

/-- NOTICE_SUBSCRIPTION: a session's write of 0xAF00:07; new records are those after the latest now (R356). -/
def Dev.noticeSubscribe (d : Dev) (session v : Nat) : Dev :=
  if d.atticRuns ∧ v ≤ 4 then
    d.modSession session (fun s => { s with
      notices := if v = 4 then none else some v
      noticed := if s.notices = none then d.log.latest else s.noticed })
  else d

/-- The records that a session is still to be sent, in sequence order, at most 84 (R356). -/
def Dev.noticeRecords (d : Dev) (s : Session) : List Event :=
  match s.notices with
  | none => []
  | some v => (d.log.recs.reverse.filter (fun e => seqAfter e.seq s.noticed && decide (e.sev ≥ v))).take 84

/-- NOTICE: the Attic sends a session its new records in one message (R356). -/
def Dev.notice (d : Dev) (session : Nat) : Dev :=
  match d.session session with
  | none => d
  | some s =>
    let recs := d.noticeRecords s
    if d.atticRuns = false ∨ s.isOpen = false ∨ recs = [] then d
    else
      let last := (recs.map (·.seq)).getLastD s.noticed
      (d.modSession session (fun s => { s with noticed := last })).sendMessage s.src s.lane session
        ⟨0x90, 0, 0, recs.length, .notice recs⟩

/-! ## Health states (R363) -/

/-- CRATE_HEALTH_STATE_WRITE: a write of 0x6580+n:02 (R363). -/
def Dev.healthWrite (d : Dev) (n v : Nat) : Dev := if d.atticRuns ∧ v ≤ 1 then d.setHealth n v else d

/-! ## Arbiter records (R101, Table 04-8) -/

/-- Clears the stalled flags of every arbiter record of the device. -/
def Dev.clearStalled (d : Dev) : Dev :=
  { d with
    lanes := d.lanes.mapAll {} (fun _ l => { l with egress := { l.egress with stalled := [] } })
    crates := d.crates.mapAll {} (fun _ c => { c with path := { c.path with stalled := [] } })
    stackTab := d.stackTab.mapAll {} (fun _ s => { s with stalled := [] })
    arb := { d.arb with stalled := [] } }

/-- Clears every arbiter record of the device, and starts the shared pools' low-water marks anew. -/
def Dev.clearArbiters (d : Dev) : Dev :=
  let d := d.clearStalled
  let d := { d with
    lanes := d.lanes.mapAll {} (fun _ l => { l with egress := { l.egress with grants := {} } })
    crates := d.crates.mapAll {} (fun _ c => { c with path := { c.path with grants := {}, sharedLow := none } })
    arb := { d.arb with bridge := {}, since := d.time.ran } }
  allCrates.foldl (fun (d : Dev) n => d.modCrate n (fun c => { c with arbFrom := d.crateCycles n })) d

/-- ARBITER_RECORD_CLEAR_ALL: a write of 1 to 0x4003:01. -/
def Dev.arbiterClearAll (d : Dev) : Dev := if d.atticRuns then d.clearArbiters else d
/-- ARBITER_STALLED_FLAG_CLEAR: a write of 2 to 0x4003:01. -/
def Dev.arbiterClearFlags (d : Dev) : Dev := if d.atticRuns then d.clearStalled else d

/-! ## Port-group reset (R367) -/

/-- The buffers of a lane are emptied: replay, ingress or Cellar rings, staging (R367 step 4). -/
def Dev.emptyLane (d : Dev) (l : Nat) : Dev :=
  d.modLane l (fun x => { x with
    tx := { x.tx with replay := [], replayDue := none, replayOf := none, replays := 0 }
    rx := { x.rx with rings := x.rx.rings.mapAll {} (fun _ r => { r with runs := [] }), staged := [], rx := none } })

/-- A reset of a Crate's port group is in progress: it began less than its length ago, which is 4 µs at most and otherwise free
(R367; DESIGN CHOICE, assumption 76). -/
def Dev.resetting (d : Dev) (n : Nat) : Bool :=
  match (d.crate n).resetFrom with
  | some t => decide (d.time.ran < t + Config.resetLength n t % (4000 * 2 ^ 32 + 1))
  | none => false

/-- The frames that arrived on a Crate's lanes and are still held in its slice. -/
def Dev.sliceFrames (d : Dev) (n : Nat) : List Nat :=
  d.held.cells.filterMap (fun p => match p.2 with
    | some x => if x.crate = n ∧ x.lane.map crateOf = some n then some p.1 else none
    | none => none)

/-- Steps 1 to 4 of a port group's reset (R367): the locks fall before the queues are flushed, so that a transmission in progress is
abandoned by the same flush. -/
def Dev.resetGroup (d : Dev) (n : Nat) : Dev :=
  let ls := lanesOf n
  let up := (d.portsOf n).filter (fun p => d.portCarries p.1)
  let d := ls.foldl (fun (d : Dev) l => d.dropLock l) d
  let d := up.foldl (fun (d : Dev) p => d.flush (d.portLanes p.1)) d
  let d := d.evalCrate n
  let d := (d.sliceFrames n).foldl (fun (d : Dev) h => d.makeBad h) d
  let d := ls.foldl (fun (d : Dev) l => d.emptyLane l) d
  (d.modCrate n (fun c => { c with stamps := [], resetFrom := some d.time.ran })).raise 0x2050 n

/-- The port group of a Crate is reset; a reset of it that is in progress absorbs the request (R367). -/
def Dev.portGroupReset (d : Dev) (n : Nat) : Dev := if d.resetting n then d else d.resetGroup n

/-- PORT_GROUP_RESET: a write of a Crate number to 0x2800:04. -/
def Dev.portGroup (d : Dev) (n : Nat) : Dev := if d.atticRuns then d.portGroupReset n else d

end Sys2Proof.Machine
end

