-- ==== Sys2Proof/Machine/Inventory.lean ====
section
/-! DEFINITION. The Inventory service: reads, writes, transactions and the immediate entries (R304 to R309, R325, R342, R350). -/

namespace Sys2Proof.Machine

/-! ## Status codes (Table 14-4) -/

/-- The status of an item, a request or a commit (Table 14-4). -/
inductive Status where
  | ok | noEntry | access | length | range | coupled | tooNear | order | late | noTx | busy | stagingFull | conflict | context
  | truncated
  deriving DecidableEq, Repr

/-- The code of a status (Table 14-4). -/
def Status.code : Status → Nat
  | .ok => 0 | .noEntry => 1 | .access => 2 | .length => 3 | .range => 4 | .coupled => 5 | .tooNear => 6 | .order => 7
  | .late => 8 | .noTx => 9 | .busy => 0xA | .stagingFull => 0xB | .conflict => 0xC | .context => 0xD | .truncated => 0xE

/-- Bytes that the items of a response may take: the message limit less the header (R325, R344). -/
def bodyLimit : Nat := 4064 - 16

/-! ## Reads (R304, R306, R317, R324) -/

/-- The value in force that a read of a staged entry returns. An entry that each Crate, or each leaf-facing lane, brings into
force on its own reads the old value while any of them still holds it (R306, R311). The ring store of a lane with a ring role
reads 1 (Table 10-5). -/
def Dev.inForce (d : Dev) (index sub : Nat) : Nat :=
  let a := ad index sub
  if 0x9180 ≤ index ∧ index < 0x9200 ∧ d.isRing (8 * (index - 0x9180) + (sub - 1)) = true then 1
  else match d.inv.held.cells.find? (fun p => decide (p.1 % 2 ^ 24 = a ∧ (index = 0x4001 → d.role (p.1 / 2 ^ 24 - 1) = 1))) with
  | some p => p.2.getD (d.cfg index sub)
  | none => d.cfg index sub

/-- A read of a staged entry: its value in force, or its base value (R317). -/
def Dev.stagedRead (d : Dev) (index sub : Nat) (base : Bool) : Nat :=
  let x := if base then d.baseOf index sub else d.inForce index sub
  if 0x3400 ≤ index ∧ index < 0x3408 then d.chuteMap (index - 0x3400) x else x

/-- The value of an RO entry as a response carries it: a digest by what it is taken over (R320, R321). -/
def Dev.readOnly (d : Dev) (v : Nv) (index sub : Nat) : RVal :=
  if index = 0xF000 ∧ sub = 5 then .deviceDigest d.inv.base d.mac
  else if index = 0xF010 then .regionDigest (sub - 1) d.inv.base d.mac
  else if index = 0xF020 then .indexDigest (d.imm 0xF020 1) d.inv.base d.mac
  else if isWide index sub then .num (d.readWide index sub)
  else .num (d.readRo v index sub)

/-- The answer to one item of a READ (Table 14-9). -/
def Dev.readItem (d : Dev) (v : Nv) (r : ReadItem) : RespItem :=
  let bad := fun (s : Status) => (⟨r.index, r.sub, s.code, 0, 0, none⟩ : RespItem)
  if r.sub = 0 then
    match maxSub r.index with
    | some m => ⟨r.index, 0, 0, EType.u8.code, 1, some (.num m)⟩
    | none => bad .noEntry
  else match famOf r.index r.sub with
    | none => bad .noEntry
    | some f =>
      let good := fun (x : RVal) => (⟨r.index, r.sub, 0, f.ty.code, f.ty.len, some x⟩ : RespItem)
      match f.acc with
      | .wo => bad .access
      | .staged => good (.num (d.stagedRead r.index r.sub r.baseFlag))
      | .rw => good (.num (d.imm r.index r.sub))
      | .ro => good (d.readOnly v r.index r.sub)

/-- The answers to the items of a READ, in order, while they fit the space left; the first that does not fit is answered
TRUNCATED where its answer without the value fits, and no later item is answered (R325). -/
def Dev.readItems (d : Dev) (v : Nv) : List ReadItem → Nat → List RespItem
  | [], _ => []
  | r :: rest, space =>
    let a := d.readItem v r
    if 8 + a.len ≤ space then a :: d.readItems v rest (space - 8 - a.len)
    else if 8 ≤ space then [⟨r.index, r.sub, Status.truncated.code, 0, 0, none⟩]
    else []

/-! ## Transactions (R308, R309) -/

/-- The open transaction of an ID. -/
def Dev.trans (d : Dev) (id : Nat) : Option Trans := d.inv.trans.find? (fun t => decide (t.id = id))

/-- Discards an open transaction. -/
def Dev.closeTrans (d : Dev) (id : Nat) : Dev :=
  d.modInv (fun v => { v with trans := v.trans.filter (fun t => decide (t.id ≠ id)) })

/-- The staged values of a transaction: address and value, ascending. -/
def Trans.values (t : Trans) : List (Nat × Nat) := t.staged.cells.filterMap (fun p => p.2.map (fun q => (p.1, q.1)))

/-- What a transaction stages but for one address, in bytes: each entry its length and 6 more (R308). -/
def Trans.bytesBut (t : Trans) (a : Nat) : Nat :=
  t.staged.cells.foldl (fun (n : Nat) p => if p.1 = a then n else n + ((p.2.map (·.2)).getD 0) + 6) 0

/-- The next transaction ID: from 1 to 65,535, rising, and never one that is open (R308). -/
def Dev.nextTrans (d : Dev) : Nat :=
  (((List.range 5).map (fun i => (d.inv.lastTrans + i) % 65535 + 1)).find? (fun i => (d.trans i).isNone)).getD 1

/-- An OPEN: the ID of a new transaction, none when four are open (R308). -/
def Dev.openTrans (d : Dev) (session : Nat) : Option Nat × Dev :=
  if d.inv.trans.length ≥ 4 then (none, d)
  else
    let id := d.nextTrans
    (some id, d.modInv (fun v => { v with trans := v.trans ++ [{ id := id, session := session }], lastTrans := id }))

/-- Stages a value in a transaction; a later write of the entry replaces the earlier one (R309). -/
def Dev.stageValue (d : Dev) (id a x len : Nat) : Dev :=
  d.modInv (fun v => { v with trans := v.trans.map (fun (t : Trans) =>
    if t.id = id then { t with staged := t.staged.put none a (some (x, len)) } else t) })

/-- ABORT: discards the transaction (R309). -/
def Dev.abortTrans (d : Dev) (id : Nat) : Status × Dev :=
  if (d.trans id).isSome then (.ok, d.closeTrans id) else (.noTx, d)

/-- TRANSACTION_EXPIRY: a transaction without a request for the staging timeout is aborted, event 0xF005 (R309). -/
def Dev.transExpiry (d : Dev) (id : Nat) : Dev :=
  if d.atticRuns && (d.trans id).isSome then (d.closeTrans id).raise 0xF005 0 id else d

/-! ## The checks of one write (R305, R306, R309, R342, R350) -/

/-- Encodings that an entry's layout reserves, beyond its family's range: a flow context that breaks Table 06-2, a context
command that Table 08-5 refuses, a life-cycle request or a restart or reset request without the confirmation (R144, R173,
R343, R350). -/
def Dev.layoutOk (d : Dev) (index sub x : Nat) : Bool :=
  if index = 0x7400 then !(bit x 543) || (Flow.ofNat x).ok
  else if index = 0x1000 then
    decide (1 ≤ bytesAt 72 x 0 0 ∧ bytesAt 72 x 0 0 ≤ 3 ∧ bytesAt 72 x 4 7 = d.confirmation)
  else if index = 0xC000 ∧ (sub = 3 ∨ sub = 12) then decide (x = d.confirmation)
  else true

/-- The entries that a device in RETURNED lets be written (Table 15-6). -/
def returnedWrite (index sub : Nat) : Bool :=
  decide ((index = 0xB100 ∧ sub = 1) ∨ (index = 0xC000 ∧ (sub = 3 ∨ sub = 12)))

/-- The status of one write before it is staged or carried out: its address, access, length and range, in this order. -/
def Dev.writeStatus (d : Dev) (v : Nv) (inside : Bool) (w : WriteItem) : Status :=
  match famOf w.index w.sub with
  | none => if w.sub = 0 ∧ (maxSub w.index).isSome then .access else .noEntry
  | some f =>
    if f.acc = .ro ∨ decide (f.com = .imm) = inside ∨ (v.fuses.life = 3 ∧ returnedWrite w.index w.sub = false) then .access
    else if w.len ≠ f.ty.len then .length
    else if f.ok (w.index - f.base) w.value && d.layoutOk w.index w.sub w.value then .ok
    else .range

/-! ## Immediate entries (R306) -/

/-- A write of an IMMEDIATE entry, at once: its status and the device after it. A refusal that depends on the device's state is
answered COUPLED. -/
def Dev.writeNow (d : Dev) (session index sub x : Nat) : Status × Dev :=
  let done := fun (d : Dev) => ((.ok, d) : Status × Dev)
  let guarded := fun (refused : Bool) (e : Dev) => if refused then ((.coupled, d) : Status × Dev) else (.ok, e)
  if index = 0x2800 then done (d.portGroupReset x)
  else if index = 0x4003 then done (if x = 1 then d.clearArbiters else d.clearStalled)
  else if 0x6580 ≤ index ∧ index < 0x6600 then done (d.setHealth (index - 0x6580) x)
  else if index = 0x8000 ∧ sub = 16 then guarded (d.ppsRefused x) (d.nextPps x)
  else if index = 0x8000 ∧ sub = 17 then guarded (decide (d.timeRole ≠ 3)) (d.atticFrequency (toSigned 32 x))
  else if index = 0x8000 then guarded (decide (d.timeRole ≠ 3)) (d.atticPhase (toSigned 64 x))
  else if index = 0xA000 then done (d.teleSubscribe session x)
  else if index = 0xAF00 ∧ sub = 2 then guarded (d.ackRefused x) (d.acknowledge x)
  else if index = 0xAF00 ∧ sub = 7 then done (d.noticeSubscribe session x)
  else if index = 0xB100 then done (d.attest x)
  else if index = 0xC000 ∧ sub = 3 then done (d.modAttic (fun a => { a with restartDue := true }))
  else if index = 0xC000 ∧ sub = 9 then guarded (decide (x = 1 ∧ d.attic.trial = false)) (if x = 1 then d.trialConfirm else d)
  else if index = 0xC000 then done (d.modAttic (fun a => { a with resetDue := true }))
  else done (d.setImm index sub x)

/-- One item of a WRITE: checked, then staged in the transaction, or carried out where the entry is IMMEDIATE (R306 to
R309). -/
def Dev.writeItem (d : Dev) (v : Nv) (session trans : Nat) (w : WriteItem) : Status × Dev :=
  if trans = 0 then
    match d.writeStatus v false w with
    | .ok => d.writeNow session w.index w.sub w.value
    | s => (s, d)
  else match d.trans trans with
    | none => (.noTx, d)
    | some t =>
      match d.writeStatus v true w with
      | .ok =>
        if t.bytesBut (ad w.index w.sub) + w.len + 6 > 2 ^ 20 then (.stagingFull, d)
        else (.ok, d.stageValue trans (ad w.index w.sub) w.value w.len)
      | s => (s, d)

/-- The items of a WRITE in order, while their answers fit: one that is not answered is not carried out (R325). -/
def Dev.writeItems (d : Dev) (v : Nv) (session trans : Nat) : List WriteItem → Nat → List RespItem × Dev
  | [], _ => ([], d)
  | w :: rest, space =>
    if 4 ≤ space then
      let r := d.writeItem v session trans w
      let q := r.2.writeItems v session trans rest (space - 4)
      (⟨w.index, w.sub, r.1.code, 0, 0, none⟩ :: q.1, q.2)
    else ([], d)

end Sys2Proof.Machine
end

