-- ==== Sys2Proof/Machine/Commits.lean ====
section
/-! DEFINITION. The checks of a commit on the configuration at its step (R30, R103, R105, R109, R118, R119, R122, R171, R173,
R225, R233, R236, R237, R270, R274, R275, R299, R310, R311, R317 to R319, R343). -/

namespace Sys2Proof.Machine

/-! ## The configuration at X (R311) -/

/-- The device with another base table and other held values. -/
def Dev.under (d : Dev) (b : Tab Nat) (held : Tab (Option Nat)) : Dev := d.modInv (fun v => { v with base := b, held := held })

/-- A base table with the RW-STAGED values of a list. A value is held, read back and digested as it was written, its reserved bits
among it (R5 asks only that they be ignored: DESIGN CHOICE, assumption 73). -/
def Dev.putStaged (d : Dev) (b : Tab Nat) (l : List (Nat × Nat)) : Tab Nat :=
  l.foldl (fun (b : Tab Nat) p => if isStaged (p.1 / 256) (p.1 % 256) then b.put (d.defaultOf p.1) p.1 p.2 else b) b

/-- The base values once every sealed commit has applied. -/
def Dev.baseBefore (d : Dev) : Tab Nat := d.inv.sealed.foldl (fun (b : Tab Nat) s => d.putStaged b s.staged) d.inv.base

/-- The addresses that an overlay item may cover (Table 14-5). -/
def itemAddrs (item : Nat) : List Nat :=
  let index := bytesAt 16 item 0 1
  let sub := bytesAt 16 item 2 2
  let scope := bits (bytesAt 16 item 3 3) 7 5
  if item = 0 then []
  else if scope = 0 then [ad index sub]
  else if scope = 1 then (List.range 128).map (fun n => ad (index + n) sub)
  else allLanes.map (fun l => ad (index + crateOf l) (laneIn l + 1))

/-- The addresses whose value changes from one base table to another, among those written and those that active items cover. -/
def Dev.changed (d : Dev) (b0 b1 : Tab Nat) (written : List Nat) : List Nat :=
  let items := d.activeItems b0 ++ d.activeItems b1
  ((written ++ items.flatMap itemAddrs).eraseDups).filter (fun a => decide (d.targetIn b0 a ≠ d.targetIn b1 a))

/-- The commit class of an address. -/
def commitOf (a : Nat) : Option Commit :=
  match famOf (a / 256) (a % 256) with | some f => some f.com | none => none

/-- The lane of an address of a family of 128 indices by lane. -/
def laneOfAddr (a : Nat) : Nat := 8 * (a / 256 % 128) + (a % 256 - 1)

/-- A QUIESCE entry counts as applied at X: its quiesce condition follows from a configuration (R311). -/
def Dev.settledAtX (c : Dev) (a : Nat) : Bool :=
  let i := a / 256
  let l := laneOfAddr a
  let idle := !(c.enabled (c.portOf l).1) || decide (c.role l = 0)
  if 0x2100 ≤ i ∧ i < 0x2180 then decide (c.cfg i 2 = 0)
  else if (0x2300 ≤ i ∧ i < 0x2380) ∨ (0x3200 ≤ i ∧ i < 0x3280) ∨ (0x9180 ≤ i ∧ i < 0x9200) then idle
  else if i = 0x5000 then allLanes.all (fun l => !(c.isRing l))
  else if i = 0x6000 then decide (c.cfg 0x6000 1 = 0)
  else false

/-- The old value of a QUIESCE entry: the one in force while it is held, else that of the configuration before. -/
def Dev.oldValue (d : Dev) (b0 : Tab Nat) (a : Nat) : Nat :=
  match d.inv.held.cells.find? (fun p => decide (p.1 % 2 ^ 24 = a)) with
  | some p => p.2.getD (d.targetIn b0 a)
  | none => d.targetIn b0 a

/-- The old values of the QUIESCE entries that a commit leaves pending. -/
def Dev.pendingOld (d : Dev) (b0 b1 : Tab Nat) (written : List Nat) : Tab (Option Nat) :=
  let c0 := d.under b0 {}
  ((d.changed b0 b1 written).filter (fun a => decide (commitOf a = some .quiesce) && !(c0.settledAtX a))).foldl
    (fun (t : Tab (Option Nat)) a => t.put none a (some (d.oldValue b0 a))) {}

/-! ## Overlays (R318, R319) -/

/-- The type of an entry that an overlay item may name. -/
def EType.narrow : EType → Bool
  | .bitmap b => decide (b ≤ 64)
  | .blob _ => false
  | .digest => false
  | _ => true

/-- An item's value is one of an entry's type, extended to 64 bits (Table 14-5). -/
def EType.extends (t : EType) (x : Nat) : Bool :=
  match t with
  | .i32 => decide (x = ofSigned 64 (toSigned 32 x))
  | t => decide (x < 2 ^ (8 * t.len))

/-- An overlay item keeps R318. -/
def itemOk (item : Nat) : Bool :=
  let index := bytesAt 16 item 0 1
  let sub := bytesAt 16 item 2 2
  let scope := bits (bytesAt 16 item 3 3) 7 5
  let x := item % 2 ^ 64
  let r := index / 4096
  if item = 0 then true
  else if scope > 4 ∨ r = 1 ∨ r = 0xB ∨ r = 0xC ∨ r = 0xF ∨ (0x2180 ≤ index ∧ index < 0x2200) ∨
      (scope ≥ 1 ∧ index % 128 ≠ 0) ∨ (scope ≥ 2 ∧ sub ≠ 0) then false
  else match famOf index (if scope ≥ 2 then 1 else sub) with
    | none => false
    | some f =>
      decide (f.acc = .staged) && f.ty.narrow && f.ty.extends x &&
      (if scope = 0 then f.ok (index - f.base) (itemValue item f.ty.len)
       else decide (f.base = index ∧ f.n = 128) && (decide (scope = 1) || decide (f.lo = 1 ∧ f.hi = 8)) &&
         (List.range 128).all (fun n => f.ok n (itemValue item f.ty.len)))

/-- The first overlay item, active or not, that breaks R318. -/
def Dev.itemFault (d : Dev) (b : Tab Nat) : Option Nat :=
  (List.range 8).findSome? (fun k => (List.range 64).findSome? (fun s =>
    let a := ad (0xF100 + k) (s + 1)
    if itemOk (d.baseIn b a) then none else some a))

/-- Two items would give one entry different values (R319). -/
def Dev.itemsDiffer (d : Dev) (b : Tab Nat) (i j : Nat) : Bool :=
  (itemAddrs i).any (fun a => d.itemCovers b i a && d.itemCovers b j a &&
    (match famOf (a / 256) (a % 256) with
     | some f => decide (itemValue i f.ty.len ≠ itemValue j f.ty.len)
     | none => false))

/-- The first active item, in overlay and item order, that would give an entry another value than an earlier one (R319). -/
def Dev.itemsConflict (d : Dev) (b : Tab Nat) : Option Nat :=
  let items := (setBits 8 (d.baseIn b (ad 0xF000 2))).flatMap (fun k =>
    (List.range 64).filterMap (fun s =>
      let a := ad (0xF100 + k) (s + 1)
      let v := d.baseIn b a
      if v = 0 then none else some (a, v)))
  (items.find? (fun p => (items.takeWhile (fun q => decide (q.1 ≠ p.1))).any (fun q => d.itemsDiffer b q.2 p.2))).map (·.1)

/-! ## Coupled rules on one configuration: each answers an address at which it fails -/

/-- The families that every lane of one port must hold alike (R30, Tables 05-5, 06-3, 10-5, 11-11, 12-4). -/
def Dev.alikeFams (c : Dev) (l : Nat) : List Nat :=
  [0x2180, 0x2200] ++ (if c.planId l = 0 then [] else [0x2280]) ++ [0x2300, 0x3200, 0x3480, 0x7100] ++
    (if c.isRing l then [0x5200] else [0x9180])

/-- The lanes of every port are alike, and enable and fence bits stand at first lanes only (R30). -/
def Dev.portFault (c : Dev) (n : Nat) : Option Nat :=
  let ports := c.portsOf n
  let firsts := ports.foldl (fun (m : Nat) p => setBit m (laneIn p.1)) 0
  let stray := fun (sub : Nat) => (List.range 8).any (fun k => bit (c.cfg (0x2100 + n) sub) k && !(bit firsts k))
  let apart := ports.findSome? (fun p =>
    ((List.range p.2).drop 1).findSome? (fun k =>
      (c.alikeFams p.1).findSome? (fun fam =>
        if c.laneCfg fam (p.1 + k) = c.laneCfg fam p.1 then none else some (ad (fam + n) (laneIn (p.1 + k) + 1)))))
  match apart with
  | some a => some a
  | none => if stray 2 then some (ad (0x2100 + n) 2) else if stray 3 then some (ad (0x2100 + n) 3) else none

/-- Ring lanes: their number and split (R25), the hall count and index and the date line (R122, Table 05-5), and no identity that
a ring lane and a leaf-facing lane both expect (R30). -/
def Dev.ringFault (c : Dev) : Option Nat :=
  let roles := allLanes.map c.role
  let east := (roles.filter (fun r => decide (r = 2))).length
  let west := (roles.filter (fun r => decide (r = 3))).length
  let halls := c.cfg 0x5000 2
  let first := allLanes.find? c.isRing
  let at_ := match first with | some l => ad (0x2180 + crateOf l) (laneIn l + 1) | none => ad 0x5000 2
  let ids := if first.isNone then [] else (allLanes.filter c.isRing).map c.planId
  if east + west ≠ 0 ∧ (east ≠ west ∨ east < 32 ∨ east > 128) then some at_
  else if halls = 1 ∧ east + west ≠ 0 then some (ad 0x5000 2)
  else if halls ≥ 2 ∧ (c.cfg 0x2000 2 ≥ halls ∨ c.cfg 0x5000 3 ≥ halls) then some (ad 0x5000 2)
  else if ids.isEmpty then none
  else (allLanes.find? (fun l => decide (c.role l = 1 ∧ c.planId l ≠ 0 ∧ c.planId l ∈ ids))).map (fun l =>
    ad (0x2200 + crateOf l) (laneIn l + 1))

/-- The sum of the leaf-facing ring sizes, in cells. -/
def Dev.ringCells (c : Dev) : Nat := (List.range 10).foldl (fun (a : Nat) k => a + c.cfg 0x4001 (k + 1)) 0

/-- Ring sizes and accounts fit a slice, on Crate 0 with the Attic account, which is the stricter (R103). -/
def Dev.sliceFault (c : Dev) : Option Nat :=
  if 8 * c.ringCells + c.cfg 0x4000 3 + c.cfg 0x4000 4 > 8192 then
    some (((List.range 10).find? (fun k => decide (c.cfg 0x4001 (k + 1) > ringDefault (k + 1)))).elim (ad 0x4000 3) (fun k => ad 0x4001 (k + 1)))
  else none

/-- A route entry breaks R105 under a hall. -/
def Dev.routeBad (c : Dev) (hall e : Nat) : Bool :=
  let kind := bits e 15 14
  let p := bits e 9 0
  if kind = 1 then
    !(decide (hall = c.cfg 0x2000 2 ∧ (c.portOf p).1 = p) && (c.portLanes p).all (fun k => decide (c.role k = 1)))
  else if kind = 2 then decide (hall = c.cfg 0x2000 2 ∨ hall ≥ c.cfg 0x5000 2 ∨ c.cfg 0x5000 2 < 2)
  else false

/-- Every route entry in place keeps R105. -/
def Dev.routeFault (c : Dev) : Option Nat :=
  (c.inv.base.cells.find? (fun p =>
    decide (0x5100 * 256 ≤ p.1 ∧ p.1 < 0x5120 * 256) &&
      (List.range 256).any (fun k => c.routeBad (p.1 / 256 % 16) (bytesAt 512 p.2 (2 * k) (2 * k + 1))))).map (·.1)

/-- A group's members break R118. -/
def Dev.groupBad (c : Dev) (map : Nat) : Bool :=
  let ms := setBits 1024 map
  let of_ := fun (r : Nat) => (ms.filter (fun m => decide (c.role m = r))).length
  ms.any (fun m => decide ((c.portOf m).1 ≠ m) || (c.portLanes m).any (fun k => decide (c.role k = 0))) ||
    decide (of_ 1 ≠ 0 ∧ of_ 2 + of_ 3 ≠ 0) || decide (of_ 2 > 1 ∨ of_ 3 > 1)

/-- Every group in place keeps R118. -/
def Dev.groupFault (c : Dev) : Option Nat :=
  (c.inv.base.cells.find? (fun p => decide (0x5400 * 256 ≤ p.1 ∧ p.1 < 0x5800 * 256) && c.groupBad p.2)).map (·.1)

/-- The Cellar: policing has a flow store (R233), replay buffers and ring shares fit (R236), reserved writes (R237), on-chip
staging for leaf-facing Cellar-store lanes (Table 10-5), the sample ring and the archive (Table 17-10). -/
def Dev.cellarFault (c : Dev) : Option Nat :=
  let rings := c.ringLanes
  let stores := allLanes.filter c.cellarStore
  let share := ceilDiv (stores.foldl (fun (a : Nat) l =>
    a + (List.range 10).foldl (fun (b : Nat) k => b + cellarRing (c.laneCfg 0x9100 l) k) 0) 0) 12
  let replay := fun (k : Nat) => (rings.filter (fun p => decide (6 * (p.1 / 512) + p.1 % 6 = k))).length * 1024
  if c.cfg 0x7000 2 = 1 ∧ c.cfg 0x9000 1 = 0 then some (ad 0x7000 2)
  else if (List.range 12).any (fun k => decide (replay k + share > c.cfg (0x9010 + k) 1 * 1024)) then some (ad 0x9010 1)
  else if (List.range 12).any (fun k => decide (reserved48 k rings > 1700000 * 48)) then
    some (match rings with | p :: _ => ad (0x2180 + crateOf p.1) (laneIn p.1 + 1) | [] => 0)
  else if c.ringCells < 256 ∧ stores.any (fun l => decide (c.role l = 1)) = true then some (ad 0x4001 1)
  else if c.cfg 0xA000 6 ≠ 0 ∧ c.cfg 0xA000 6 ≥ c.cfg 0x9000 3 then some (ad 0xA000 6)
  else none

/-- Pairs of levels that a table couples (R270, Tables 05-5, 17-10), and one code in two severity slots (Table 16-8). -/
def Dev.pairFault (c : Dev) : Option Nat :=
  let codes := (List.range 32).filterMap (fun s =>
    let x := c.cfg 0xAF10 (s + 1)
    if bit x 31 then some (x % 65536) else none)
  if c.cfg 0x3000 7 ≥ c.cfg 0x3000 8 then some (ad 0x3000 7)
  else if toSigned 32 (c.cfg 0x3000 10) ≤ toSigned 32 (c.cfg 0x3000 11) then some (ad 0x3000 10)
  else if c.cfg 0xA000 4 ≠ 0 ∧ c.cfg 0xA000 4 < c.cfg 0xA000 5 then some (ad 0xA000 4)
  else if ¬ codes.Nodup then some (ad 0xAF10 1)
  else ((List.range 8).find? (fun t => decide (c.cfg (0x5300 + t) 3 < c.cfg (0x5300 + t) 2))).map (fun t => ad (0x5300 + t) 3)

/-- Chute maps: no receive fibre twice (R274), no enabled port at a fibre pair in a circuit (R275). -/
def Dev.chuteFault (c : Dev) : Option Nat :=
  ((List.range 8).find? (fun h =>
    let m := c.baseOf (0x3400 + h) 1
    decide (m ≠ 0) && (mapDoubles m || (setBits 16 (mapPairs m)).any (fun f =>
      (c.portsOf (16 * h + f)).any (fun p => c.enabled p.1))))).map (fun h => ad (0x3400 + h) 1)

/-- The first address at which a configuration breaks a coupled rule. -/
def Dev.configFault (c : Dev) : Option Nat :=
  [allCrates.findSome? c.portFault, c.ringFault, c.sliceFault, c.routeFault, c.groupFault, c.cellarFault, c.pairFault,
    c.chuteFault].findSome? id

/-! ## Context records and commands (R171, R173) -/

/-- The install records of a commit: slot and record. -/
def installsOf (staged : List (Nat × Nat)) : List (Nat × Nat) :=
  staged.filterMap (fun p =>
    let r := readInstall p.2
    if p.1 / 256 = 0x6100 ∧ r.1 = true then some (p.1 % 256, r.2) else none)

/-- The context commands of a commit: slot and command. -/
def commandsOf (staged : List (Nat × Nat)) : List (Nat × CtxCmd) :=
  staged.filterMap (fun p =>
    let r := readCmd p.2
    if p.1 / 256 = 0x6180 ∧ r.valid = true then some (0x40 + p.1 % 256, r) else none)

/-- A context as it stands once a RETIRE has applied: DRAINING, with all that it holds (R171); of a PARKED one under RETIRE-FREE
that is its ID alone, which an empty crate set says. -/
def Dev.retireMark (d : Dev) (ctx : Nat) (park : Bool) : Dev :=
  d.modCtx ctx (fun x =>
    if x.state = .parked then (if park then x else { x with state := .draining, park := false, crates := [] })
    else { x with state := .draining, park := park })

/-- A context as it stands once an install has applied, for its resources. -/
def Dev.installMark (d : Dev) (r : Nat) : Dev :=
  match d.ctxAt (rCtx r) with
  | some _ => d
  | none => d.putCtx (rCtx r) (some (d.seated r))

/-- A context as it stands once an ARM or a RESET has applied, for its resources. -/
def Dev.armMark (d : Dev) (ctx gen : Nat) : Dev :=
  d.modCtx ctx (fun x => { (if x.state = .parked then d.seated x.record else x) with
    state := .armed, armGen := gen, touched := false })

/-- The contexts as they stand once the context changes of a commit have applied. -/
def Dev.contextsAfter (d : Dev) (staged : List (Nat × Nat)) : Dev :=
  let cmds := commandsOf staged
  let d := cmds.foldl (fun (d : Dev) p => if p.2.cmd ≥ 3 then d.retireMark p.2.ctx (decide (p.2.cmd = 3)) else d) d
  let d := (installsOf staged).foldl (fun (d : Dev) p => d.installMark p.2) d
  cmds.foldl (fun (d : Dev) p => if p.2.cmd ≤ 2 then d.armMark p.2.ctx p.2.gen else d) d

/-- The first refusal among install slots, in slot order: slot, code and context; and the device with the installs before it. -/
def Dev.installFault (d : Dev) (all : List (Nat × Nat)) : List (Nat × Nat) → Option (Nat × Nat × Nat × Nat) × Dev
  | [] => (none, d)
  | p :: rest =>
    let c := rCtx p.2
    let twice := decide ((all.filter (fun q => decide (rCtx q.2 = c))).length > 1)
    let code := if twice then 0xE else d.installCode p.2
    if code = 0 then (d.installMark p.2).installFault all rest else (some (p.1, code, c, 0), d)

/-- The first refusal among command slots, in slot order. A RETIRE applies before the installs, ARM and RESET after them:
`pre` and `post` are the contexts that each finds. -/
def commandFault (all : List (Nat × CtxCmd)) : List (Nat × CtxCmd) → Dev → Dev → Option (Nat × Nat × Nat × Nat) × Dev
  | [], _, post => (none, post)
  | p :: rest, pre, post =>
    let c := p.2
    let twice := decide ((all.filter (fun q => decide (q.2.ctx = c.ctx))).length > 1)
    let code := if twice then 0xE
      else if c.cmd = 0 ∨ 4 < c.cmd ∨ c.ctx = 0 then 4
      else if c.cmd = 1 then post.armCode c.ctx c.gen
      else if c.cmd = 2 then post.resetCode c.ctx
      else pre.retireCode c.ctx (decide (c.cmd = 3))
    if code ≠ 0 then (some (p.1, code, c.ctx, if c.cmd = 1 ∨ c.cmd = 2 then c.gen else 0), post)
    else if c.cmd ≤ 2 then commandFault all rest pre (post.armMark c.ctx c.gen)
    else commandFault all rest (pre.retireMark c.ctx (decide (c.cmd = 3))) post

/-- The first refusal among the install and command slots of a commit, and the contexts as they will stand (R171, R173). -/
def Dev.contextFault (d : Dev) (staged : List (Nat × Nat)) : Option (Nat × Nat × Nat × Nat) × Dev :=
  let ins := installsOf staged
  let cmds := commandsOf staged
  let held := cmds.foldl (fun (d : Dev) p => if p.2.cmd ≥ 3 then d.retireMark p.2.ctx (decide (p.2.cmd = 3)) else d) d
  let r := held.installFault ins ins
  match r.1 with
  | some f => (some f, r.2)
  | none => commandFault cmds cmds d r.2

/-! ## The device at X (R171, R311) -/

/-- The values that a commit stages for the entries of an index range: address and value. -/
def stagedIn (staged : List (Nat × Nat)) (lo hi : Nat) : List (Nat × Nat) :=
  staged.filter (fun p => decide (lo ≤ p.1 / 256 ∧ p.1 / 256 < hi))

/-- The value that a commit stages for an entry. -/
def stagedAt (staged : List (Nat × Nat)) (index sub : Nat) : Option Nat :=
  (staged.find? (fun p => decide (p.1 = ad index sub))).map (·.2)

/-- The Crates whose remap target differs between two base tables, with the new target. -/
def Dev.remapsOf (d : Dev) (b0 b1 : Tab Nat) : List (Nat × Nat) :=
  allCrates.filterMap (fun n =>
    let t := d.targetIn b1 (ad (0x6380 + n) 2)
    if d.targetIn b0 (ad (0x6380 + n) 2) = t then none else some (n, t))

/-- The device at a step to come, its route version retired where that step has it. -/
def Dev.atStep (d : Dev) (x : Nat) : Dev :=
  let d := d.modTime (fun t => { t with step := x })
  if d.versions.retire ≤ x then d.retire else d

/-- The device as it stands once a sealed commit has applied, as far as the checks of a later one look. -/
def Dev.afterSealed (d : Dev) (s : Sealed) : Dev :=
  let d := d.atStep s.step
  let b := d.putStaged d.inv.base s.staged
  let moves := d.remapsOf d.inv.base b
  let d := d.under b d.inv.held
  let d := moves.foldl (fun (d : Dev) p => d.remapApply p.1 p.2) d
  let d := d.contextsAfter s.staged
  let d := match stagedAt s.staged 0x5000 7 with | some v => d.prepare v | none => d
  match stagedAt s.staged 0x5000 8 with | some v => d.flip v | none => d

/-- The device at X before this commit: every sealed commit has applied. -/
def Dev.devAt (d : Dev) (x : Nat) : Dev := (d.inv.sealed.foldl (fun (d : Dev) s => d.afterSealed s) d).atStep x

/-! ## Coupled rules on the state of blocks: each answers an address at which it fails -/

/-- The route version of an index of region 0x5100. -/
def versionOfRoute (index : Nat) : Nat := (index - 0x5100) / 16

/-- A version that is not IDLE holds a kind 3 entry that names a group (R119). -/
def Dev.groupNamed (q : Dev) (g : Nat) : Bool :=
  q.inv.base.cells.any (fun p =>
    decide (0x5100 * 256 ≤ p.1 ∧ p.1 < 0x5120 * 256 ∧ q.versions.state (versionOfRoute (p.1 / 256)) ≠ .idle) &&
      (List.range 256).any (fun k =>
        let e := bytesAt 512 p.2 (2 * k) (2 * k + 1)
        decide (bits e 15 14 = 3 ∧ (2 * bits e 12 0 = g ∨ 2 * bits e 12 0 + 1 = g))))

/-- Route and group writes, prepare and flip against the versions at X (R109, R119). -/
def Dev.versionFault (q : Dev) (staged : List (Nat × Nat)) : Option Nat :=
  let routes := (stagedIn staged 0x5100 0x5120).find? (fun p => decide (q.versions.state (versionOfRoute (p.1 / 256)) ≠ .idle))
  let groups := (stagedIn staged 0x5400 0x5800).find? (fun p => q.groupNamed (64 * (p.1 / 256 - 0x5400) + (p.1 % 256 - 1)))
  match routes, groups with
  | some p, _ => some p.1
  | none, some p => some p.1
  | none, none =>
    let prep := stagedAt staged 0x5000 7
    let bad := match prep with | some v => decide (q.versions.state v ≠ VState.idle) | none => false
    let after := match prep with | some v => q.prepare v | none => q
    if bad then some (ad 0x5000 7)
    else match stagedAt staged 0x5000 8 with
      | some v => if after.versions.state v = VState.prepared then none else some (ad 0x5000 8)
      | none => none

/-- Result accounts and holding slots against the contexts at X (R217, Tables 04-8 and 08-9). -/
def Dev.shareFault (c : Dev) : Option Nat :=
  if allCrates.any (fun n => decide (c.shareCells n ≠ 0 ∧ c.cfg 0x4000 3 < c.shareCells n + 17)) then some (ad 0x4000 3)
  else if allCrates.any (fun n => decide (c.quotaSlots n + c.cfg 0x6000 1 > 240)) then some (ad 0x6000 1)
  else none

/-- Remaps against the contexts at X, one after the other; and the device with them in place (R225). -/
def Dev.remapFault (q : Dev) : List (Nat × Nat) → Option Nat × Dev
  | [] => (none, q)
  | p :: rest =>
    if q.remapRefused p.1 p.2 then (some (ad (0x6380 + p.1) 2), q)
    else ((q.remapApply p.1 p.2).setBase (ad (0x6380 + p.1) 2) p.2).remapFault rest

/-- Chute map writes against the Chutes (R274). -/
def Dev.chuteWriteFault (d : Dev) (staged : List (Nat × Nat)) : Option Nat :=
  ((stagedIn staged 0x3400 0x3408).find? (fun p =>
    (List.range 16).any (fun j => bit (mapByte p.2 j) 6) ||
      decide (d.chuteStatus (p.1 / 256 - 0x3400) = 1 ∨ d.chuteStatus (p.1 / 256 - 0x3400) = 2))).map (·.1)

/-- Actions against the state of their blocks: flow contexts (R144), spare commands (R261), fuses (Table 15-12), snapshots and
maps (Table 17-10). -/
def Dev.actionFault (v : Nv) (d c : Dev) (staged : List (Nat × Nat)) (x : Nat) : Option Nat :=
  let flows := ((stagedIn staged 0x7400 0x7401).filter (fun p => bit p.2 543)).map (fun p => (p.2 >>> 512) % 2 ^ 22)
  let bad := staged.find? (fun p =>
    let i := p.1 / 256
    let s := p.1 % 256
    if 0x3020 ≤ i ∧ i < 0x3030 ∧ s = 6 then d.spareRefused (i - 0x3020) (p.2 % 8) (decide (p.2 / 4096 = 2))
    else if i = 0xB000 ∧ s = 8 then advanceRefused v.fuses d p.2
    else if i = 0xB000 ∧ s = 9 then revokeRefused v.fuses d p.2
    else if i = 0xA010 then decide (p.2 < x)
    else if i = 0xA020 then c.mapRefused x p.2
    else false)
  if ¬ flows.Nodup then some (ad 0x7400 1) else bad.map (·.1)

/-- In TRACKING and HOLDOVER the boundary of X stays where it was (R299). -/
def Dev.anchorFault (d c0 c1 : Dev) (staged : List (Nat × Nat)) (x : Nat) : Option Nat :=
  if (d.time.clock = 2 ∨ d.time.clock = 3) ∧ c0.boundaryOf x ≠ c1.boundaryOf x then
    some (ad 0x8000 (([4, 5, 6].find? (fun s => (stagedAt staged 0x8000 s).isSome)).getD 4))
  else none

/-- Plan overrides against the contexts as they will stand (Table 09-8). -/
def Dev.overrideFault (q : Dev) (staged : List (Nat × Nat)) : Option Nat :=
  let l := stagedIn staged 0x6300 0x6301
  let force := fun (x : Nat) => if x / 2 ^ 30 = 1 then some false else if x / 2 ^ 30 = 2 then some true else none
  (l.find? (fun p =>
    q.overrideRefused (p.2 % 2 ^ 24) (force p.2) ||
      decide ((l.filter (fun r => decide (r.2 % 2 ^ 24 = p.2 % 2 ^ 24))).length > 1))).map (·.1)

/-! ## The checks in order (R310) -/

/-- The outcome of a commit's checks: its status, the failing entry, and the detail of a refused install or command: slot, code,
context and generation. -/
structure Verdict where
  status : Status := .ok
  addr : Nat := 0
  detail : Option (Nat × Nat × Nat × Nat) := none
  deriving DecidableEq, Repr

/-- A session is mutual (R346). -/
def Dev.mutual (d : Dev) (session : Nat) : Bool :=
  match d.session session with | some s => decide (s.authority ≠ 0xFF) | none => false

/-- The life-cycle request of a commit: out of range, or not through a mutual session (R343). -/
def Dev.lifeFault (v : Nv) (d : Dev) (session : Nat) (staged : List (Nat × Nat)) : Option Status :=
  match stagedAt staged 0x1000 5 with
  | none => none
  | some x =>
    if lifeOk v.fuses d.confirmation x = false then some .range
    else if d.mutual session || decide (bytesAt 72 x 0 0 = 1) then none
    else some .access

/-- The COUPLED and CONTEXT checks on the configurations at X (R311). -/
def Dev.coupledCheck (v : Nv) (d : Dev) (staged : List (Nat × Nat)) (x : Nat) : Verdict :=
  let b0 := d.baseBefore
  let b1 := d.putStaged b0 staged
  let written := (staged.map (·.1)).filter (fun a => isStaged (a / 256) (a % 256))
  let c0 := d.under b0 {}
  let c1 := d.under b1 {}
  let old := d.pendingOld b0 b1 written
  let q := d.devAt x
  let q1 := q.under b1 d.inv.held
  let moves := q.remapFault (d.remapsOf b0 b1)
  let fault := [c1.configFault, if old.cells.isEmpty then none else (d.under b1 old).configFault, q.versionFault staged,
    (q.under b1 {}).shareFault, if old.cells.isEmpty then none else (q.under b1 old).shareFault, moves.1, d.chuteWriteFault staged,
    d.actionFault v c1 staged x, d.anchorFault c0 c1 staged x].findSome? id
  match fault with
  | some a => { status := .coupled, addr := a }
  | none =>
    let r := (moves.2.under q1.inv.base q1.inv.held).contextFault staged
    match r.1 with
    | some f => { status := .context, addr := if f.1 < 0x40 then ad 0x6100 f.1 else ad 0x6180 (f.1 - 0x40), detail := some f }
    | none => match r.2.overrideFault staged with
      | some a => { status := .coupled, addr := a }
      | none => {}

/-- The fabric time at which a step to come is reached: its boundary by the anchor that the sealed commits of earlier steps
leave, and never before those commits apply (R298, R299, R312). -/
def Dev.crossing (d : Dev) (x : Nat) : Int :=
  let r := d.inv.sealed.foldl (fun (r : Int × Tab Nat) s =>
    (max r.1 ((d.under r.2 {}).boundaryOf s.step), d.putStaged r.2 s.staged)) ((d.now : Int), d.inv.base)
  max r.1 ((d.under r.2 {}).boundaryOf x)

/-- The checks of a commit of staged values for step X, from TOO-NEAR on, in their order (R310). The seal word is launched at once
where the deadline, 16 µs before the boundary of X, has not passed (R312). -/
def Dev.verdict (v : Nv) (d : Dev) (session : Nat) (staged : List (Nat × Nat)) (x : Nat) : Verdict :=
  let b1 := d.putStaged d.baseBefore staged
  if x < d.step + d.cfg 0xF000 1 then { status := .tooNear }
  else if d.inv.sealed.length ≥ 16 then { status := .busy }
  else if d.inv.sealed.any (fun s => decide (x ≤ s.step)) then { status := .order }
  else match d.itemFault b1 with
    | some a => { status := .range, addr := a }
    | none => match d.lifeFault v session staged with
      | some s => { status := s, addr := ad 0x1000 5 }
      | none =>
        match d.itemsConflict b1 with
        | some a => { status := .conflict, addr := a }
        | none =>
          let r := d.coupledCheck v staged x
          if r.status ≠ .ok then r
          else if (d.now : Int) > d.crossing x - 16 * 65536000 then { status := .late }
          else {}

end Sys2Proof.Machine
end

