-- ==== Sys2Proof/Machine/Apply.lean ====
section
/-! DEFINITION. Commits sealed, refused, cancelled and applied, and QUIESCE entries that come into force (R97, R110, R173, R310 to
R315, R321, R346, R370, Table 13-5). -/

namespace Sys2Proof.Machine

/-! ## COMMIT and CANCEL requests (R310, R312, R314, R315, R370) -/

/-- Closes a transaction by a COMMIT: its result and the digest returned are kept with those of the last 16 (R310). -/
def Dev.closeCommit (d : Dev) (trans : Nat) (r : CommitResult) (digest : RVal) : Dev :=
  (d.closeTrans trans).modInv (fun v => { v with closed := ((trans, r, digest) :: v.closed).take 16 })

/-- Records a commit's result in 0xF000:0A. -/
def Dev.putResult (d : Dev) (r : CommitResult) : Dev := d.modInv (fun v => { v with result := r })

/-- A commit is refused as a whole: its transaction is closed, the result recorded, event 0xF002, or 0xF003 for LATE, raised; a
refused install or command leaves its detail (R171, R310). -/
def Dev.refuseCommit (d : Dev) (trans x : Nat) (f : Verdict) : Dev × CommitResult :=
  let r : CommitResult := ⟨f.status.code, f.addr / 256, f.addr % 256, x⟩
  let d := (d.closeCommit trans r (.num 0)).putResult r
  let d := match f.detail with | some (slot, code, ctx, gen) => d.ctxRefused slot code ctx gen | none => d
  (d.raise (if f.status = .late then 0xF003 else 0xF002) 0 trans x, r)

/-- The broadcast stamp that a commit carries: epoch and sequence (R370). -/
def stampOf (staged : List (Nat × Nat)) : Option (Nat × Nat) :=
  (stagedAt staged 0xF000 12).map (fun x => (x / 2 ^ 48, x % 2 ^ 48))

/-- What the stamp of a COMMIT makes of it: refused, a duplicate of an earlier commit with its step and digest, or neither. -/
inductive StampTest where
  | go | refuse
  | duplicate (step : Nat) (digest : RVal)
  deriving DecidableEq, Repr

/-- The test of a broadcast stamp (R370). -/
def Dev.stampTest (d : Dev) : Option (Nat × Nat) → StampTest
  | none => .go
  | some (e, s) =>
    if e < d.inv.epoch then .refuse
    else if e ≠ d.inv.epoch then .go
    else match d.inv.sealed.find? (fun c => decide (c.stamp = some (e, s))) with
      | some c => .duplicate c.step c.digest
      | none =>
        if s = d.inv.seqApplied then .duplicate d.inv.seqStep d.inv.seqDigest
        else if s < d.inv.seqApplied then .refuse
        else .go

/-- The Attic seals a commit, once the COLD values of an earlier one are stored; a stamp is recorded, and a higher epoch becomes
the current one (R312, R314, R370). -/
def sealCommit (v : Nv) (d : Dev) (t : Trans) (session x : Nat) : (Nv × Dev) × CommitResult × RVal :=
  let (v, d) := coldStore v d
  let staged := t.values
  let digest := RVal.deviceDigest (d.putStaged d.baseBefore staged) d.mac
  let r : CommitResult := { step := x }
  let stamp := stampOf staged
  let d := (d.closeCommit t.id r digest).putResult r
  let d := d.modInv (fun i => { i with
    sealed := i.sealed ++ [{ step := x, trans := t.id, session := session, staged := staged, stamp := stamp, digest := digest }] })
  let d := match stamp with
    | some (e, _) => if e > d.inv.epoch then d.modInv (fun i => { i with epoch := e, seqApplied := 0, seqStep := 0, seqDigest := .num 0 }) else d
    | none => d
  ((v, d), r, digest)

/-- A COMMIT of a transaction for step X: what is left, the result returned and the digest (R310). -/
def commitRequest (v : Nv) (d : Dev) (session trans x : Nat) : (Nv × Dev) × CommitResult × RVal :=
  match d.trans trans with
  | some t =>
    let refuse := fun (f : Verdict) => let r := d.refuseCommit trans x f; (((v, r.1), r.2, .num 0) : (Nv × Dev) × CommitResult × RVal)
    match d.stampTest (stampOf t.values) with
    | .refuse => refuse { status := .order }
    | .duplicate step digest =>
      let r : CommitResult := { step := step }
      ((v, (d.closeCommit trans r digest).raise 0xF006 0 trans step), r, digest)
    | .go =>
      let f := d.verdict v session t.values x
      if f.status = .ok then sealCommit v d t session x else refuse f
  | none => match d.inv.closed.find? (fun c => decide (c.1 = trans ∧ trans ≠ 0)) with
    | some c => ((v, d), c.2.1, c.2.2)
    | none =>
      let r : CommitResult := { status := Status.noTx.code, step := x }
      ((v, (d.putResult r).raise 0xF002 0 trans x), r, .num 0)

/-- CANCEL of step X: accepted for the step of the latest sealed commit until its seal deadline; the commit is discarded with its
stamp, and event 0xF004 is raised (R315, R370). -/
def Dev.cancel (d : Dev) (x : Nat) : Status × Dev :=
  match d.inv.sealed.getLast? with
  | none => (.order, d)
  | some s =>
    let before := d.modInv (fun v => { v with sealed := v.sealed.dropLast })
    if s.step ≠ x then (.order, d)
    else if (d.now : Int) > before.crossing x - 16 * 65536000 then (.late, d)
    else (.ok, before.raise 0xF004 0 s.trans x)

/-! ## QUIESCE entries (R311) -/

/-- Entries that each Crate brings into force on its own: the result account and the holding slots. -/
def perCrate (a : Nat) : Bool := decide (a = ad 0x4000 3 ∨ a = ad 0x6000 1)

/-- The keys under which the units of a QUIESCE entry hold its value: a Crate's account, a leaf-facing lane's on-chip ring size
(Table 04-8), else the entry alone. -/
def Dev.unitKeys (d : Dev) (b : Tab Nat) (a : Nat) : List Nat :=
  if perCrate a then allCrates.map (unitKey a)
  else if a / 256 = 0x4001 then
    (allLanes.filter (fun l => decide (d.targetIn b (ad (0x2180 + crateOf l) (laneIn l + 1)) = 1))).map (unitKey a)
  else [a]

/-- Every port of a Crate is DOWN. -/
def Dev.allDown (d : Dev) (n : Nat) : Bool := (d.portsOf n).all (fun p => decide ((d.port p.1).state = .down))

/-- Slots of a Crate's Combiner that are EMITTING. -/
def Dev.emitting (d : Dev) (n : Nat) : Bool :=
  d.ctxs.any (fun p => p.2.groups.cells.any (fun g => decide (g.2.state = .emitting ∧ p.2.crateAt g.1 = n)))

/-- No ring lane has a frame queued or being transmitted (R127). -/
def Dev.ringsIdle (d : Dev) : Bool :=
  (d.lanes.cells.map (·.1)).all (fun l => !(d.isRing l) || ((d.egress l).empty && (d.egress l).cur.isNone))

/-- A port's lanes with held values of the coupled set of R30: map, framing, FEC and ring store. -/
def portAddrs (n : Nat) (lanes : List Nat) : List Nat :=
  lanes.flatMap (fun l => [0x2300, 0x3200, 0x9180].map (fun fam => ad (fam + n) (laneIn l + 1)))

/-- The held addresses that come into force with one, in its unit: those of its coupled set that the same commit changed; and
whether the conditions of all of them hold (R311). -/
def Dev.quiesceSet (d : Dev) (a crate : Nat) : List Nat × Bool :=
  let i := a / 256
  let n := i % 128
  let rise := fun (old new : Nat) (m : Nat) => decide (new ≤ old ∨ d.sharedFree m ≥ new - old)
  let has := fun (k : Nat) => (d.inv.held.get none k).isSome && decide (d.inv.heldBy.get 0 k = d.inv.heldBy.get 0 a)
  let held := fun (k : Nat) => (d.inv.held.get none k).isSome
  if (0x2100 ≤ i ∧ i < 0x2180) ∨ (0x2300 ≤ i ∧ i < 0x2380) ∨ (0x3200 ≤ i ∧ i < 0x3280) ∨ (0x9180 ≤ i ∧ i < 0x9200) then
    let map := ad (0x2100 + n) 1
    if has map then ((map :: portAddrs n (lanesOf n)).filter has, d.allDown n)
    else
      let p := (d.portOf (laneOfAddr a)).1
      ((portAddrs n (d.portLanes p)).filter has, decide ((d.port p).state = .down))
  else if a = ad 0x4000 3 then
    let k := unitKey a crate
    let new := d.targetIn d.inv.base a
    ([k].filter held, !(d.emitting crate) && decide ((d.path crate).result ≤ new) && rise (d.cfgAt crate 0x4000 3) new crate)
  else if a = ad 0x6000 1 then ([unitKey a crate].filter held, d.holding.all (fun h => decide (h.crate ≠ crate)))
  else if a = ad 0x4000 4 then
    ([a].filter held, decide ((d.path 0).attic = 0) && rise (d.cfg 0x4000 4) (d.targetIn d.inv.base a) 0)
  else if a = ad 0x5000 3 then ([a].filter held, d.ringsIdle)
  else ([], false)

/-- The record of Table 14-7 from values in force. -/
def Dev.fabricNow (d : Dev) : FabricRecord :=
  { period := d.cfg 0x8000 4, plane := d.cfg 0x2000 1, anchorStep := d.cfg 0x8000 5, anchorTime := d.cfg 0x8000 6
    etherType := d.cfg 0x2000 8, label := d.cfg 0xF000 3, halls := d.cfg 0x5000 2, dateLine := d.cfg 0x5000 3
    spine := d.cfg 0x5000 1 }

/-- The ports that a new port map makes start afresh (R9, R36). -/
def Dev.portsAfresh (d : Dev) (n : Nat) : Dev :=
  let d := (lanesOf n).foldl (fun (d : Dev) l => d.modPort l (fun _ => {})) d
  (d.portsOf n).foldl (fun (d : Dev) p => d.restSpray p.1) d

/-- The enable and fence bits act on the ports of a Crate with a new map (R36, R365). -/
def Dev.mapInForce (d : Dev) (n : Nat) : Dev :=
  ((d.portsOf n).foldl (fun (d : Dev) p =>
    let d := d.modPort p.1 (fun x => { x with barred := d.attic.bootFailed })
    let d := if d.enabled p.1 then d.startTimeout p.1 else d
    if d.enabled p.1 && d.fenceBit p.1 then d.decideFence p.1 else d) d).evalCrate n

/-- A committed value comes into force in its unit, with the other entries of its coupled set, once the conditions of all of them hold
(R311); answers the Crate whose port map did. -/
def Dev.quiesceTake (d : Dev) (a crate : Nat) : Dev × Option Nat :=
  let q := d.quiesceSet a crate
  if q.1.isEmpty || !q.2 then (d, none)
  else
    let map := (q.1.find? (fun k => decide (0x2100 * 256 ≤ k ∧ k < 0x2180 * 256))).map (fun m => m / 256 % 128)
    let d := d.unhold q.1
    let d := match map with | some n => d.portsAfresh n | none => d
    (if a = ad 0x5000 3 then d.modInv (fun v => { v with fabricRec := d.fabricNow }) else d, map)

/-- QUIESCE_ENTRY_IN_FORCE (R311). -/
def Dev.quiesce (d : Dev) (index sub crate : Nat) : Dev :=
  match d.quiesceTake (ad index sub) crate with
  | (e, some n) => (e.mapInForce n).notePools d
  | (e, none) => e.notePools d

/-- The changed QUIESCE entries of a commit that come into force as it applies, their conditions holding before (R311); answers the
Crates whose port maps do. -/
def Dev.quiesceNow (d : Dev) (changed : List Nat) : Dev × List Nat :=
  (changed.filter (fun a => decide (commitOf a = some .quiesce))).foldl (fun (q : Dev × List Nat) a =>
    (if perCrate a then allCrates else [0]).foldl (fun (q : Dev × List Nat) n =>
      match q.1.quiesceTake a n with
      | (d, some m) => (d, q.2 ++ [m])
      | (d, none) => (d, q.2)) q) (d, [])

/-! ## What a commit changes at its step (R313, R173, R300) -/

/-- Holds back the QUIESCE and COLD values of a commit: each unit keeps the value in force, with the commit's step beside it, and a
value that returns to it is held no longer (R306, R311). -/
def Dev.holdBack (d : Dev) (b0 b1 : Tab Nat) (changed : List Nat) (step : Nat) : Tab (Option Nat) × Tab Nat :=
  changed.foldl (fun (t : Tab (Option Nat) × Tab Nat) a =>
    let new := d.targetIn b1 a
    let keys := match commitOf a with
      | some .quiesce => d.unitKeys b1 a
      | some .cold => [a]
      | _ => []
    keys.foldl (fun (t : Tab (Option Nat) × Tab Nat) k =>
      let now := (t.1.get none k).getD (d.targetIn b0 a)
      if now = new then (t.1.put none k none, t.2.put 0 k 0) else (t.1.put none k (some now), t.2.put 0 k step)) t)
    (d.inv.held, d.inv.heldBy)

/-- Sessions whose key leaves the management key list close (R346). -/
def Dev.closeUnlisted (d : Dev) (removed : List Nat) : Dev :=
  let kept := fun (k : Nat) => (List.range 8).any (fun j => decide (d.cfg 0xB010 (j + 1) = k))
  let gone := d.attic.sessions.filter (fun s => decide (1 ≤ s.authority ∧ s.authority ≤ 8 ∧ keyDigest s.key ∈ removed) &&
    !(kept (keyDigest s.key)))
  gone.foldl (fun (d : Dev) s => d.dropSession s.id) d

/-- The STEP entries of a commit take effect: ports and lanes first (R97), then each other block. The ports of the Crates in
`mapped` are new. -/
def Dev.stepEntries (d0 d : Dev) (changed mapped : List Nat) : Dev :=
  let inFam := fun (lo hi a : Nat) => decide (lo ≤ a / 256 ∧ a / 256 < hi)
  let lanes := ((changed.filter (fun a => inFam 0x2180 0x2300 a)).map laneOfAddr).eraseDups
  let bits := (changed.filter (fun a => inFam 0x2100 0x2180 a && decide (a % 256 ≠ 1))).map (fun a => a / 256 - 0x2100)
  let crates := allCrates.filter (fun n => decide (n ∈ bits ∨ n ∈ mapped))
  let before := fun (n : Nat) => if n ∈ mapped then 0 else d0.cfg (0x2100 + n) 2
  let every := changed.any (fun a => decide (a = ad 0x2000 7))
  let d := d.portsChanged lanes (crates.map (fun n => (n, before n)))
  let d := if every then allCrates.foldl (fun (d : Dev) n => d.evalCrate n) d else d
  let d := d.reviewLoops ((changed.filter (fun a => inFam 0x2180 0x2200 a)).map laneOfAddr)
  let d := if (changed.any (fun a => decide (a = ad 0x8000 1))) then d.roleChanged d0.errorBound else d
  d.closeUnlisted ((changed.filter (fun a => inFam 0xB010 0xB011 a)).map (fun a => d0.cfg 0xB010 (a % 256)))

/-- The actions of a commit but for those on contexts and route versions: flow contexts, Chute maps, spare commands, snapshots,
maps, fuses. `bad` names the fuse writes that fail: bit 0 the advance, bit 1 the revocation (R340). -/
def commitAction (bad : Nat) (q : Nv × Dev) (p : Nat × Nat) : Nv × Dev :=
  let (v, d) := q
  let i := p.1 / 256
  let s := p.1 % 256
  let x := p.2
  if i = 0x7400 then (v, if bit x 543 then d.flowWrite ((x >>> 512) % 2 ^ 22) (x % 2 ^ (8 * 64)) else d)
  else if 0x3400 ≤ i ∧ i < 0x3408 then (v, d.chuteChanged (i - 0x3400))
  else if 0x3020 ≤ i ∧ i < 0x3030 ∧ s = 6 then
    (v, if x / 4096 = 1 then d.spareCommand (i - 0x3020) (x % 8) else d.returnCommand (i - 0x3020) (x % 8))
  else if i = 0xA010 then (v, d.nameSnapshot x)
  else if i = 0xA020 then (v, d.nameMap x)
  else if i = 0xB000 ∧ s = 8 then advanceSecurity v d x (bit bad 0)
  else if i = 0xB000 ∧ s = 9 then revokeSlot v d x (bit bad 1)
  else if i = 0x1000 ∧ s = 5 then (v, d.modAttic (fun a => { a with lifeDue := some x }))
  else (v, d)

/-- The context changes of a commit: RETIRE, then installs, ARM, RESET, then plan overrides (R173, R223, Table 13-5). -/
def Dev.contextActions (d : Dev) (staged : List (Nat × Nat)) : Dev :=
  let cmds := (commandsOf staged).map (·.2)
  let d := cmds.foldl (fun (d : Dev) c => if c.cmd ≥ 3 then d.retireApply c.ctx (decide (c.cmd = 3)) else d) d
  let d := (installsOf staged).foldl (fun (d : Dev) p => d.installApply p.2) d
  let d := cmds.foldl (fun (d : Dev) c => if c.cmd = 1 then d.armApply c.ctx c.gen else d) d
  let d := cmds.foldl (fun (d : Dev) c => if c.cmd = 2 then d.resetApply c.ctx c.gen else d) d
  (stagedIn staged 0x6300 0x6301).foldl (fun (d : Dev) p =>
    d.overrideApply (p.2 % 2 ^ 24) (if p.2 / 2 ^ 30 = 1 then some false else if p.2 / 2 ^ 30 = 2 then some true else none)) d

/-- The step of an applied commit's stamp enters the broadcast record, in the epoch that is current (R370). -/
def Dev.stampApplied (d : Dev) (s : Sealed) : Dev :=
  match s.stamp with
  | some (e, q) =>
    if e = d.inv.epoch ∧ q > d.inv.seqApplied then
      d.modInv (fun v => { v with seqApplied := q, seqStep := s.step, seqDigest := s.digest })
    else d
  | none => d

/-- COMMIT_APPLY: a sealed commit applies at the boundary of its step (R313). -/
def applySealed (v : Nv) (d : Dev) (s : Sealed) (bad : Nat) : Nv × Dev :=
  let b0 := d.inv.base
  let b1 := d.putStaged b0 s.staged
  let written := (s.staged.map (·.1)).filter (fun a => isStaged (a / 256) (a % 256))
  let changed := d.changed b0 b1 written
  let moves := d.remapsOf b0 b1
  let cold := s.staged.filter (fun p => decide (commitOf p.1 = some .cold))
  let held := d.holdBack b0 b1 changed s.step
  let due := d.inv.coldDue.filter (fun p => decide (p.1 ∉ cold.map (·.1))) ++ cold
  let q := (d.modInv (fun i => { i with base := b1, held := held.1, heldBy := held.2, sealed := i.sealed.drop 1, coldDue := due })).quiesceNow changed
  let e := d.stepEntries q.1 changed q.2
  let e := moves.foldl (fun (d : Dev) p => d.remapApply p.1 p.2) e
  let (v, e) := s.staged.foldl (commitAction bad) (v, e)
  let e := if changed.any (fun a => decide (a = ad 0x4880 1)) then e.stepFreqs else e
  let e := e.contextActions s.staged
  let e := match stagedAt s.staged 0x5000 7 with | some x => e.prepare x | none => e
  let e := match stagedAt s.staged 0x5000 8 with | some x => e.flip x | none => e
  let e := changed.foldl (fun (d : Dev) a =>
    if commitOf a = some .quiesce then
      (if perCrate a then allCrates else [0]).foldl (fun (d : Dev) n => d.quiesce (a / 256) (a % 256) n) d
    else d) e
  let e := e.modInv (fun i => { i with prevRec := d.inv.fabricRec, fabricRec := e.fabricNow, changeStep := s.step })
  (v, (((e.stampApplied s).raise 0xF001 0 s.trans s.step).notePools d).derated d)

end Sys2Proof.Machine
end

