-- ==== Sys2Proof/Machine/Boundary.lean ====
section
/-! DEFINITION. The step boundary: the counter, the work of Table 13-5 in its order, and the boundaries that a time jump crosses
(R139, R222, R223, R296, R300, R313, R377, R387). -/

namespace Sys2Proof.Machine

/-! ## The boundary opens -/

/-- The deepest virtual channel of a lane's queues now, the lowest on a tie. -/
def Egress.deepest (e : Egress) : Nat :=
  (List.range 16).foldl (fun (a : Nat) vc => if e.depth vc > e.depth a then vc else a) 0

/-- A lane at the end of a step: its busy fractions, which order 6 of Table 13-5 puts in their place (R222, R300), its counts of
the step begun again. -/
def Dev.egressStep (d : Dev) (l : Nat) (e : Egress) : Egress :=
  { e with
    endTx := d.fraction l e.stepTx, endRx := d.fraction l e.stepRx, stepTx := 0, stepRx := 0
    stepDeep := e.total, stepDeepVc := e.deepest, stepSent := 0, stepMarked := 0, stepReplayed := 0 }

/-- What the device counts by step starts again. -/
def Dev.countsAfresh (d : Dev) : Dev :=
  { d with
    lanes := d.lanes.mapAll {} (fun l x => { x with egress := d.egressStep l x.egress })
    crates := d.crates.mapAll {} (fun n x => { x with path := { x.path with
      stepCells := 8192 - d.freeCells n, stepEntries := x.path.entries } }) }

/-- The work of the boundary that ends step k, in the order of Table 13-5; what order 1 freezes is taken now (R300, R377, R387). -/
def dueAt (v : Nv) (d : Dev) (k : Nat) (t : FabricTime) : List Due :=
  let draining := decide (d.versions.v0 = .draining ∨ d.versions.v1 = .draining)
  (if d.snapNamed k then [.snapshot k (freezeAt v d k)] else []) ++ (if d.mapEnds k then [.map (d.mapAt k)] else []) ++ [.review] ++
    (if draining && decide (d.versions.retire ≤ k + 1) then [.retire] else []) ++
    (if d.inv.sealed.any (fun s => decide (s.step ≤ k + 1)) then [.commit] else []) ++
    (if d.ctxs.any (fun p => p.2.switchDue) then [.switch] else []) ++ [.levels, .refill t]

/-- The peak depths start again at a freeze (R381). -/
def Dev.peaksAfresh (d : Dev) (due : List Due) : Dev :=
  if due.any (fun w => match w with | .snapshot _ (some _) => true | _ => false) then
    { d with lanes := d.lanes.mapAll {} (fun _ l => { l with egress := l.egress.peaksAfresh }) }
  else d

/-- Fabric time stands at the next boundary, or past it. -/
def Dev.reachBoundary (d : Dev) : Dev :=
  let b := d.boundaryOf (d.step + 1)
  if (d.now : Int) < b then d.modTime (fun t => { t with fab := (b.toNat * 2 ^ 16) % 2 ^ 96, ran := t.ran + (b.toNat * 2 ^ 16 - t.fab) }) else d

/-- The next boundary is reached: the step counter advances, and the boundary's work is due (R296, R300). -/
def openBoundary (v : Nv) (d : Dev) : Dev :=
  let k := d.step
  let d := d.reachBoundary
  let m := d.stepMaterial k
  let d := d.modTele (fun t => { t with mapSteps := (m :: t.mapSteps).take 1048576 })
  let due := dueAt v d k ((d.boundaryOf (k + 1)).toNat % 2 ^ 80)
  let d := (d.peaksAfresh due).countsAfresh
  { d.modTime (fun t => { t with step := k + 1 }) with due := due }

/-! ## The work of a boundary (Table 13-5) -/

/-- The servo's step and the review of the parent; lanes locked in the ended step may send hellos (R31, R293, R295). -/
def Dev.boundaryReview (d : Dev) : Dev :=
  let d := d.servoStep.reviewParent
  { d with lanes := d.lanes.mapAll {} (fun _ x => { x with disc := { x.disc with freshLock := false } }) }

/-- Every plan switch that is due (R223). -/
def Dev.planSwitches (d : Dev) : Dev :=
  d.ctxs.foldl (fun (d : Dev) p => if p.2.switchDue then d.planSwitch p.1 else d) d

/-- The busy fractions of the ended step are taken, and the levels computed (R222, order 6 of Table 13-5). -/
def Dev.levels (d : Dev) : Dev :=
  ({ d with lanes := d.lanes.mapAll {} (fun _ x => { x with egress := { x.egress with
    busyTx := x.egress.endTx, busyRx := x.egress.endRx } }) } : Dev).computeLevels

/-- The lanes that have shapers, or whose records in force install some. -/
def Dev.shapedLanes (d : Dev) : List Nat :=
  allLanes.filter (fun l => !((d.egress l).shapers.cells.isEmpty) || decide (d.laneCfg 0x7200 l ≠ 0))

/-- One piece of a boundary's work. `bad` names the fuse writes of the commit that fail (R340). -/
def runDue (v : Nv) (d : Dev) (bad : Nat) : Due → Nv × Dev
  | .snapshot k f => (v, (d.takeSnapshot k f).modTele (fun t => { t with named := t.named.filter (fun s => decide (s > k)) }))
  | .map m => (v, (d.takeMap m).modTele (fun t => { t with mapReqs := t.mapReqs.filter (fun s => decide (s > m.endStep)) }))
  | .review => (v, d.boundaryReview)
  | .retire => (v, d.retire)
  | .commit => match d.inv.sealed with
    | s :: _ => applySealed v d s bad
    | [] => (v, d)
  | .switch => (v, d.planSwitches)
  | .levels => (v, d.levels)
  | .refill t => (v, d.shapedLanes.foldl (fun (d : Dev) l => d.refillLane l t true) d)

/-- Work that needs no command of its own: it runs as soon as it stands first. -/
def Due.auto : Due → Bool
  | .review => true
  | .levels => true
  | _ => false

/-- Runs a list of due work in order. -/
def runList (bad : Nat) : List Due → Nv → Dev → Nv × Dev
  | [], v, d => (v, d)
  | w :: rest, v, d => let r := runDue v d bad w; runList bad rest r.1 r.2

/-- Runs the due work at the head that needs no command. -/
def settleDue (v : Nv) (d : Dev) : Nv × Dev :=
  let first := d.due.takeWhile Due.auto
  let rest := d.due.dropWhile Due.auto
  runList 0 first v { d with due := rest }

/-- Runs the due work up to and with the first piece that a test picks, and what then needs no command; nothing where no piece is
picked. -/
def runTo (v : Nv) (d : Dev) (bad : Nat) (test : Due → Bool) : Nv × Dev :=
  match d.due.dropWhile (fun w => !(test w)) with
  | [] => (v, d)
  | w :: rest =>
    let r := runList 0 (d.due.takeWhile (fun w => !(test w))) v { d with due := rest }
    let r := runDue r.1 r.2 bad w
    settleDue r.1 r.2

/-- Runs all of the due work. -/
def runAll (v : Nv) (d : Dev) : Nv × Dev := runList 0 d.due v { d with due := [] }

/-! ## Boundaries crossed (R296) -/

/-- The next boundary has been passed by fabric time. -/
def Dev.crossed (d : Dev) : Bool := !d.attic.holding && decide (d.boundaryOf (d.step + 1) ≤ (d.now : Int))

/-- Passes boundaries, in order and with their work, while fabric time has passed the next one; at most a number of them. -/
def passCrossed : Nat → Nv → Dev → Nv × Dev
  | 0, v, d => (v, d)
  | n + 1, v, d =>
    if d.crossed then
      let r := runAll v (openBoundary v d)
      passCrossed n r.1 r.2
    else (v, d)

/-- The number of boundaries that fabric time has passed, by the period in force. -/
def Dev.crossedCount (d : Dev) : Nat :=
  (((d.now : Int) - d.boundaryOf (d.step + 1)) / (d.stepUnits : Int) + 1).toNat

/-- Rounds of passing boundaries: a commit that applies in one may move the anchor, and is followed by another round. -/
def passRounds : Nat → Nv → Dev → Nv × Dev
  | 0, v, d => (v, d)
  | n + 1, v, d => let r := passCrossed d.crossedCount v d; passRounds n r.1 r.2

/-- After a change of fabric time or of the anchor: the boundaries crossed are passed at once, after the work still due at the one
now open (R296). -/
def catchUp (v : Nv) (d : Dev) : Nv × Dev :=
  if d.crossed then
    let r := runAll v d
    passRounds (r.2.inv.sealed.length + 1) r.1 r.2
  else (v, d)

/-- Runs all of the due work, and passes the boundaries that a commit among it has crossed (R296). -/
def runOpen (v : Nv) (d : Dev) : Nv × Dev :=
  let r := runAll v d
  catchUp r.1 r.2

/-- Runs the due work up to and with the first piece that a test picks, and passes the boundaries that a commit among it has
crossed (R296, R299). -/
def runUpTo (v : Nv) (d : Dev) (bad : Nat) (test : Due → Bool) : Nv × Dev :=
  let r := runTo v d bad test
  catchUp r.1 r.2

/-! ## The commands of the boundary -/

/-- STEP_BOUNDARY: fabric time reaches the next boundary, once the work of the last one is done (R296, R300). -/
def stepBoundary (v : Nv) (d : Dev) : Nv × Dev :=
  if d.attic.holding then (v, d)
  else
    let r := runOpen v d
    settleDue r.1 (openBoundary r.1 r.2)

/-- SNAPSHOT: the freeze of the ended step (R377). -/
def snapshotDue (v : Nv) (d : Dev) : Nv × Dev := runUpTo v d 0 (fun w => match w with | .snapshot _ _ => true | _ => false)
/-- CONGESTION_MAP: the map that ends with the ended step (R387). -/
def mapDue (v : Nv) (d : Dev) : Nv × Dev := runUpTo v d 0 (fun w => match w with | .map _ => true | _ => false)
/-- VERSION_RETIREMENT (R109). -/
def retireDue (v : Nv) (d : Dev) : Nv × Dev := runUpTo v d 0 (fun w => decide (w = .retire))
/-- COMMIT_APPLY, and the boundaries that a new anchor crosses (R296, R313). -/
def commitDue (v : Nv) (d : Dev) (bad : Nat) : Nv × Dev := runUpTo v d bad (fun w => decide (w = .commit))
/-- PLAN_SWITCH (R223). -/
def switchDue (v : Nv) (d : Dev) : Nv × Dev := runUpTo v d 0 (fun w => decide (w = .switch))

/-- A lane's refill within the step is due at an instant: a whole number of refill intervals after the boundary, and before
the next one (R139). -/
def Dev.refillAt (d : Dev) (l : Nat) (t : FabricTime) : Bool :=
  let b := d.boundaryOf d.step
  decide (b < (t : Int) ∧ (t : Int) < d.boundaryOf (d.step + 1) ∧ ((t : Int) - b) % (d.cfg 0x7000 1 * 65536 : Nat) = 0 ∧
    (d.egress l).refilled < t)

/-- SHAPER_REFILL of a lane at an instant: the boundary's refill first where it is still due, and one at an interval (R139). -/
def refillDue (v : Nv) (d : Dev) (l : Nat) (t : FabricTime) : Nv × Dev :=
  let r := runUpTo v d 0 (fun w => match w with | .refill _ => true | _ => false)
  if r.2.refillAt l t then (r.1, r.2.refillLane l t false) else r

end Sys2Proof.Machine
end

