-- ==== Sys2Proof/Machine/Protocol.lean ====
section
/-! DEFINITION. The Inventory Access Protocol, and the actions of a commit as commands of their own (R324 to R327, R345, R347). -/

namespace Sys2Proof.Machine

/-! ## Requests and responses (R324, R325, Table 14-9) -/

/-- The response to a request, and what the request leaves (Table 14-9). The header names the request's transaction, in the response
to an OPEN the new one. -/
def execute (v : Nv) (d : Dev) (p : Peer) (q : Request) : (Nv × Dev) × Message :=
  match q with
  | .read items =>
    let l := d.readItems v items bodyLimit
    ((v, d), ⟨0x81, p.tag, 0, l.length, .items l⟩)
  | .write tid items =>
    let r := d.writeItems v p.session tid items bodyLimit
    ((v, r.2), ⟨0x82, p.tag, tid, r.1.length, .items r.1⟩)
  | .open_ =>
    let r := d.openTrans p.session
    ((v, r.2), ⟨0x83, p.tag, r.1.getD 0, 0, .status (match r.1 with | some _ => Status.ok.code | none => Status.busy.code)⟩)
  | .commit tid step =>
    let r := commitRequest v d p.session tid step
    (r.1, ⟨0x84, p.tag, tid, 0, .commit r.2.1.status r.2.1.index r.2.1.sub r.2.1.step r.2.2⟩)
  | .abort tid =>
    let r := d.abortTrans tid
    ((v, r.2), ⟨0x85, p.tag, tid, 0, .status r.1.code⟩)
  | .cancel step =>
    let r := d.cancel step
    ((v, r.2), ⟨0x86, p.tag, 0, 0, .status r.1.code⟩)
  | .status =>
    ((v, d), ⟨0x87, p.tag, 0, 0,
      .state d.step d.time.clock d.inv.trans.length (d.inv.sealed.map (fun s => s.step)) (.deviceDigest d.inv.base d.mac)⟩)
  | .other _ => ((v, d), ⟨0xFF, p.tag, 0, 0, .status Status.range.code⟩)

/-- A stored response whose request had the same source ID, arrival port and tag, at most 1 s before (R326). -/
def Dev.storedFor (d : Dev) (p : Peer) : Option Stored :=
  d.inv.stored.find? (fun s => decide (s.src = p.src ∧ d.arrivalKey s.lane = d.arrivalKey p.lane ∧ s.tag = p.tag ∧
    d.now ≤ s.time + 1000000000 * 65536))

/-- A response leaves, and is kept with those to the last 64 requests (R325, R326). -/
def Dev.respond (d : Dev) (p : Peer) (m : Message) : Dev :=
  (d.sendMessage p.src p.lane p.session m).modInv (fun v => { v with stored := (⟨p.src, p.lane, p.tag, d.now, m⟩ :: v.stored).take 64 })

/-- The reset or restart that a request asked for begins, its response having left (R350). -/
def afterResponse (v : Nv) (d : Dev) : Nv × Dev :=
  if d.attic.resetDue then coldReset v d
  else if d.attic.restartDue then (v, d.atticRestart 3)
  else (v, d)

/-- A message of the Inventory Access Protocol is served: none while the Attic is halted (R327); one that travels in no open session
is discarded as a record of none (R344, R347); one of a reserved version or for another device is discarded and counted (R324); a
repeat gets the stored response and is not executed (R326). -/
def serve (v : Nv) (d : Dev) (p : Peer) (q : Request) : Nv × Dev :=
  if d.atticRuns = false then (v, d)
  else if d.sessionOpen p.session = false then (v, d.recordLost p.session p.lane)
  else if p.version ≠ 1 then (v, d.count 0xBE01 0)
  else if p.target ≠ d.attic.nodeId then (v, d.raiseBy 0xF011 1 (p.lane.getD 0) (d.arrivalKey p.lane) (p.lane.getD 0) 0 0 0)
  else match d.storedFor p with
    | some s => (v, d.sendMessage p.src p.lane p.session s.resp)
    | none =>
      let r := execute v d p q
      let a := afterResponse r.1.1 (r.1.2.respond p r.2)
      catchUp a.1 a.2

/-- DATA_RECORD: a record of a session is opened and checked for replay, and its message is served; a malformed record is discarded
and counted (R344, R345, R347). On an image update the firmware writes the flash, which the message of an accepted record brings
(R334; DESIGN CHOICE, assumption 44). -/
def dataRecord (v : Nv) (d : Dev) (src : Nat) (lane : Option Nat) (p : List Byte) (wrote : FlashWrite) : Nv × Dev :=
  if d.atticRuns = false then (v, d)
  else if recordOk p = false then (v, d.count 0xBE01 0)
  else if recordType p ≠ 4 then (v, d)
  else match d.takeRecord lane p with
    | (none, e) => (v, e)
    | (some b, e) => serve { v with flash := v.flash.written wrote } e (peerOf src lane (recordSession p) b) (requestOf b)

/-! ## Commits that carry one action -/

/-- CHUTE_MAP_WRITE: a committed map of a Chute, at its commit step; a map that R274 or R275 refuses changes nothing. -/
def Dev.chuteMapWrite (d : Dev) (h map : Nat) : Dev :=
  let a := ad (0x3400 + h) 1
  let e := d.setBase a map
  if d.attic.holding || (d.chuteWriteFault [(a, map)]).isSome || e.chuteFault.isSome then d else e.chuteChanged h

/-- COMBINER_DERATE at its commit step: 0 four issue slots, 1 two, 2 one (R224). -/
def Dev.derate (d : Dev) (n v : Nat) : Dev :=
  if v ≤ 2 then (d.setBase (ad (0x6380 + n) 1) v).derated d else d

/-- COMBINER_REMAP at its commit step; one that R225 refuses, or that names the target in force, changes nothing. -/
def Dev.remap (d : Dev) (n t : Nat) : Dev :=
  if d.remapRefused n t || decide (t = d.baseOf (0x6380 + n) 2) || decide (128 ≤ t ∧ t ≠ 0xFF) then d else (d.setBase (ad (0x6380 + n) 2) t).remapApply n t

/-- FLOW_CONTEXT_WRITE at its commit step; a context that breaks Table 06-2 changes nothing (R144). -/
def Dev.flowContextWrite (d : Dev) (index value : Nat) : Dev :=
  if (Flow.ofNat value).ok ∧ index < 2 ^ 22 then d.flowWrite index value else d

/-- SPARE_COMMAND_SPARE at its commit step; one that R261 refuses changes nothing. -/
def Dev.spareCmd (d : Dev) (m k : Nat) : Dev := if d.spareRefused m k false then d else d.spareCommand m k
/-- SPARE_COMMAND_RETURN at its commit step; one that R261 refuses changes nothing. -/
def Dev.returnCmd (d : Dev) (m k : Nat) : Dev := if d.spareRefused m k true then d else d.returnCommand m k

/-- LIFE_CYCLE_REQUEST: a commit of a life-cycle request for step X is checked and sealed (R343). -/
def lifeRequest (v : Nv) (d : Dev) (session x step : Nat) : Nv × Dev :=
  if d.atticRuns = false then (v, d)
  else
    let t : Trans := { id := 0, session := session, staged := ({} : Tab (Option (Nat × Nat))).put none (ad 0x1000 5) (some (x, 72)) }
    let f := d.verdict v session t.values step
    if f.status = .ok then (sealCommit v d t session step).1 else (v, (d.refuseCommit 0 step f).1)

end Sys2Proof.Machine
end

