-- ==== Sys2Proof/Machine/State.lean ====
section
/-! DEFINITION. The whole state of the block, the ways a step can stop, and the state after reset. -/

namespace Sys2Proof.Machine

/-- The block's state: the commands that wait, first in first out; what survives loss of power; and the rest of the device. -/
structure State where
  /-- commands that wait, the next one first (the model's own) -/
  pending : List Instr := []
  /-- non-volatile state (R17) -/
  nv : Nv := {}
  /-- volatile state -/
  dev : Dev := {}
  deriving DecidableEq, Repr

/-- Faults. The manual names no event after which the block has no next state, so no command raises one. -/
inductive Fault where
  /-- Raised by no command; it stands here only because a machine of this kind names its faults. Safe. -/
  | halted
  deriving DecidableEq, Repr

/-- Refusals. -/
inductive Refusal where
  /-- A command that the model gives no meaning, by its mnemonic. Raised by no command of this model. Safe. -/
  | notModelled (mnemonic : String)
  deriving DecidableEq, Repr

/-- The state with another device. -/
def State.setDev (s : State) (d : Dev) : State := { s with dev := d }

/-- The state with other non-volatile state and another device. -/
def State.setAll (s : State) (r : Nv × Dev) : State := { s with nv := r.1, dev := r.2 }

/-- What a command leaves: the state it makes while power is on; with power removed every block stands still (R17). -/
def State.whenPowered (s t : State) : State := if s.dev.board.powered then t else s

/-- The device right after a cold reset (R366, Table 16-10), before the BOOT command: held in reset, its queue empty, its
non-volatile state as manufactured (R415). -/
def State.reset : State := {}

end Sys2Proof.Machine
end

