-- ==== Sys2Proof/Machine/CmdAttic.lean ====
section
/-! DEFINITION. The meanings of the commands of sessions, the Attic and the Strongbox. -/

namespace Sys2Proof.Machine

/-- INIT. An INIT record: the source ID and arrival lane, the peer's static key, its point RA, its identity and the target identity (R345). -/
def execInit (src : Nat) (lane : Option Nat) (key : Nat) (ra : Nat) (id : Nat) (target : Nat) (s : State) : Host.Outcome State Fault Refusal :=
  .next (s.whenPowered (s.setDev (sessionInit s.nv s.dev src lane key ra id target)))

/-- CONFIRM. A CONFIRM record of a session, with SA (R345). -/
def execConfirm (id : Nat) (sa : Nat) (s : State) : Host.Outcome State Fault Refusal :=
  .next (s.whenPowered (s.setDev (s.dev.sessionConfirm id sa)))

/-- DATA_RECORD. A DATA record: the source ID and arrival lane of its MGMT frame, the bytes of the record as its header and what
follows (R344, R347), and what the firmware writes to the flash where the message is of an image update (R334). -/
def execDataRecord (src : Nat) (lane : Option Nat) (head : List Byte) (body : List Byte) (wrote : FlashWrite) (s : State) : Host.Outcome State Fault Refusal :=
  .next (s.whenPowered (s.setAll (dataRecord s.nv s.dev src lane (head ++ body) wrote)))

/-- CLOSE. A CLOSE record: the arrival lane of its MGMT frame, and its bytes as its header and what follows (R346). -/
def execClose (lane : Option Nat) (head : List Byte) (body : List Byte) (s : State) : Host.Outcome State Fault Refusal :=
  .next (s.whenPowered (s.setDev (s.dev.sessionClose lane (head ++ body))))

/-- SESSION_IDLE_TIMEOUT. A session passes its idle timeout (R346). -/
def execSessionIdleTimeout (id : Nat) (s : State) : Host.Outcome State Fault Refusal :=
  .next (s.whenPowered (s.setDev (s.dev.sessionIdle id)))

/-- WATCHDOG_SERVICE. The firmware services the watchdog (R331). -/
def execWatchdogService (s : State) : Host.Outcome State Fault Refusal := .next (s.whenPowered (s.setDev (s.dev.dogService)))

/-- WATCHDOG_FIRST_EXPIRY. The first watchdog stage expires (R331). -/
def execWatchdogFirstExpiry (s : State) : Host.Outcome State Fault Refusal :=
  .next (s.whenPowered (s.setDev (s.dev.dogFirst)))

/-- WATCHDOG_SECOND_EXPIRY. The second watchdog stage expires (R331). -/
def execWatchdogSecondExpiry (s : State) : Host.Outcome State Fault Refusal :=
  .next (s.whenPowered (s.setDev (s.dev.dogSecond)))

/-- ATTIC_RESTART_REQUEST. A write to 0xC000:03 (R332). -/
def execAtticRestartRequest (x : Nat) (s : State) : Host.Outcome State Fault Refusal :=
  .next (s.whenPowered (s.setDev (s.dev.restartRequest x)))

/-- FIRMWARE_HALT. The firmware reports a halt (R332). -/
def execFirmwareHalt (s : State) : Host.Outcome State Fault Refusal := .next (s.whenPowered (s.setDev (s.dev.firmwareHalt)))

/-- ATTIC_MEMORY_WIPED. The Attic memory wipe ends and the image is loaded again (R332). -/
def execAtticMemoryWiped (s : State) : Host.Outcome State Fault Refusal :=
  .next (s.whenPowered (s.setAll (atticWiped s.nv s.dev)))

/-- TRIAL_CONFIRM. A write confirms the trial image (R338). -/
def execTrialConfirm (s : State) : Host.Outcome State Fault Refusal := .next (s.whenPowered (s.setDev (s.dev.trialConfirm)))

/-- TRIAL_WINDOW_EXPIRY. The trial window passes unconfirmed (R338). -/
def execTrialWindowExpiry (s : State) : Host.Outcome State Fault Refusal :=
  .next (s.whenPowered (s.setDev (s.dev.trialExpired)))

/-- LIFE_CYCLE_REQUEST. A commit of a life-cycle request of 72 bytes for a step, in a session (R343). -/
def execLifeCycleRequest (session : Nat) (value : Nat) (x : Nat) (s : State) : Host.Outcome State Fault Refusal :=
  .next (s.whenPowered (s.setAll (lifeRequest s.nv s.dev session value x)))

/-- LIFE_CYCLE_TRANSITION. The transition takes place at its step; the fuse writes that fail, as a mask (R343). -/
def execLifeCycleTransition (bad : Nat) (s : State) : Host.Outcome State Fault Refusal :=
  .next (s.whenPowered (s.setAll (lifeTransition s.nv s.dev bad)))

/-- ADVANCE_SECURITY_VERSION. The fused security version is advanced, unless the fuse write fails (R340). -/
def execAdvanceSecurityVersion (x : Nat) (fails : Bool) (s : State) : Host.Outcome State Fault Refusal :=
  .next (s.whenPowered (s.setAll (advanceSecurity s.nv s.dev x fails)))

/-- REVOKE_FERESTUM_KEY_SLOT. A Ferestum key slot is revoked, unless the fuse write fails (R340). -/
def execRevokeFerestumKeySlot (k : Nat) (fails : Bool) (s : State) : Host.Outcome State Fault Refusal :=
  .next (s.whenPowered (s.setAll (revokeSlot s.nv s.dev k fails)))

/-- ATTESTATION_REQUEST. A nonce is written to 0xB100:01 (R348). -/
def execAttestationRequest (nonce : Nat) (s : State) : Host.Outcome State Fault Refusal :=
  .next (s.whenPowered (s.setDev (s.dev.attest nonce)))

/-- ATTESTATION_REPORT_READY. The signed report is readable (R348). -/
def execAttestationReportReady (s : State) : Host.Outcome State Fault Refusal :=
  .next (s.whenPowered (s.setDev (attestReady s.nv s.dev)))

end Sys2Proof.Machine
end

