-- ==== Sys2Proof/Machine/CmdBoot.lean ====
section
/-! DEFINITION. The meanings of the commands of power, reset and boot. -/

namespace Sys2Proof.Machine

/-- POWER_UP. The rails rise in order while RESET_N is low (R396). -/
def execPowerUp (s : State) : Host.Outcome State Fault Refusal := .next (s.setDev (powerUp s.dev))

/-- POWER_LOSS. Power is removed; only non-volatile state survives (R17). -/
def execPowerLoss (s : State) : Host.Outcome State Fault Refusal := .next (s.whenPowered (s.setAll (powerLoss s.nv s.dev)))

/-- RAIL_OUT_OF_RANGE. A rail, by its place in Table 18-1, leaves its tolerance for more than 2 µs (R398). -/
def execRailOutOfRange (rail : Nat) (s : State) : Host.Outcome State Fault Refusal :=
  .next (s.whenPowered (s.setAll (railOut s.nv s.dev rail)))

/-- RAIL_RECOVERY. Every rail has been back within tolerance for 10 ms (R398); the boot that follows has the operands of BOOT. -/
def execRailRecovery (missing : Option Nat) (failed : Nat) (bad : Nat) (s : State) : Host.Outcome State Fault Refusal :=
  .next (s.whenPowered (s.setAll (railRecovery s.nv s.dev missing failed bad)))

/-- COLD_RESET. RESET_N is held low for a number of ns (R397). -/
def execColdReset (lowNs : Nat) (s : State) : Host.Outcome State Fault Refusal :=
  .next (s.whenPowered (s.setAll (coldResetPin s.nv s.dev lowNs)))

/-- BOOT. RESET_N is released (R339): a reference clock that is missing (R400), the stacks whose training fails, as a mask (R242), the fuse writes of a pending transition that fail, as a mask (R340, R343), and what has been written to the flash (R334). -/
def execBoot (missing : Option Nat) (failed : Nat) (nv : BootNv) (s : State) : Host.Outcome State Fault Refusal :=
  .next (s.whenPowered (s.setAll (bootCmd s.nv s.dev missing failed nv.bad nv.wrote)))

/-- COLD_RESET_REQUEST. A write to 0xC000:0C (R366). -/
def execColdResetRequest (x : Nat) (s : State) : Host.Outcome State Fault Refusal :=
  .next (s.whenPowered (s.setAll (coldResetRequest s.nv s.dev x)))

/-- WIPE_COMPLETE. The wipe ends; the configuration area and the image headers are read (R243, R335 to R338). -/
def execWipeComplete (s : State) : Host.Outcome State Fault Refusal :=
  .next (s.whenPowered (s.setDev (wipeComplete s.nv s.dev)))

/-- IMAGE_LOADED. The image body has been streamed, a number of µs after the reset (R339). -/
def execImageLoaded (us : Nat) (s : State) : Host.Outcome State Fault Refusal :=
  .next (s.whenPowered (s.setAll (imageLoaded s.nv s.dev us)))

/-- INVENTORY_SERVICE_READY. The firmware has started the Inventory service (R339). -/
def execInventoryServiceReady (s : State) : Host.Outcome State Fault Refusal :=
  .next (s.whenPowered (s.setDev (s.dev.serviceReady)))

end Sys2Proof.Machine
end

