-- ==== Sys2Proof/Machine/CmdCellar.lean ====
section
/-! DEFINITION. The meanings of the commands of the Cellar. -/

namespace Sys2Proof.Machine

/-- SCRUB. A logic die reads the next burst of its stack: good 0, corrected 1, uncorrectable 2; and what the burst holds (R241). -/
def execScrub (k : Nat) (ecc : Nat) (hit : CellarHit) (s : State) : Host.Outcome State Fault Refusal :=
  .next (s.whenPowered (s.setDev (s.dev.scrub k ecc hit)))

/-- CELLAR_UNCORRECTABLE_ERROR. An uncorrectable error at an address of a stack, and what stands there (R240). -/
def execCellarUncorrectableError (k : Nat) (addr : Nat) (hit : CellarHit) (s : State) : Host.Outcome State Fault Refusal :=
  .next (s.whenPowered (s.setDev (s.dev.cellarUncorrectable k addr hit)))

/-- STACK_FAILED. A logic die reports a fatal fault (R242). -/
def execStackFailed (k : Nat) (s : State) : Host.Outcome State Fault Refusal :=
  .next (s.whenPowered (s.setDev (s.dev.stackFailed k)))

end Sys2Proof.Machine
end

