-- ==== Sys2Proof/Machine/CmdChutes.lean ====
section
/-! DEFINITION. The meanings of the commands of the Chutes. -/

namespace Sys2Proof.Machine

/-- CHUTE_MAP_WRITE. A Chute map comes into force (R274). -/
def execChuteMapWrite (h : Nat) (map : Nat) (s : State) : Host.Outcome State Fault Refusal :=
  .next (s.whenPowered (s.setDev (s.dev.chuteMapWrite h map)))

/-- CHUTE_PROGRAMME_START. A programme pulses its cells: the cells that miss their target in the first round and in the retry, and what they then read (R276). -/
def execChuteProgrammeStart (h : Nat) (first : List (Nat × Cell)) (again : List (Nat × Cell)) (s : State) : Host.Outcome State Fault Refusal :=
  .next (s.whenPowered (s.setAll (chuteStart s.nv s.dev h first again)))

/-- CHUTE_PROGRAMME_END. A programme's reads end (R276). -/
def execChuteProgrammeEnd (h : Nat) (s : State) : Host.Outcome State Fault Refusal :=
  .next (s.whenPowered (s.setAll (chuteEnd s.nv s.dev h)))

/-- CHUTE_POWER_GOOD_READ. Every cell is read after power-good (R278). -/
def execChutePowerGoodRead (h : Nat) (s : State) : Host.Outcome State Fault Refusal :=
  .next (s.whenPowered (s.setAll (chuteRead s.nv s.dev h)))

end Sys2Proof.Machine
end

