-- ==== Sys2Proof/Machine/CmdContexts.lean ====
section
/-! DEFINITION. The meanings of the commands of collective contexts, the Combiner and the shadow check. -/

namespace Sys2Proof.Machine

/-- MEMBER_ABSENT_NOTICE. The oldest notice in flight to a home Crate arrives (R188). -/
def execMemberAbsentNotice (n : Nat) (s : State) : Host.Outcome State Fault Refusal :=
  .next (s.whenPowered (s.setDev (s.dev.memberAbsent n)))

/-- INSTALL. A context is installed from a 512-byte record at its commit step (R171). -/
def execInstall (record : Nat) (s : State) : Host.Outcome State Fault Refusal :=
  .next (s.whenPowered (s.setDev (s.dev.install record)))

/-- ARM. A context is armed at a generation (R173). -/
def execArm (ctx : Nat) (gen : Nat) (s : State) : Host.Outcome State Fault Refusal :=
  .next (s.whenPowered (s.setDev (s.dev.arm ctx gen)))

/-- RESET. A context is reset to a generation (R173). -/
def execReset (ctx : Nat) (gen : Nat) (s : State) : Host.Outcome State Fault Refusal :=
  .next (s.whenPowered (s.setDev (s.dev.resetCtx ctx gen)))

/-- RETIRE_PARK. A context drains to PARKED (R173). -/
def execRetirePark (ctx : Nat) (s : State) : Host.Outcome State Fault Refusal :=
  .next (s.whenPowered (s.setDev (s.dev.retireCtx ctx true)))

/-- RETIRE_FREE. A context drains to FREE (R173). -/
def execRetireFree (ctx : Nat) (s : State) : Host.Outcome State Fault Refusal :=
  .next (s.whenPowered (s.setDev (s.dev.retireCtx ctx false)))

/-- HOLD_TIME_EXPIRY. The hold time of the oldest contribution held at a Crate passes (R182). -/
def execHoldTimeExpiry (n : Nat) (s : State) : Host.Outcome State Fault Refusal :=
  .next (s.whenPowered (s.setDev (s.dev.holdExpiry n)))

/-- STRAGGLER_TIMEOUT. The straggler timer of an OPEN group expires: the group's place in the Crate set and its number (R186). -/
def execStragglerTimeout (ctx : Nat) (pos : Nat) (group : Nat) (s : State) : Host.Outcome State Fault Refusal :=
  .next (s.whenPowered (s.setDev (s.dev.straggler ctx (groupKey pos group))))

/-- RESULT_WRITTEN. An emitting group finishes a round of writing its results (R81), or is struck by an uncorrectable error of its Shelf slots as they drain (R192). -/
def execResultWritten (ctx : Nat) (pos : Nat) (g : Drained) (s : State) : Host.Outcome State Fault Refusal :=
  .next (s.whenPowered (s.setDev (s.dev.resultWritten ctx (groupKey pos g.group) g.shelf)))

/-- UPWARD_CONTRIBUTION_TIMEOUT. A held upward contribution's timeout passes (R216). -/
def execUpwardContributionTimeout (ctx : Nat) (gen : Nat) (chunk : Nat) (s : State) : Host.Outcome State Fault Refusal :=
  .next (s.whenPowered (s.setDev (s.dev.upwardTimeout ctx gen chunk)))

/-- PLAN_SWITCH. The plan switches due at the boundary are made (R223). -/
def execPlanSwitch (s : State) : Host.Outcome State Fault Refusal := .next (s.whenPowered (s.setAll (switchDue s.nv s.dev)))

/-- PLAN_OVERRIDE_FORCE_A. Plan A is forced at the commit step (R223). -/
def execPlanOverrideForceA (ctx : Nat) (s : State) : Host.Outcome State Fault Refusal :=
  .next (s.whenPowered (s.setDev (s.dev.planOverride ctx (some false))))

/-- PLAN_OVERRIDE_FORCE_B. Plan B is forced at the commit step (R223). -/
def execPlanOverrideForceB (ctx : Nat) (s : State) : Host.Outcome State Fault Refusal :=
  .next (s.whenPowered (s.setDev (s.dev.planOverride ctx (some true))))

/-- PLAN_OVERRIDE_RETURN. A context returns to its installed policy (R223). -/
def execPlanOverrideReturn (ctx : Nat) (s : State) : Host.Outcome State Fault Refusal :=
  .next (s.whenPowered (s.setDev (s.dev.planOverride ctx none)))

/-- COMBINER_DERATE. A derate of a Combiner comes into force (R224). -/
def execCombinerDerate (n : Nat) (v : Nat) (s : State) : Host.Outcome State Fault Refusal :=
  .next (s.whenPowered (s.setDev (s.dev.derate n v)))

/-- COMBINER_REMAP. A remap of a Crate comes into force: the target, or 0xFF to end it (R225). -/
def execCombinerRemap (n : Nat) (target : Nat) (s : State) : Host.Outcome State Fault Refusal :=
  .next (s.whenPowered (s.setDev (s.dev.remap n target)))

/-- REMAP_GROUP_MOVE. A group that is RELEASED after a remap moves (R225). -/
def execRemapGroupMove (ctx : Nat) (pos : Nat) (group : Nat) (s : State) : Host.Outcome State Fault Refusal :=
  .next (s.whenPowered (s.setDev (s.dev.groupMove ctx (groupKey pos group))))

/-- ENGINE_ACKNOWLEDGEMENT. The accumulate engine has added the oldest contribution of a spill group (R239). -/
def execEngineAcknowledgement (ctx : Nat) (pos : Nat) (group : Nat) (s : State) : Host.Outcome State Fault Refusal :=
  .next (s.whenPowered (s.setDev (s.dev.engineAck ctx (groupKey pos group))))

/-- SPILL_GROUP_CLEAR_DONE. The engine has cleared an abandoned spill group (R239). -/
def execSpillGroupClearDone (ctx : Nat) (pos : Nat) (group : Nat) (s : State) : Host.Outcome State Fault Refusal :=
  .next (s.whenPowered (s.setDev (s.dev.spillCleared ctx (groupKey pos group))))

/-- SHADOW_COPY. The oldest copy on its way reaches the shadow partner of a group (R361). -/
def execShadowCopy (ctx : Nat) (pos : Nat) (group : Nat) (s : State) : Host.Outcome State Fault Refusal :=
  .next (s.whenPowered (s.setDev (s.dev.shadowCopy ctx (groupKey pos group))))

/-- SHADOW_COMPLETION_NOTICE. The completion notice of a group reaches its partner (R361). -/
def execShadowCompletionNotice (ctx : Nat) (pos : Nat) (group : Nat) (s : State) : Host.Outcome State Fault Refusal :=
  .next (s.whenPowered (s.setDev (s.dev.shadowNotice ctx (groupKey pos group))))

/-- SHADOW_VALUES. The partner's fingerprints arrive, with the bits of them that a fault has changed (R362). -/
def execShadowValues (ctx : Nat) (pos : Nat) (group : Nat) (operandError : Nat) (resultError : Nat) (s : State) : Host.Outcome State Fault Refusal :=
  .next (s.whenPowered (s.setDev (s.dev.shadowValues ctx (groupKey pos group) operandError resultError)))

/-- SHELF_SLOT_ZEROED. A slot taken from a shadow group is zero (R361). -/
def execShelfSlotZeroed (ctx : Nat) (pos : Nat) (group : Nat) (s : State) : Host.Outcome State Fault Refusal :=
  .next (s.whenPowered (s.setDev (s.dev.slotZeroed ctx (groupKey pos group))))

end Sys2Proof.Machine
end

