-- ==== Sys2Proof/Machine/CmdEgress.lean ====
section
/-! DEFINITION. The meanings of the commands of the Larder, the mesh and the egress pipeline. -/

namespace Sys2Proof.Machine

/-- PUSH_ARRIVAL. The oldest push in flight to a lane reaches its Crate (R87). -/
def execPushArrival (l : Nat) (s : State) : Host.Outcome State Fault Refusal :=
  .next (s.whenPowered (s.setDev (s.dev.pushArrival l)))

/-- DESCRIPTOR. The oldest unicast descriptor in flight to a lane arrives (R83). -/
def execDescriptor (l : Nat) (s : State) : Host.Outcome State Fault Refusal :=
  .next (s.whenPowered (s.setDev (s.dev.descriptor l)))

/-- DEFER_REPLY. The oldest defer reply in flight to a holding Crate arrives (R83). -/
def execDeferReply (c : Nat) (s : State) : Host.Outcome State Fault Refusal :=
  .next (s.whenPowered (s.setDev (s.dev.deferReply c)))

/-- FREE_ENTRY_ANNOUNCEMENT. An egress Crate's announcement reaches a holding Crate (R83). -/
def execFreeEntryAnnouncement (egress : Nat) (holder : Nat) (s : State) : Host.Outcome State Fault Refusal :=
  .next (s.whenPowered (s.setDev (s.dev.freeEntryAnnouncement egress holder)))

/-- SCHEDULER_SELECTION. The egress arbiter of a lane chooses (R131). -/
def execSchedulerSelection (l : Nat) (s : State) : Host.Outcome State Fault Refusal :=
  .next (s.whenPowered (s.setDev (s.dev.schedulerSelection l)))

/-- PULL. The oldest pull of a lane reaches the holding Crate (R88); what the ECC finds in the cells read, as in DATA (R82). -/
def execPull (l : Nat) (ecc : Nat) (s : State) : Host.Outcome State Fault Refusal :=
  .next (s.whenPowered (s.setDev (s.dev.pullEcc l ecc)))

/-- FRAME_TRANSMISSION_START. A frame starts on a lane (R89, R131). -/
def execFrameTransmissionStart (l : Nat) (t : FabricTime) (s : State) : Host.Outcome State Fault Refusal :=
  .next (s.whenPowered (s.setDev (s.dev.transmissionStart l t)))

/-- FRAME_TRANSMISSION_END. A lane finishes a frame (R131). -/
def execFrameTransmissionEnd (l : Nat) (s : State) : Host.Outcome State Fault Refusal :=
  .next (s.whenPowered (s.setDev (s.dev.transmissionEnd l)))

/-- RELEASE. The release of a frame sent on a lane, or of a consumed contribution, leaves for the holding Crate (R90). -/
def execRelease (lane : Option Nat) (held : Nat) (s : State) : Host.Outcome State Fault Refusal :=
  .next (s.whenPowered (s.setDev (s.dev.release lane held)))

/-- FRAME_RECORD_RELEASE. The oldest release or skip in flight to a holding Crate arrives (R94). -/
def execFrameRecordRelease (c : Nat) (s : State) : Host.Outcome State Fault Refusal :=
  .next (s.whenPowered (s.setDev ((((s.dev.frameRecordRelease c).sendAgain).retryNacks).atticRetry)))

/-- MULTICAST_DESCRIPTOR. The oldest multicast descriptor still to reach a Crate arrives (R93). -/
def execMulticastDescriptor (c : Nat) (s : State) : Host.Outcome State Fault Refusal :=
  .next (s.whenPowered (s.setDev (s.dev.multicastDescriptor c)))

/-- REPLY. The oldest reply in flight to a holding Crate arrives (R94). -/
def execReply (c : Nat) (s : State) : Host.Outcome State Fault Refusal :=
  .next (s.whenPowered (s.setDev (((s.dev.replyArrives c).retryNacks).atticRetry)))

/-- OPEN_MAP_CHANGE. The oldest change of a lane's open bit still to reach a Crate arrives (R86). -/
def execOpenMapChange (c : Nat) (l : Nat) (s : State) : Host.Outcome State Fault Refusal :=
  .next (s.whenPowered (s.setDev (s.dev.openMapChange c l)))

/-- WORM_CUT. An arbiter's stall limit passes and it cuts the worm of a frame (R100). -/
def execWormCut (a : Arbiter) (held : Nat) (s : State) : Host.Outcome State Fault Refusal :=
  .next (s.whenPowered (s.setDev (s.dev.wormCut a held)))

end Sys2Proof.Machine
end

