-- ==== Sys2Proof/Machine/CmdIngress.lean ====
section
/-! DEFINITION. The meanings of the commands of arriving frames. -/

namespace Sys2Proof.Machine

/-- DATA. The head of a DATA frame arrives (R66, R106); what the ECC finds in the cells it fills: 0 nothing, 1 corrected, 2 uncorrectable (R82). -/
def execData (l : Nat) (f : Frame) (t : FabricTime) (ecc : Nat) (s : State) : Host.Outcome State Fault Refusal :=
  .next (s.whenPowered (s.setDev (s.dev.dataEcc l f t ecc)))

/-- CONTRIB. A whole contribution arrives (R58); what the ECC finds in its cells as the Combiner reads them (R82), the arbiter that cuts its worm, if one does (R100), and whether the Shelf slots it is added to are struck by an uncorrectable error (R192). -/
def execContrib (l : Nat) (f : Frame) (fcs : Nat) (p : Passage) (s : State) : Host.Outcome State Fault Refusal :=
  .next (s.whenPowered (s.setDev (s.dev.contrib l f (f.fcsState fcs) p.at_ p.ecc p.cut p.shelf)))

/-- RESULT. The head of a RESULT arrives (R218). -/
def execResult (l : Nat) (f : Frame) (t : FabricTime) (s : State) : Host.Outcome State Fault Refusal :=
  .next (s.whenPowered (s.setDev (s.dev.result l f t)))

/-- CNACK. A CNACK arrives (R220). -/
def execCnack (l : Nat) (f : Frame) (fcs : Nat) (t : FabricTime) (s : State) : Host.Outcome State Fault Refusal :=
  .next (s.whenPowered (s.setDev (s.dev.cnack l f (f.fcsState fcs) t)))

/-- MGMT. An MGMT frame arrives (R324). -/
def execMgmt (l : Nat) (f : Frame) (fcs : Nat) (t : FabricTime) (s : State) : Host.Outcome State Fault Refusal :=
  .next (s.whenPowered (s.setDev (s.dev.mgmt l f (f.fcsState fcs) t)))

/-- PTP_FRAME. A frame of EtherType 0x88F7 arrives (R287). -/
def execPtpFrame (l : Nat) (f : Frame) (e : Arrived) (s : State) : Host.Outcome State Fault Refusal :=
  .next (s.whenPowered (s.setDev (s.dev.ptpFrame l f (f.fcsState e.fcs) e.at_)))

/-- FOREIGN_FRAME. An Ethernet frame of another EtherType arrives (R45). -/
def execForeignFrame (l : Nat) (f : Frame) (e : Arrived) (s : State) : Host.Outcome State Fault Refusal :=
  .next (s.whenPowered (s.setDev (s.dev.foreignFrame l f (f.fcsState e.fcs) e.at_)))

/-- FRAME_TAIL. The tail of the frame now arriving on a lane (R61, R66). -/
def execFrameTail (l : Nat) (fcs : Nat) (t : FabricTime) (s : State) : Host.Outcome State Fault Refusal :=
  .next (s.whenPowered (s.setDev (s.dev.tail l (s.dev.arrivingFcs l fcs) t)))

end Sys2Proof.Machine
end

