-- ==== Sys2Proof/Machine/CmdInventory.lean ====
section
/-! DEFINITION. The meanings of the commands of the Inventory Access Protocol and commits. -/

namespace Sys2Proof.Machine

/-- READ. A READ request (R306, Table 14-9). -/
def execRead (peer : Peer) (items : List ReadItem) (s : State) : Host.Outcome State Fault Refusal :=
  .next (s.whenPowered (s.setAll (serve s.nv s.dev peer (.read items))))

/-- WRITE. A WRITE request of a transaction, 0 for none (R309). -/
def execWrite (peer : Peer) (tid : Nat) (items : List WriteItem) (s : State) : Host.Outcome State Fault Refusal :=
  .next (s.whenPowered (s.setAll (serve s.nv s.dev peer (.write tid items))))

/-- ENTRY_WRITE. A WRITE request of one entry (R306). -/
def execEntryWrite (peer : Peer) (tid : Nat) (item : WriteItem) (s : State) : Host.Outcome State Fault Refusal :=
  .next (s.whenPowered (s.setAll (serve s.nv s.dev peer (.write tid [item]))))

/-- OPEN. An OPEN request (R308). -/
def execOpenTransaction (peer : Peer) (s : State) : Host.Outcome State Fault Refusal :=
  .next (s.whenPowered (s.setAll (serve s.nv s.dev peer .open_)))

/-- COMMIT. A COMMIT request of a transaction for a step (R310). -/
def execCommit (peer : Peer) (tid : Nat) (x : Nat) (s : State) : Host.Outcome State Fault Refusal :=
  .next (s.whenPowered (s.setAll (serve s.nv s.dev peer (.commit tid x))))

/-- ABORT. An ABORT request (R309). -/
def execAbort (peer : Peer) (tid : Nat) (s : State) : Host.Outcome State Fault Refusal :=
  .next (s.whenPowered (s.setAll (serve s.nv s.dev peer (.abort tid))))

/-- CANCEL. A CANCEL request (R315). -/
def execCancel (peer : Peer) (x : Nat) (s : State) : Host.Outcome State Fault Refusal :=
  .next (s.whenPowered (s.setAll (serve s.nv s.dev peer (.cancel x))))

/-- STATUS. A STATUS request (R324). -/
def execStatus (peer : Peer) (s : State) : Host.Outcome State Fault Refusal :=
  .next (s.whenPowered (s.setAll (serve s.nv s.dev peer .status)))

/-- UNKNOWN_MESSAGE_TYPE. A message of a type that Table 14-9 does not list (R324). -/
def execUnknownMessageType (peer : Peer) (type : Nat) (s : State) : Host.Outcome State Fault Refusal :=
  .next (s.whenPowered (s.setAll (serve s.nv s.dev peer (.other type))))

/-- TRANSACTION_EXPIRY. A transaction receives no request for the staging timeout (R309). -/
def execTransactionExpiry (id : Nat) (s : State) : Host.Outcome State Fault Refusal :=
  .next (s.whenPowered (s.setDev (s.dev.transExpiry id)))

/-- COMMIT_APPLY. The commit sealed for the boundary is applied; the fuse writes of it that fail, as a mask (R313, R340). -/
def execCommitApply (bad : Nat) (s : State) : Host.Outcome State Fault Refusal :=
  .next (s.whenPowered (s.setAll (commitDue s.nv s.dev bad)))

/-- QUIESCE_ENTRY_IN_FORCE. A committed QUIESCE entry comes into force, in a Crate where the entry is held by Crate (R311). -/
def execQuiesceEntryInForce (index : Nat) (sub : Nat) (crate : Nat) (s : State) : Host.Outcome State Fault Refusal :=
  .next (s.whenPowered (s.setDev (s.dev.quiesce index sub crate)))

/-- COLD_VALUE_STORE. The Attic stores the COLD values of commits (R314). -/
def execColdValueStore (s : State) : Host.Outcome State Fault Refusal :=
  .next (s.whenPowered (s.setAll (coldStore s.nv s.dev)))

end Sys2Proof.Machine
end

