-- ==== Sys2Proof/Machine/CmdLink.lean ====
section
/-! DEFINITION. The meanings of the commands of lanes and the link layer. -/

namespace Sys2Proof.Machine

/-- PCS_LOCK_GAINED. A lane gains PCS lock (R35, R70). -/
def execPcsLockGained (l : Nat) (s : State) : Host.Outcome State Fault Refusal :=
  .next (s.whenPowered (s.setDev (s.dev.lockGained l)))

/-- PCS_LOCK_LOST. A lane loses PCS lock (R35). -/
def execPcsLockLost (l : Nat) (s : State) : Host.Outcome State Fault Refusal :=
  .next (s.whenPowered (s.setDev (s.dev.lockLost l)))

/-- HELLO. A hello arrives on a lane (R35). The work of an open step boundary is done first (R300). -/
def execHello (l : Nat) (f : Frame) (fcs : Nat) (t : FabricTime) (s : State) : Host.Outcome State Fault Refusal :=
  let r := runOpen s.nv s.dev
  .next (s.whenPowered (s.setAll (r.1, r.2.helloArrives l f (f.fcsState fcs) t)))

/-- HELLO_SEND. The hello of the step is sent on the locked lanes (R31). The work of an open step boundary is done first (R300). -/
def execHelloSend (t : FabricTime) (s : State) : Host.Outcome State Fault Refusal :=
  let r := runOpen s.nv s.dev
  .next (s.whenPowered (s.setAll (r.1, r.2.helloSend t)))

/-- LINK. A LINK frame arrives (R63). -/
def execLink (l : Nat) (f : Frame) (fcs : Nat) (t : FabricTime) (s : State) : Host.Outcome State Fault Refusal :=
  .next (s.whenPowered (s.setDev (s.dev.link l f (f.fcsState fcs) t)))

/-- LINK_SEND. A LINK frame is sent (R64). -/
def execLinkSend (l : Nat) (t : FabricTime) (s : State) : Host.Outcome State Fault Refusal :=
  .next (s.whenPowered (s.setDev (s.dev.linkSend l t)))

/-- LNACK. An LNACK arrives (R68). -/
def execLnack (l : Nat) (f : Frame) (fcs : Nat) (t : FabricTime) (s : State) : Host.Outcome State Fault Refusal :=
  .next (s.whenPowered (s.setDev (s.dev.lnack l f (f.fcsState fcs) t)))

/-- LNACK_SEND. The LNACK that the receiver owes is sent (R67). -/
def execLnackSend (l : Nat) (t : FabricTime) (s : State) : Host.Outcome State Fault Refusal :=
  .next (s.whenPowered (s.setDev (s.dev.lnackSend l t)))

/-- CREDIT_REPORT_LATE. 2 µs pass without a valid LINK frame (R64). -/
def execCreditReportLate (l : Nat) (s : State) : Host.Outcome State Fault Refusal :=
  .next (s.whenPowered (s.setDev (s.dev.creditLate l)))

/-- ACKNOWLEDGEMENT_DEADLINE. The deadline of the oldest unacknowledged frame passes (R69). -/
def execAcknowledgementDeadline (l : Nat) (s : State) : Host.Outcome State Fault Refusal :=
  .next (s.whenPowered (s.setDev (s.dev.ackDeadlinePassed l)))

/-- REPLAY. A retransmission begins at a frame boundary (R68). -/
def execReplay (l : Nat) (t : FabricTime) (s : State) : Host.Outcome State Fault Refusal :=
  .next (s.whenPowered (s.setDev (s.dev.replay l t)))

/-- LANE_LOST. The dead count passes without a valid hello (R35). -/
def execLaneLost (l : Nat) (s : State) : Host.Outcome State Fault Refusal :=
  .next (s.whenPowered (s.setDev (s.dev.laneLost l)))

/-- ABSENCE_TIMEOUT. A port's absence timeout expires (R36). -/
def execAbsenceTimeout (p : Nat) (s : State) : Host.Outcome State Fault Refusal :=
  .next (s.whenPowered (s.setDev (s.dev.absenceTimeout p)))

end Sys2Proof.Machine
end

