-- ==== Sys2Proof/Machine/CmdOptics.lean ====
section
/-! DEFINITION. The meanings of the commands of rings, lasers and receivers. -/

namespace Sys2Proof.Machine

/-- LASER_MODULE_INSERTED. A laser module is inserted (R257). -/
def execLaserModuleInserted (m : Nat) (s : State) : Host.Outcome State Fault Refusal :=
  .next (s.setDev (s.dev.moduleInserted m))

/-- LASER_MODULE_REMOVED. A laser module is removed (R257). -/
def execLaserModuleRemoved (m : Nat) (s : State) : Host.Outcome State Fault Refusal :=
  .next (s.setDev (s.dev.moduleRemoved m))

/-- FEC_ALIGNMENT_TIMEOUT. Modulated light has lasted without codeword alignment (R264). -/
def execFecAlignmentTimeout (l : Nat) (s : State) : Host.Outcome State Fault Refusal :=
  .next (s.whenPowered (s.setDev (s.dev.fecTimeout l)))

/-- LOOP_SWEEP_START. A loop leaves OFF: a lane's modulator ring, or its drop ring (R250). -/
def execLoopSweepStart (l : Nat) (drop : Bool) (s : State) : Host.Outcome State Fault Refusal :=
  .next (s.whenPowered (s.setDev (s.dev.sweepStart l drop)))

/-- SWEEP_END. A sweep ends with the candidates it marked, as heater powers in µW, at a temperature in 1/16 °C (R251). -/
def execSweepEnd (l : Nat) (drop : Bool) (cands : List Nat) (temp : Int) (s : State) : Host.Outcome State Fault Refusal :=
  .next (s.whenPowered (s.setDev (s.dev.sweepEnd (s.nv.calibration.get ringCalibration (ringOf l drop)) l drop cands temp)))

/-- ACQUIRE_END. A loop reaches its operating point at a heater power in µW (R251). -/
def execAcquireEnd (l : Nat) (drop : Bool) (heater : Nat) (s : State) : Host.Outcome State Fault Refusal :=
  .next (s.whenPowered (s.setDev (s.dev.acquireEnd l drop heater)))

/-- VERIFY_END. A verification ends with what it measured (R252). -/
def execVerifyEnd (l : Nat) (drop : Bool) (tones : Tones) (temp : Int) (s : State) : Host.Outcome State Fault Refusal :=
  .next (s.whenPowered (s.setDev (s.dev.verifyEnd (s.nv.calibration.get ringCalibration (ringOf l drop)) l drop tones temp)))

/-- TRACK_UPDATE. The 1 µs update: the change in µW that feedback asks for, and whether the detuning exceeds 8 GHz (R253). -/
def execTrackUpdate (l : Nat) (drop : Bool) (feedback : Int) (detuned : Bool) (s : State) : Host.Outcome State Fault Refusal :=
  .next (s.whenPowered (s.setDev (s.dev.trackUpdate (s.nv.calibration.get ringCalibration (ringOf l drop)) l drop feedback detuned)))

/-- RING_LOST_LOCK. Detuning above 8 GHz in 16 consecutive updates (R253). -/
def execRingLostLock (l : Nat) (drop : Bool) (s : State) : Host.Outcome State Fault Refusal :=
  .next (s.whenPowered (s.setDev (s.dev.ringLost l drop)))

/-- REVERIFICATION. The re-verification interval expires (R253). -/
def execReverification (l : Nat) (drop : Bool) (s : State) : Host.Outcome State Fault Refusal :=
  .next (s.whenPowered (s.setDev (s.dev.reverification l drop)))

/-- REVERIFICATION_END. A re-verification ends (R253). -/
def execReverificationEnd (l : Nat) (drop : Bool) (tones : Tones) (temp : Int) (s : State) : Host.Outcome State Fault Refusal :=
  .next (s.whenPowered (s.setDev (s.dev.reverificationEnd (s.nv.calibration.get ringCalibration (ringOf l drop)) l drop tones temp)))

/-- LIGHT_LOST. A ring's light is lost (R254). -/
def execLightLost (l : Nat) (drop : Bool) (s : State) : Host.Outcome State Fault Refusal :=
  .next (s.whenPowered (s.setDev (s.dev.lightLost l drop)))

/-- LIGHT_RETURNED. Light returns within the hold limit (R254). -/
def execLightReturned (l : Nat) (drop : Bool) (s : State) : Host.Outcome State Fault Refusal :=
  .next (s.whenPowered (s.setDev (s.dev.lightReturned l drop)))

/-- HOLD_LIMIT_EXPIRY. The hold limit passes without light (R250). -/
def execHoldLimitExpiry (l : Nat) (drop : Bool) (s : State) : Host.Outcome State Fault Refusal :=
  .next (s.whenPowered (s.setDev (s.dev.holdExpired l drop)))

/-- FAULT_RETRY. A loop in FAULT retries (R250). -/
def execFaultRetry (l : Nat) (drop : Bool) (s : State) : Host.Outcome State Fault Refusal :=
  .next (s.whenPowered (s.setDev (s.dev.faultRetry l drop)))

/-- ACTIVITY_WORD. A Crate's activity word reaches its Hatch (R256). -/
def execActivityWord (n : Nat) (power : Nat) (s : State) : Host.Outcome State Fault Refusal :=
  .next (s.whenPowered (s.setDev (s.dev.activityWord n power)))

/-- LASER_CHANNEL_FAILED. A grid channel of a laser input is declared failed (R259). -/
def execLaserChannelFailed (m : Nat) (k : Nat) (s : State) : Host.Outcome State Fault Refusal :=
  .next (s.whenPowered (s.setDev (s.dev.channelFailed m k)))

/-- SPARING. The Attic spares the failed channel that has waited longest (R260). -/
def execSparing (m : Nat) (s : State) : Host.Outcome State Fault Refusal :=
  .next (s.whenPowered (s.setDev (s.dev.sparing m)))

/-- SPARE_TUNED. The module reports its spare tuned (R260). -/
def execSpareTuned (m : Nat) (s : State) : Host.Outcome State Fault Refusal :=
  .next (s.whenPowered (s.setDev (s.dev.spareTuned m)))

/-- SELECTOR_VERIFIED. The spare selector verifies (R260). -/
def execSelectorVerified (m : Nat) (s : State) : Host.Outcome State Fault Refusal :=
  .next (s.whenPowered (s.setDev (s.dev.selectorVerified m)))

/-- SPARE_COMMAND_SPARE. A spare command, at its commit step (R261). -/
def execSpareCommandSpare (m : Nat) (k : Nat) (s : State) : Host.Outcome State Fault Refusal :=
  .next (s.whenPowered (s.setDev (s.dev.spareCmd m k)))

/-- SPARE_COMMAND_RETURN. A return command, at its commit step (R261). -/
def execSpareCommandReturn (m : Nat) (k : Nat) (s : State) : Host.Outcome State Fault Refusal :=
  .next (s.whenPowered (s.setDev (s.dev.returnCmd m k)))

/-- BIAS_CONTROL. The line powers as I16 in 0.01 dBm, and the lasers at their end of life as a mask (R258). -/
def execBiasControl (m : Nat) (powers : List Nat) (eol : Nat) (s : State) : Host.Outcome State Fault Refusal :=
  .next (s.whenPowered (s.setDev (s.dev.biasControl m powers eol)))

/-- RECEIVED_POWER_MEASUREMENT. A lane's received power, an I16 in 0.01 dBm (R267). -/
def execReceivedPowerMeasurement (l : Nat) (power : Nat) (s : State) : Host.Outcome State Fault Refusal :=
  .next (s.whenPowered (s.setDev (s.dev.receivedPower l power)))

/-- ERROR_MONITOR_INTERVAL. What a lane's decoders counted in the interval: codewords, corrected and uncorrectable ones, corrected bits, bits received (R268). -/
def execErrorMonitorInterval (l : Nat) (codewords : Nat) (corrected : Nat) (uncorrectable : Nat) (bits : Nat) (received : Nat) (s : State) : Host.Outcome State Fault Refusal :=
  .next (s.whenPowered (s.setDev (s.dev.errorInterval l codewords corrected uncorrectable bits received)))

/-- HATCH_WARM_UP_TIMEOUT. 60 s pass without a Hatch reaching 35 °C (R409). -/
def execHatchWarmUpTimeout (h : Nat) (s : State) : Host.Outcome State Fault Refusal :=
  .next (s.whenPowered (s.setDev (s.dev.warmUpTimeout h)))

/-- HATCH_SENSOR_READING. A Hatch's four sensors, as I16 in 1/16 °C (R409). -/
def execHatchSensorReading (h : Nat) (temps : List Nat) (s : State) : Host.Outcome State Fault Refusal :=
  .next (s.whenPowered (s.setDev (s.dev.hatchSensors h temps)))

/-- LASER_MODULE_FAULT. A laser module reports a fault (R269). -/
def execLaserModuleFault (m : Nat) (s : State) : Host.Outcome State Fault Refusal :=
  .next (s.whenPowered (s.setDev (s.dev.moduleFault m)))

end Sys2Proof.Machine
end

