-- ==== Sys2Proof/Machine/CmdPower.lean ====
section
/-! DEFINITION. The meanings of the commands of clocks, power and heat. -/

namespace Sys2Proof.Machine

/-- REFCLK_LOST. A reference clock, 0 or 1, is lost (R400). -/
def execRefclkLost (c : Nat) (s : State) : Host.Outcome State Fault Refusal :=
  .next (s.whenPowered (s.setAll (refclkLost s.nv s.dev c)))

/-- REFCLK_RESTORED. Both clocks have met their requirements for 1 ms; the boot that follows has the operands of BOOT (R400). -/
def execRefclkRestored (failed : Nat) (bad : Nat) (s : State) : Host.Outcome State Fault Refusal :=
  .next (s.whenPowered (s.setAll (refclkRestored s.nv s.dev failed bad)))

/-- THERMTRIP. A sensor reaches 115 °C (R407). -/
def execThermtrip (s : State) : Host.Outcome State Fault Refusal := .next (s.whenPowered (s.setAll (thermtrip s.nv s.dev)))

/-- POWER_MEASUREMENT. The 10 µs measurement: package power in W, rail powers in mW in the order of Table 18-1 (R405). -/
def execPowerMeasurement (watts : Nat) (rails : List Nat) (s : State) : Host.Outcome State Fault Refusal :=
  .next (s.whenPowered (s.setDev (s.dev.powerMeasured watts rails)))

/-- POWER_CAP_RAISE. Package power has stayed below 98 % of the cap for 1 ms (R405). -/
def execPowerCapRaise (s : State) : Host.Outcome State Fault Refusal := .next (s.whenPowered (s.setDev (s.dev.capRaise)))

/-- HOT_SPOT_READING. A Crate's hot-spot sensor, as an I16 in 1/16 °C (R406). -/
def execHotSpotReading (n : Nat) (temp : Nat) (s : State) : Host.Outcome State Fault Refusal :=
  .next (s.whenPowered (s.setDev (s.dev.hotSpot n temp)))

/-- THERMAL_FREQUENCY_RAISE. A Crate has stayed 3 °C below the throttle temperature for 1 ms (R406). -/
def execThermalFrequencyRaise (n : Nat) (s : State) : Host.Outcome State Fault Refusal :=
  .next (s.whenPowered (s.setDev (s.dev.thermalRaise n)))

end Sys2Proof.Machine
end

