-- ==== Sys2Proof/Machine/CmdRoutes.lean ====
section
/-! DEFINITION. The meanings of the commands of route versions, shapers and flow contexts. -/

namespace Sys2Proof.Machine

/-- PREPARE_VERSION. A route table version, 0 or 1, is prepared (R109). -/
def execPrepareVersion (v : Nat) (s : State) : Host.Outcome State Fault Refusal :=
  .next (s.whenPowered (s.setDev (s.dev.prepare v)))

/-- FLIP_TO_VERSION. A version becomes ACTIVE (R109). -/
def execFlipToVersion (v : Nat) (s : State) : Host.Outcome State Fault Refusal :=
  .next (s.whenPowered (s.setDev (s.dev.flip v)))

/-- VERSION_RETIREMENT. The DRAINING version becomes IDLE (R109). -/
def execVersionRetirement (s : State) : Host.Outcome State Fault Refusal :=
  .next (s.whenPowered (s.setAll (retireDue s.nv s.dev)))

/-- SHAPER_REFILL. A lane's shapers are refilled (R139). -/
def execShaperRefill (l : Nat) (t : FabricTime) (s : State) : Host.Outcome State Fault Refusal :=
  .next (s.whenPowered (s.setAll (refillDue s.nv s.dev l t)))

/-- FLOW_CONTEXT_FETCH_DONE. A flow context that a Crate fetched arrives (R143). -/
def execFlowContextFetchDone (n : Nat) (index : Nat) (s : State) : Host.Outcome State Fault Refusal :=
  .next (s.whenPowered (s.setDev (s.dev.fetchDone n index)))

/-- FLOW_CONTEXT_WRITE. A flow context is written at its commit step (R144). -/
def execFlowContextWrite (index : Nat) (value : Nat) (s : State) : Host.Outcome State Fault Refusal :=
  .next (s.whenPowered (s.setDev (s.dev.flowContextWrite index value)))

end Sys2Proof.Machine
end

