-- ==== Sys2Proof/Machine/CmdServices.lean ====
section
/-! DEFINITION. The meanings of the commands of the Attic's services. -/

namespace Sys2Proof.Machine

/-- CRATE_HEALTH_STATE_WRITE. A write of a Crate's health state (R363). -/
def execCrateHealthStateWrite (n : Nat) (v : Nat) (s : State) : Host.Outcome State Fault Refusal :=
  .next (s.whenPowered (s.setDev (s.dev.healthWrite n v)))

/-- ATTIC_SEND. The Attic sends a frame, on a lane or by its destination, with the tag of a timestamp request or the offset of a one-step insert (R288). -/
def execAtticSend (f : Frame) (lane : Option Nat) (stamp : Option Nat) (insert : Option Nat) (s : State) : Host.Outcome State Fault Refusal :=
  .next (s.whenPowered (s.setDev (s.dev.atticSend f lane stamp insert)))

/-- ACKNOWLEDGE. A write of a sequence to 0xAF00:02 (R355). -/
def execAcknowledge (q : Nat) (s : State) : Host.Outcome State Fault Refusal :=
  .next (s.whenPowered (s.setDev (s.dev.acknowledge q)))

/-- NOTICE_SUBSCRIPTION. A session's write of 0xAF00:07 (R356). -/
def execNoticeSubscription (session : Nat) (v : Nat) (s : State) : Host.Outcome State Fault Refusal :=
  .next (s.whenPowered (s.setDev (s.dev.noticeSubscribe session v)))

/-- NOTICE. The Attic sends a session its new event records (R356). -/
def execNotice (session : Nat) (s : State) : Host.Outcome State Fault Refusal :=
  .next (s.whenPowered (s.setDev (s.dev.notice session)))

/-- PORT_GROUP_RESET. A write of a Crate number to 0x2800:04 (R367). -/
def execPortGroupReset (n : Nat) (s : State) : Host.Outcome State Fault Refusal :=
  .next (s.whenPowered (s.setDev (s.dev.portGroup n)))

/-- ARBITER_RECORD_CLEAR_ALL. A write of 1 to 0x4003:01 (R101). -/
def execArbiterRecordClearAll (s : State) : Host.Outcome State Fault Refusal :=
  .next (s.whenPowered (s.setDev (s.dev.arbiterClearAll)))

/-- ARBITER_STALLED_FLAG_CLEAR. A write of 2 to 0x4003:01 (R101). -/
def execArbiterStalledFlagClear (s : State) : Host.Outcome State Fault Refusal :=
  .next (s.whenPowered (s.setDev (s.dev.arbiterClearFlags)))

end Sys2Proof.Machine
end

