-- ==== Sys2Proof/Machine/CmdTelemetry.lean ====
section
/-! DEFINITION. The meanings of the commands of telemetry. -/

namespace Sys2Proof.Machine

/-- SNAPSHOT. The counters freeze at the boundary that ends a named step (R377). -/
def execSnapshot (s : State) : Host.Outcome State Fault Refusal := .next (s.whenPowered (s.setAll (snapshotDue s.nv s.dev)))

/-- SNAPSHOT_RECORD_COMPLETE. The snapshot record is whole (R378). -/
def execSnapshotRecordComplete (s : State) : Host.Outcome State Fault Refusal :=
  .next (s.whenPowered (s.setDev (s.dev.snapshotComplete)))

/-- CONGESTION_MAP. The map that ends with the ended step is built (R387). -/
def execCongestionMap (s : State) : Host.Outcome State Fault Refusal := .next (s.whenPowered (s.setAll (mapDue s.nv s.dev)))

/-- NAMED_SNAPSHOT_REQUEST. A write names a step for a snapshot (R377). -/
def execNamedSnapshotRequest (k : Nat) (s : State) : Host.Outcome State Fault Refusal :=
  .next (s.whenPowered (s.setDev (s.dev.snapshotRequest k)))

/-- CONGESTION_MAP_REQUEST. A write names a map's end step (R387). -/
def execCongestionMapRequest (y : Nat) (s : State) : Host.Outcome State Fault Refusal :=
  .next (s.whenPowered (s.setDev (s.dev.mapRequest y)))

/-- TELEMETRY_SUBSCRIPTION. A session's write of 0xA000:07 (R389). -/
def execTelemetrySubscription (session : Nat) (v : Nat) (s : State) : Host.Outcome State Fault Refusal :=
  .next (s.whenPowered (s.setDev (s.dev.teleSubscribe session v)))

/-- TELEMETRY. The Attic sends the oldest waiting record to its subscribers (R389). -/
def execTelemetry (s : State) : Host.Outcome State Fault Refusal := .next (s.whenPowered (s.setDev (s.dev.telemetry)))

end Sys2Proof.Machine
end

