-- ==== Sys2Proof/Machine/CmdTime.lean ====
section
/-! DEFINITION. The meanings of the commands of time and the step boundary. -/

namespace Sys2Proof.Machine

/-- PPS_IN_EDGE. An edge of PPS_IN, with the fabric time at which it is seen (R294). -/
def execPpsInEdge (t : FabricTime) (s : State) : Host.Outcome State Fault Refusal :=
  .next (s.whenPowered (s.setAll (catchUp s.nv (s.dev.ppsEdge t))))

/-- PPS_OUT_PULSE. Fabric time reaches a whole second (R399). -/
def execPpsOutPulse (s : State) : Host.Outcome State Fault Refusal := .next (s.whenPowered (s.setDev (s.dev.ppsOutPulse)))

/-- STEP. A STEP frame arrives (R291, R292). -/
def execStep (l : Nat) (f : Frame) (fcs : Nat) (t : FabricTime) (s : State) : Host.Outcome State Fault Refusal :=
  .next (s.whenPowered (s.setAll (catchUp s.nv (s.dev.stepArrives l f (f.fcsState fcs) t))))

/-- STEP_SEND. The STEP frame of the step is sent on a lane (R290). The work of an open step boundary is done first (R300). -/
def execStepSend (l : Nat) (t : FabricTime) (s : State) : Host.Outcome State Fault Refusal :=
  let r := runOpen s.nv s.dev
  .next (s.whenPowered (s.setAll (r.1, r.2.stepSend l t)))

/-- STEP_BOUNDARY. Fabric time reaches the next step boundary (R300). -/
def execStepBoundary (s : State) : Host.Outcome State Fault Refusal :=
  .next (s.whenPowered (s.setAll (stepBoundary s.nv s.dev)))

/-- TIME_SOURCE_LOST. The time source is lost (R294). -/
def execTimeSourceLost (s : State) : Host.Outcome State Fault Refusal :=
  .next (s.whenPowered (s.setDev (s.dev.timeSourceLost)))

/-- NEXT_PPS_SECOND. A write of 0x8000:10 (R294). -/
def execNextPpsSecond (x : Nat) (s : State) : Host.Outcome State Fault Refusal :=
  .next (s.whenPowered (s.setDev (s.dev.nextPps x)))

/-- ATTIC_FREQUENCY_ADJUSTMENT. A write of 0x8000:11, in parts per 10⁹ (R294). -/
def execAtticFrequencyAdjustment (v : Int) (s : State) : Host.Outcome State Fault Refusal :=
  .next (s.whenPowered (s.setDev (s.dev.atticFrequency v)))

/-- ATTIC_PHASE_ADJUSTMENT. A write of 0x8000:12, in 2⁻¹⁶ ns (R294). -/
def execAtticPhaseAdjustment (v : Int) (s : State) : Host.Outcome State Fault Refusal :=
  .next (s.whenPowered (s.setAll (catchUp s.nv (s.dev.atticPhase v))))

/-- TIMESTAMP_QUEUE_READ. The Attic removes the oldest entry of a Crate's timestamp queue (R289). -/
def execTimestampQueueRead (n : Nat) (s : State) : Host.Outcome State Fault Refusal :=
  .next (s.whenPowered (s.setDev (s.dev.stampRead n)))

end Sys2Proof.Machine
end

