-- ==== Sys2Proof/Machine/Dispatch.lean ====
section
/-! DEFINITION. One arm for each command. -/

namespace Sys2Proof.Machine

def exec (i : Instr) (s : State) : Host.Outcome State Fault Refusal :=
  match i with
  | .powerUp => Sys2Proof.Machine.execPowerUp s
  | .powerLoss => Sys2Proof.Machine.execPowerLoss s
  | .railOutOfRange rail => Sys2Proof.Machine.execRailOutOfRange rail s
  | .railRecovery missing failed bad => Sys2Proof.Machine.execRailRecovery missing failed bad s
  | .coldReset lowNs => Sys2Proof.Machine.execColdReset lowNs s
  | .boot missing failed nv => Sys2Proof.Machine.execBoot missing failed nv s
  | .coldResetRequest x => Sys2Proof.Machine.execColdResetRequest x s
  | .wipeComplete => Sys2Proof.Machine.execWipeComplete s
  | .imageLoaded us => Sys2Proof.Machine.execImageLoaded us s
  | .inventoryServiceReady => Sys2Proof.Machine.execInventoryServiceReady s
  | .refclkLost c => Sys2Proof.Machine.execRefclkLost c s
  | .refclkRestored failed bad => Sys2Proof.Machine.execRefclkRestored failed bad s
  | .thermtrip => Sys2Proof.Machine.execThermtrip s
  | .powerMeasurement watts rails => Sys2Proof.Machine.execPowerMeasurement watts rails s
  | .powerCapRaise => Sys2Proof.Machine.execPowerCapRaise s
  | .hotSpotReading n temp => Sys2Proof.Machine.execHotSpotReading n temp s
  | .thermalFrequencyRaise n => Sys2Proof.Machine.execThermalFrequencyRaise n s
  | .ppsInEdge t => Sys2Proof.Machine.execPpsInEdge t s
  | .ppsOutPulse => Sys2Proof.Machine.execPpsOutPulse s
  | .laserModuleInserted m => Sys2Proof.Machine.execLaserModuleInserted m s
  | .laserModuleRemoved m => Sys2Proof.Machine.execLaserModuleRemoved m s
  | .pcsLockGained l => Sys2Proof.Machine.execPcsLockGained l s
  | .pcsLockLost l => Sys2Proof.Machine.execPcsLockLost l s
  | .fecAlignmentTimeout l => Sys2Proof.Machine.execFecAlignmentTimeout l s
  | .hello l f fcs t => Sys2Proof.Machine.execHello l f fcs t s
  | .helloSend t => Sys2Proof.Machine.execHelloSend t s
  | .link l f fcs t => Sys2Proof.Machine.execLink l f fcs t s
  | .linkSend l t => Sys2Proof.Machine.execLinkSend l t s
  | .lnack l f fcs t => Sys2Proof.Machine.execLnack l f fcs t s
  | .lnackSend l t => Sys2Proof.Machine.execLnackSend l t s
  | .step l f fcs t => Sys2Proof.Machine.execStep l f fcs t s
  | .stepSend l t => Sys2Proof.Machine.execStepSend l t s
  | .data l f t ecc => Sys2Proof.Machine.execData l f t ecc s
  | .contrib l f fcs p => Sys2Proof.Machine.execContrib l f fcs p s
  | .result l f t => Sys2Proof.Machine.execResult l f t s
  | .cnack l f fcs t => Sys2Proof.Machine.execCnack l f fcs t s
  | .mgmt l f fcs t => Sys2Proof.Machine.execMgmt l f fcs t s
  | .ptpFrame l f e => Sys2Proof.Machine.execPtpFrame l f e s
  | .foreignFrame l f e => Sys2Proof.Machine.execForeignFrame l f e s
  | .frameTail l fcs t => Sys2Proof.Machine.execFrameTail l fcs t s
  | .creditReportLate l => Sys2Proof.Machine.execCreditReportLate l s
  | .acknowledgementDeadline l => Sys2Proof.Machine.execAcknowledgementDeadline l s
  | .replay l t => Sys2Proof.Machine.execReplay l t s
  | .laneLost l => Sys2Proof.Machine.execLaneLost l s
  | .absenceTimeout p => Sys2Proof.Machine.execAbsenceTimeout p s
  | .pushArrival l => Sys2Proof.Machine.execPushArrival l s
  | .descriptor l => Sys2Proof.Machine.execDescriptor l s
  | .deferReply c => Sys2Proof.Machine.execDeferReply c s
  | .freeEntryAnnouncement egress holder => Sys2Proof.Machine.execFreeEntryAnnouncement egress holder s
  | .schedulerSelection l => Sys2Proof.Machine.execSchedulerSelection l s
  | .pull l ecc => Sys2Proof.Machine.execPull l ecc s
  | .frameTransmissionStart l t => Sys2Proof.Machine.execFrameTransmissionStart l t s
  | .frameTransmissionEnd l => Sys2Proof.Machine.execFrameTransmissionEnd l s
  | .release lane held => Sys2Proof.Machine.execRelease lane held s
  | .frameRecordRelease c => Sys2Proof.Machine.execFrameRecordRelease c s
  | .multicastDescriptor c => Sys2Proof.Machine.execMulticastDescriptor c s
  | .reply c => Sys2Proof.Machine.execReply c s
  | .memberAbsentNotice n => Sys2Proof.Machine.execMemberAbsentNotice n s
  | .openMapChange c l => Sys2Proof.Machine.execOpenMapChange c l s
  | .wormCut a held => Sys2Proof.Machine.execWormCut a held s
  | .prepareVersion v => Sys2Proof.Machine.execPrepareVersion v s
  | .flipToVersion v => Sys2Proof.Machine.execFlipToVersion v s
  | .versionRetirement => Sys2Proof.Machine.execVersionRetirement s
  | .shaperRefill l t => Sys2Proof.Machine.execShaperRefill l t s
  | .flowContextFetchDone n index => Sys2Proof.Machine.execFlowContextFetchDone n index s
  | .flowContextWrite index value => Sys2Proof.Machine.execFlowContextWrite index value s
  | .install record => Sys2Proof.Machine.execInstall record s
  | .arm ctx gen => Sys2Proof.Machine.execArm ctx gen s
  | .reset ctx gen => Sys2Proof.Machine.execReset ctx gen s
  | .retirePark ctx => Sys2Proof.Machine.execRetirePark ctx s
  | .retireFree ctx => Sys2Proof.Machine.execRetireFree ctx s
  | .holdTimeExpiry n => Sys2Proof.Machine.execHoldTimeExpiry n s
  | .stragglerTimeout ctx pos group => Sys2Proof.Machine.execStragglerTimeout ctx pos group s
  | .resultWritten ctx pos g => Sys2Proof.Machine.execResultWritten ctx pos g s
  | .upwardContributionTimeout ctx gen chunk => Sys2Proof.Machine.execUpwardContributionTimeout ctx gen chunk s
  | .planSwitch => Sys2Proof.Machine.execPlanSwitch s
  | .planOverrideForceA ctx => Sys2Proof.Machine.execPlanOverrideForceA ctx s
  | .planOverrideForceB ctx => Sys2Proof.Machine.execPlanOverrideForceB ctx s
  | .planOverrideReturn ctx => Sys2Proof.Machine.execPlanOverrideReturn ctx s
  | .combinerDerate n v => Sys2Proof.Machine.execCombinerDerate n v s
  | .combinerRemap n target => Sys2Proof.Machine.execCombinerRemap n target s
  | .remapGroupMove ctx pos group => Sys2Proof.Machine.execRemapGroupMove ctx pos group s
  | .engineAcknowledgement ctx pos group => Sys2Proof.Machine.execEngineAcknowledgement ctx pos group s
  | .spillGroupClearDone ctx pos group => Sys2Proof.Machine.execSpillGroupClearDone ctx pos group s
  | .shadowCopy ctx pos group => Sys2Proof.Machine.execShadowCopy ctx pos group s
  | .shadowCompletionNotice ctx pos group => Sys2Proof.Machine.execShadowCompletionNotice ctx pos group s
  | .shadowValues ctx pos group operandError resultError => Sys2Proof.Machine.execShadowValues ctx pos group operandError resultError s
  | .shelfSlotZeroed ctx pos group => Sys2Proof.Machine.execShelfSlotZeroed ctx pos group s
  | .crateHealthStateWrite n v => Sys2Proof.Machine.execCrateHealthStateWrite n v s
  | .scrub k ecc hit => Sys2Proof.Machine.execScrub k ecc hit s
  | .cellarUncorrectableError k addr hit => Sys2Proof.Machine.execCellarUncorrectableError k addr hit s
  | .stackFailed k => Sys2Proof.Machine.execStackFailed k s
  | .loopSweepStart l drop => Sys2Proof.Machine.execLoopSweepStart l drop s
  | .sweepEnd l drop cands temp => Sys2Proof.Machine.execSweepEnd l drop cands temp s
  | .acquireEnd l drop heater => Sys2Proof.Machine.execAcquireEnd l drop heater s
  | .verifyEnd l drop tones temp => Sys2Proof.Machine.execVerifyEnd l drop tones temp s
  | .trackUpdate l drop feedback detuned => Sys2Proof.Machine.execTrackUpdate l drop feedback detuned s
  | .ringLostLock l drop => Sys2Proof.Machine.execRingLostLock l drop s
  | .reverification l drop => Sys2Proof.Machine.execReverification l drop s
  | .reverificationEnd l drop tones temp => Sys2Proof.Machine.execReverificationEnd l drop tones temp s
  | .lightLost l drop => Sys2Proof.Machine.execLightLost l drop s
  | .lightReturned l drop => Sys2Proof.Machine.execLightReturned l drop s
  | .holdLimitExpiry l drop => Sys2Proof.Machine.execHoldLimitExpiry l drop s
  | .faultRetry l drop => Sys2Proof.Machine.execFaultRetry l drop s
  | .activityWord n power => Sys2Proof.Machine.execActivityWord n power s
  | .laserChannelFailed m k => Sys2Proof.Machine.execLaserChannelFailed m k s
  | .sparing m => Sys2Proof.Machine.execSparing m s
  | .spareTuned m => Sys2Proof.Machine.execSpareTuned m s
  | .selectorVerified m => Sys2Proof.Machine.execSelectorVerified m s
  | .spareCommandSpare m k => Sys2Proof.Machine.execSpareCommandSpare m k s
  | .spareCommandReturn m k => Sys2Proof.Machine.execSpareCommandReturn m k s
  | .biasControl m powers eol => Sys2Proof.Machine.execBiasControl m powers eol s
  | .receivedPowerMeasurement l power => Sys2Proof.Machine.execReceivedPowerMeasurement l power s
  | .errorMonitorInterval l codewords corrected uncorrectable bits received => Sys2Proof.Machine.execErrorMonitorInterval l codewords corrected uncorrectable bits received s
  | .hatchWarmUpTimeout h => Sys2Proof.Machine.execHatchWarmUpTimeout h s
  | .chuteMapWrite h map => Sys2Proof.Machine.execChuteMapWrite h map s
  | .chuteProgrammeStart h first again => Sys2Proof.Machine.execChuteProgrammeStart h first again s
  | .chuteProgrammeEnd h => Sys2Proof.Machine.execChuteProgrammeEnd h s
  | .chutePowerGoodRead h => Sys2Proof.Machine.execChutePowerGoodRead h s
  | .stepBoundary => Sys2Proof.Machine.execStepBoundary s
  | .timeSourceLost => Sys2Proof.Machine.execTimeSourceLost s
  | .nextPpsSecond x => Sys2Proof.Machine.execNextPpsSecond x s
  | .atticFrequencyAdjustment v => Sys2Proof.Machine.execAtticFrequencyAdjustment v s
  | .atticPhaseAdjustment v => Sys2Proof.Machine.execAtticPhaseAdjustment v s
  | .timestampQueueRead n => Sys2Proof.Machine.execTimestampQueueRead n s
  | .atticSend f lane stamp insert => Sys2Proof.Machine.execAtticSend f lane stamp insert s
  | .read peer items => Sys2Proof.Machine.execRead peer items s
  | .write peer tid items => Sys2Proof.Machine.execWrite peer tid items s
  | .entryWrite peer tid item => Sys2Proof.Machine.execEntryWrite peer tid item s
  | .openTransaction peer => Sys2Proof.Machine.execOpenTransaction peer s
  | .commit peer tid x => Sys2Proof.Machine.execCommit peer tid x s
  | .abort peer tid => Sys2Proof.Machine.execAbort peer tid s
  | .cancel peer x => Sys2Proof.Machine.execCancel peer x s
  | .status peer => Sys2Proof.Machine.execStatus peer s
  | .unknownMessageType peer type => Sys2Proof.Machine.execUnknownMessageType peer type s
  | .transactionExpiry id => Sys2Proof.Machine.execTransactionExpiry id s
  | .commitApply bad => Sys2Proof.Machine.execCommitApply bad s
  | .quiesceEntryInForce index sub crate => Sys2Proof.Machine.execQuiesceEntryInForce index sub crate s
  | .coldValueStore => Sys2Proof.Machine.execColdValueStore s
  | .init src lane key ra id target => Sys2Proof.Machine.execInit src lane key ra id target s
  | .confirm id sa => Sys2Proof.Machine.execConfirm id sa s
  | .dataRecord src lane head body wrote => Sys2Proof.Machine.execDataRecord src lane head body wrote s
  | .close lane head body => Sys2Proof.Machine.execClose lane head body s
  | .sessionIdleTimeout id => Sys2Proof.Machine.execSessionIdleTimeout id s
  | .watchdogService => Sys2Proof.Machine.execWatchdogService s
  | .watchdogFirstExpiry => Sys2Proof.Machine.execWatchdogFirstExpiry s
  | .watchdogSecondExpiry => Sys2Proof.Machine.execWatchdogSecondExpiry s
  | .atticRestartRequest x => Sys2Proof.Machine.execAtticRestartRequest x s
  | .firmwareHalt => Sys2Proof.Machine.execFirmwareHalt s
  | .atticMemoryWiped => Sys2Proof.Machine.execAtticMemoryWiped s
  | .trialConfirm => Sys2Proof.Machine.execTrialConfirm s
  | .trialWindowExpiry => Sys2Proof.Machine.execTrialWindowExpiry s
  | .lifeCycleRequest session value x => Sys2Proof.Machine.execLifeCycleRequest session value x s
  | .lifeCycleTransition bad => Sys2Proof.Machine.execLifeCycleTransition bad s
  | .advanceSecurityVersion x fails => Sys2Proof.Machine.execAdvanceSecurityVersion x fails s
  | .revokeFerestumKeySlot k fails => Sys2Proof.Machine.execRevokeFerestumKeySlot k fails s
  | .attestationRequest nonce => Sys2Proof.Machine.execAttestationRequest nonce s
  | .attestationReportReady => Sys2Proof.Machine.execAttestationReportReady s
  | .acknowledge q => Sys2Proof.Machine.execAcknowledge q s
  | .noticeSubscription session v => Sys2Proof.Machine.execNoticeSubscription session v s
  | .notice session => Sys2Proof.Machine.execNotice session s
  | .portGroupReset n => Sys2Proof.Machine.execPortGroupReset n s
  | .arbiterRecordClearAll => Sys2Proof.Machine.execArbiterRecordClearAll s
  | .arbiterStalledFlagClear => Sys2Proof.Machine.execArbiterStalledFlagClear s
  | .snapshot => Sys2Proof.Machine.execSnapshot s
  | .snapshotRecordComplete => Sys2Proof.Machine.execSnapshotRecordComplete s
  | .congestionMap => Sys2Proof.Machine.execCongestionMap s
  | .namedSnapshotRequest k => Sys2Proof.Machine.execNamedSnapshotRequest k s
  | .congestionMapRequest y => Sys2Proof.Machine.execCongestionMapRequest y s
  | .telemetrySubscription session v => Sys2Proof.Machine.execTelemetrySubscription session v s
  | .telemetry => Sys2Proof.Machine.execTelemetry s
  | .hatchSensorReading h temps => Sys2Proof.Machine.execHatchSensorReading h temps s
  | .laserModuleFault m => Sys2Proof.Machine.execLaserModuleFault m s

end Sys2Proof.Machine
end

