-- ==== Sys2Proof/Safety.lean ====
section
/-! DEFINITION. The terms in which the claims speak: the parts of the device, a device with some of them set aside, and what
a safe run keeps. -/

namespace Sys2Proof.Machine

/-- The parts of the volatile state: one for each field of `Dev`. -/
inductive Part where
  | lanes | ports | crates | chutes | hatches | modules | stackTab | arb | time | log | inv | attic | tele | power
  | board | held | nextHeld | net | waits | consumed | contexts | holding | nacks | shadowRecs | versions | flows | fences
  | due | out | draws | mac | shadows | atticWaits
  deriving DecidableEq, Repr

/-- The device with some of its parts set aside, so that `e.without ps = d.without ps` says that `e` and `d` differ in those
parts at most. -/
def Dev.without (ps : List Part) (d : Dev) : Dev where
  lanes := if Part.lanes ∈ ps then {} else d.lanes
  ports := if Part.ports ∈ ps then {} else d.ports
  crates := if Part.crates ∈ ps then {} else d.crates
  chutes := if Part.chutes ∈ ps then {} else d.chutes
  hatches := if Part.hatches ∈ ps then {} else d.hatches
  modules := if Part.modules ∈ ps then {} else d.modules
  stackTab := if Part.stackTab ∈ ps then {} else d.stackTab
  arb := if Part.arb ∈ ps then {} else d.arb
  time := if Part.time ∈ ps then {} else d.time
  log := if Part.log ∈ ps then {} else d.log
  inv := if Part.inv ∈ ps then {} else d.inv
  attic := if Part.attic ∈ ps then {} else d.attic
  tele := if Part.tele ∈ ps then {} else d.tele
  power := if Part.power ∈ ps then {} else d.power
  board := if Part.board ∈ ps then {} else d.board
  held := if Part.held ∈ ps then {} else d.held
  nextHeld := if Part.nextHeld ∈ ps then 0 else d.nextHeld
  net := if Part.net ∈ ps then [] else d.net
  waits := if Part.waits ∈ ps then [] else d.waits
  consumed := if Part.consumed ∈ ps then [] else d.consumed
  contexts := if Part.contexts ∈ ps then {} else d.contexts
  holding := if Part.holding ∈ ps then [] else d.holding
  nacks := if Part.nacks ∈ ps then [] else d.nacks
  shadowRecs := if Part.shadowRecs ∈ ps then [] else d.shadowRecs
  versions := if Part.versions ∈ ps then {} else d.versions
  flows := if Part.flows ∈ ps then {} else d.flows
  fences := if Part.fences ∈ ps then [] else d.fences
  due := if Part.due ∈ ps then [] else d.due
  out := if Part.out ∈ ps then [] else d.out
  draws := if Part.draws ∈ ps then 0 else d.draws
  mac := if Part.mac ∈ ps then 0 else d.mac
  shadows := if Part.shadows ∈ ps then [] else d.shadows
  atticWaits := if Part.atticWaits ∈ ps then [] else d.atticWaits

/-- Power is applied; without it every block stops (R17). -/
def On (s : State) : Prop := s.dev.board.powered = true

/-- Command `c` takes the state to `t`, leaves the waiting commands and the non-volatile state as they are, and changes the
device in the parts `ps` at most. -/
def Runs (c : Instr) (s t : State) (ps : List Part) : Prop :=
  exec c s = .next t ∧ t.pending = s.pending ∧ t.nv = s.nv ∧ t.dev.without ps = s.dev.without ps

/-- A TC6 frame of an opcode that a locked lane takes: it has the lane's framing, its header check and version pass, it keeps its row
and its size (R43, R48, R49, R52, R53). -/
def ControlFrame (d : Dev) (l : Nat) (f : Frame) (opcode : Nat) : Prop :=
  (d.lane l).rx.lock = true ∧ f.hdr.opcode = opcode ∧ d.headerOk l f = true ∧ f.rowOk = true ∧ f.badSize = false

/-- A control frame of an opcode and a payload that leaves a lane at an instant, with its correct FCS (R61, Table 03-3). -/
def Dev.controlOut (d : Dev) (l opcode : Nat) (b : List Byte) (t : FabricTime) : Out :=
  .frame l (d.controlFrame l opcode b) (d.controlFrame l opcode b).fcs t

/-- The header of a frame that takes a link sequence reaches a locked lane at which no frame is arriving, in the lane's framing, and
its header check passes (R43, R48, R49, R65). -/
def Comes (d : Dev) (l : Nat) (f : Frame) : Prop :=
  (d.lane l).rx.lock = true ∧ (d.lane l).rx.rx = none ∧ d.headerOk l f = true ∧ f.hdr.tc ≠ 6

/-- A frame that comes in the sequence its lane expects, keeps its row, finds a lane that carries data and, on a credited
virtual channel, room in its ring (R37, R52, R66, R79). -/
def Admitted (d : Dev) (l : Nat) (f : Frame) : Prop :=
  Comes d l f ∧ wrapSub 16 f.hdr.seq (d.lane l).rx.expect = 0 ∧ f.rowOk = true ∧ d.carries l = true ∧
  (credited (d.vcIn l f) = true → (d.ring l (d.vcIn l f)).used + f.flits ≤ (d.ring l (d.vcIn l f)).size)

/-- A control frame opcode or a contribution, RESULT, CNACK or MGMT opcode: any other is handled as DATA (R52). -/
def ownRow (opcode : Nat) : Prop := opcode ∈ [0x10, 0x11, 0x12, 0x20, 0x21, 0x22, 0x23, 0x30]

/-- Message `m`, behind `a` and before `b` in flight, is the first that satisfies a test and may arrive at Crate `c`: no message of
its path to `c` stands before it, and every earlier one that satisfies the test is kept back by one of its own path (R94). -/
def Dev.FirstTo (d : Dev) (c : Nat) (p : Msg → Bool) (a : List Msg) (m : Msg) (b : List Msg) : Prop :=
  d.net = a ++ m :: b ∧ p m = true ∧ d.pathTo c m ≠ none ∧ (∀ k ∈ a, d.pathTo c k ≠ d.pathTo c m) ∧
  ∀ a1 k a2, a = a1 ++ k :: a2 → p k = true → d.pathTo c k = none ∨ ∃ j ∈ a1, d.pathTo c j = d.pathTo c k

/-- Tests for the kinds of messages (Table 04-4). -/
def Msg.isPush (l : Nat) : Msg → Bool | .push _ l' _ => decide (l' = l) | _ => false
/-- A descriptor for a lane. -/
def Msg.isDesc (l : Nat) : Msg → Bool | .desc _ l' _ => decide (l' = l) | _ => false
/-- A defer reply. -/
def Msg.isDefer : Msg → Bool | .deferReply _ _ _ _ => true | _ => false
/-- A multicast descriptor. -/
def Msg.isMdesc : Msg → Bool | .mdesc _ _ _ => true | _ => false
/-- A reply. -/
def Msg.isReply : Msg → Bool | .reply _ _ _ => true | _ => false
/-- A release or a skip. -/
def Msg.isRelease : Msg → Bool | .release _ _ => true | .skip _ _ => true | _ => false
/-- A change of a lane's open bit. -/
def Msg.isOpenBit (l : Nat) : Msg → Bool | .openBit l' _ _ => decide (l' = l) | _ => false
/-- A member-absent notice. -/
def Msg.isAbsent : Msg → Bool | .memberAbsent _ _ _ _ _ => true | _ => false

/-- A unicast frame's next message: it waits behind any of its channel that waits for the same Crate; else it is a push where its
Crate sees the lane open and cut-through is on, and its descriptor where not (R85, R86). -/
def GoesTo (d : Dev) (h k : Nat) (x : Held) (mark : Bool) (t : Dev) : Prop :=
  if d.waits.any (fun w => decide (w.holder = x.crate ∧ w.egress = crateOf k ∧ w.vc = x.vc)) = true then
    ⟨x.crate, crateOf k, x.vc, h, some k, mark, false⟩ ∈ t.waits
  else if d.seesOpen x.crate k = true ∧ d.cfg 0x4000 2 = 1 then Msg.push h k mark ∈ t.net
  else Msg.desc h k mark ∈ t.net

/-- A multicast frame's descriptors: one on its way to every Crate but those for which one of its channel waits, behind which its
own waits (R85, R92). -/
def GoesToAll (d : Dev) (h : Nat) (x : Held) (t : Dev) : Prop :=
  ∀ e < 128,
    if d.waits.any (fun w => decide (w.holder = x.crate ∧ w.egress = e ∧ w.vc = x.vc)) = true then
      ⟨x.crate, e, x.vc, h, none, x.mark, false⟩ ∈ t.waits
    else ∃ map, Msg.mdesc h map false ∈ t.net ∧ bit map e = true

/-- What becomes of a unicast descriptor of frame `h` at its egress lane (R83, R84, R85, R91, R96): released where the frame is
bad; released and counted where the lane carries no data or a lossy class finds its queue or the Crate full; deferred where a
lossless class finds no entry or an earlier frame of its lane and channel is deferred there; else put at the end of its queue with its
marking decision (R128). -/
def Joins (d : Dev) (l h : Nat) (mark : Bool) (t : Dev) : Prop :=
  let n := crateOf l
  let refused := Msg.release h n ∈ t.net ∧ t.tallyOf 0x4E03 l = (d.tallyOf 0x4E03 l + 1) % 2 ^ 64 ∧
    ∀ vc, (t.egress l).queue vc = (d.egress l).queue vc
  ∀ x, d.heldAt h = some x →
    if x.bad = true then Msg.release h n ∈ t.net
    else if d.carries l = false then refused
    else if x.vc < 4 ∧ (d.egress l).cells x.vc ≥ d.cfg 0x4000 5 then refused ∧ t.log = (d.raise 0x4003 l).log
    else if x.vc < 4 ∧ (d.freeEntries n = 0 ∨ (d.path n).lossy ≥ d.cfg 0x4000 6) then refused
    else if d.freeEntries n = 0 ∨ (4 ≤ x.vc ∧ d.earlier l h x = true) then
      Msg.deferReply h n (some l) mark ∈ t.net ∧ (d.freeEntries n = 0 → x.crate ∈ (t.path n).owed) ∧
      t.log = (d.raise 0x4006 n).log ∧ ∀ vc, (t.egress l).queue vc = (d.egress l).queue vc
    else (t.path n).entries = (d.path n).entries + 1 ∧
      (t.egress l).queue x.vc = (d.egress l).queue x.vc ++
        [⟨h, x.frame.flits, false, mark || (d.markDecision l (x.vc / 2) ((d.egress l).depth x.vc)).1, (d.egress l).nextAt⟩] ∧
      ∀ vc, vc ≠ x.vc → (t.egress l).queue vc = (d.egress l).queue vc

/-- A bad frame waits on no lane: no queue entry and no selection names it (R91). -/
def Purged (t : Dev) (h : Nat) : Prop :=
  (∀ x, t.heldAt h = some x → x.bad = true) ∧
  ∀ l, (∀ s, (t.egress l).sel = some s → s.held ≠ h) ∧ ∀ vc < 16, ∀ q ∈ (t.egress l).queue vc, q.held ≠ h

/-- Command `c` leaves the loop of a ring as `x` and every other loop as it was; a drop ring that leaves TRACK ends its lane's
PCS lock (R255, R266). -/
def LoopTo (c : Instr) (s t : State) (l : Nat) (drop : Bool) (x : Loop) : Prop :=
  Runs c s t [.lanes, .ports, .crates, .hatches, .modules, .held, .net, .log, .tele] ∧ t.dev.loop l drop = x ∧
  (∀ m b, ¬ (m = l ∧ b = drop) → t.dev.loop m b = s.dev.loop m b) ∧
  (drop = true → (s.dev.loop l drop).state = .track → x.state ≠ .track → (t.dev.lane l).rx.lock = false)

/-- The count of an event at a source has advanced by n, modulo 2⁶⁴ (R374). -/
def Counted (s t : State) (code src n : Nat) : Prop :=
  t.dev.tallyOf code src % 2 ^ 64 = (s.dev.tallyOf code src + n) % 2 ^ 64

/-- Command `c` is a request of the Inventory Access Protocol from a peer (Table 14-9). -/
def Asks (c : Instr) (p : Peer) : Prop :=
  (∃ items, c = .read p items) ∨ (∃ tid items, c = .write p tid items) ∨ (∃ tid w, c = .entryWrite p tid w) ∨
  c = .openTransaction p ∨ (∃ tid x, c = .commit p tid x) ∨ (∃ tid, c = .abort p tid) ∨ (∃ x, c = .cancel p x) ∨
  c = .status p ∨ ∃ n, c = .unknownMessageType p n

/-- A request of a peer is served: the Attic runs, the message travels in an open session, it is of version 1 and for this device, it repeats none whose response
is stored (R324, R326, R327, R344); and nothing else is under way: no reset or restart waits for a response to leave, and no boundary is
overdue. -/
def Serves (d : Dev) (p : Peer) : Prop :=
  d.atticRuns = true ∧ d.sessionOpen p.session = true ∧ p.version = 1 ∧ p.target = d.attic.nodeId ∧ d.storedFor p = none ∧ d.crossed = false ∧
  d.attic.resetDue = false ∧ d.attic.restartDue = false

/-- A session after it has sent one message more, none where its sequences are spent (R346, R347). -/
def Session.afterSend (x : Session) : Option Session :=
  if x.rxHigh < 2 ^ 32 ∧ x.txNext < 2 ^ 32 then some { x with txNext := x.txNext + 1, sent := (x.sent + 1) % 2 ^ 64 } else none

/-- The parts that a message which leaves in a session's record changes at most: its session, the outputs, and what its frame
touches on its way through the Attic account (R81, R325, R347). -/
def mailParts : List Part := [.crates, .log, .attic, .tele, .held, .nextHeld, .net, .waits, .out, .atticWaits]

/-- Response `m` has left for a peer in a record of its session, is stored with those to the last 64 requests, and counts in its
session (R325, R326, R347). -/
def Answers (d : Dev) (p : Peer) (m : Message) (t : Dev) : Prop :=
  t.out = .message p.src p.lane p.session m (d.sealMessage p.src p.lane p.session m) :: d.out ∧
  t.inv.stored = (⟨p.src, p.lane, p.tag, d.now, m⟩ :: d.inv.stored).take 64 ∧
  (∀ j, j ≠ p.session → t.session j = d.session j) ∧ t.session p.session = (d.session p.session).bind Session.afterSend

/-- The command that a message's request is, from a peer (Table 14-9). -/
def asCommand (p : Peer) : Request → Instr
  | .read items => .read p items
  | .write tid items => .write p tid items
  | .open_ => .openTransaction p
  | .commit tid step => .commit p tid step
  | .abort tid => .abort p tid
  | .cancel step => .cancel p step
  | .status => .status p
  | .other n => .unknownMessageType p n

/-- An Attic restart has begun for a cause (R332): the Attic restarts, its sessions, open transactions, stored responses, unsent
records and the frames that wait for the Attic account are gone, and the commits that it had sealed stay. -/
def Restarted (d : Dev) (cause : Nat) (t : Dev) : Prop :=
  t.attic = { d.attic with
    state := .restarting, causeNow := if d.attic.trial = true then 5 else cause, sessions := [], dogBarked := false
    restartDue := false } ∧
  t.inv = { d.inv with trans := [], closed := [], stored := [] } ∧ t.tele.toSend = [] ∧ t.atticWaits = [] ∧
  (∀ m k s f, (d.module m).sparing = some (k, s, f) → m < 16 → f ≠ .relocking →
    (t.module m).sparing = none ∧ k ∈ (t.module m).waiting) ∧
  (d.timeRole ≠ 3 → t.time = d.time)

/-- The cells of every Chute are in canonical form, and no two SET cells of a Chute share a receive or a transmit fibre: no
transmit fibre carries two sources (R276). -/
def ChutesOneSource (v : Nv) : Prop :=
  ∀ h, (v.chute h).cells.wf .clear = true ∧
    ∀ x y, (v.chute h).cell x = .set → (v.chute h).cell y = .set → x ≠ y → x / 16 ≠ y / 16 ∧ x % 16 ≠ y % 16

/-- The target state of a life-cycle request (Table 15-8). -/
def lifeTarget (x : Nat) : Nat := bytesAt 72 x 0 0

/-- What waits to change the life-cycle state may only advance it (R342, R343): the transition begun, the one whose step has come
and the request of every sealed commit; and a device held in cold reset runs no Attic and holds no commit. -/
def LifeAdvances (s : State) : Prop :=
  let f := s.nv.fuses
  let a := s.dev.attic
  (∀ t, f.pending = some t → t = f.life ∨ lifeAllowed f.life t = true) ∧
  (∀ x, a.lifeDue = some x → lifeAllowed f.life (lifeTarget x) = true) ∧
  (∀ c ∈ s.dev.inv.sealed, ∀ p ∈ c.staged, p.1 = ad 0x1000 5 → lifeAllowed f.life (lifeTarget p.2) = true) ∧
  (∀ t ∈ s.dev.inv.trans, t.staged.wf none = true) ∧
  (a.holding = true → a.state = .off ∧ a.bootStep = 0 ∧ a.lifeDue = none ∧ s.dev.inv.sealed = [])

/-- One 25 MHz step of a frequency towards another (R404). -/
def towards (f goal : Nat) : Nat := if f < goal then min goal (f + 25) else max goal (f - 25)

/-- What a cold reset leaves of the state before it (Table 16-5): the fuses, the flash and the calibration are kept; the
pins stay as the board drives them; of the configuration only the Chute maps stand; the device's outputs so far and the
number of free values drawn are the model's own; everything else is as after a cold reset. -/
def ColdFrom (s t : State) : Prop :=
  t.pending = s.pending ∧ t.nv.fuses = s.nv.fuses ∧ t.nv.flash = s.nv.flash ∧ t.nv.calibration = s.nv.calibration ∧
  (∀ h, (t.nv.chute h).pulses = (s.nv.chute h).pulses) ∧
  ((∀ h < 8, (s.dev.chute h).pulsed = none) → t.nv = s.nv) ∧
  t.dev.without [.chutes, .modules, .inv, .board, .attic, .out, .draws, .time, .mac] =
    ({} : Dev).without [.chutes, .modules, .inv, .board, .attic, .out, .draws, .time, .mac] ∧
  t.dev.out = s.dev.out ∧ t.dev.mac = s.nv.fuses.mac ∧ t.dev.attic.holding = true ∧ t.dev.attic.state = .off ∧
  t.dev.attic.sessions = [] ∧ t.dev.attic.bootStep = 0 ∧
  (∀ m < 16, t.dev.module m = { present := (s.dev.module m).present, status := b2n (s.dev.module m).present }) ∧
  (∀ h < 8, (t.dev.chute h).programming = false ∧ (t.dev.chute h).used = usedPairs (t.nv.chute h).cells.cells) ∧
  t.dev.inv = { base := t.dev.inv.base } ∧ (∀ p ∈ t.dev.inv.base.cells, ∃ h < 8, p.1 = ad (0x3400 + h) 1) ∧
  ∀ h < 8, t.dev.baseOf (0x3400 + h) 1 =
    if (s.dev.chute h).programming then mapOfCells (t.nv.chute h).cells.cells else s.dev.baseOf (0x3400 + h) 1

/-- The first three steps of Table 15-5 from a device held in reset, with the clock that is missing, the stacks whose training
fails and the fuse writes that fail: the fuses of a pending transition, the identity, the tag generators, the stacks, the
events queued for the Attic; fabric time and all else as they were. -/
def BootedFrom (s t : State) (missing : Option Nat) (failed bad : Nat) : Prop :=
  t.pending = s.pending ∧ t.nv.chutes = s.nv.chutes ∧ t.nv.calibration = s.nv.calibration ∧
  t.nv.fuses = { (s.nv.fuses.finish bad).1 with changed := s.nv.fuses.changed || s.nv.fuses.pending.isSome } ∧
  t.nv.flash = (if s.nv.fuses.pending.isSome then { s.nv.flash with confA := none, confB := none } else s.nv.flash) ∧
  t.dev.without [.attic, .crates, .stackTab, .log, .time, .board] =
    s.dev.without [.attic, .crates, .stackTab, .log, .time, .board] ∧
  t.dev.attic = { s.dev.attic with
    holding := false, bootStep := 3, state := .off, pubKey := sm2Public t.nv.fuses.secret
    nodeId := nodeIdOf t.dev.attic.pubKey
    fuseFailures := s.dev.attic.fuseFailures + (s.nv.fuses.finish bad).2.length } ∧
  (∀ n < 128, t.dev.crate n = { s.dev.crate n with
    path := { (s.dev.crate n).path with tagGen := tagSeed t.dev.attic.nodeId n } }) ∧
  (∀ k < 12, t.dev.stackTab.get {} k =
    if bit failed k then { s.dev.stackTab.get {} k with status := .failed } else s.dev.stackTab.get {} k) ∧
  t.dev.time = (match missing with
    | some c => { s.dev.time with lost0 := decide (c = 0), lost1 := decide (c ≠ 0), driver := if c = 0 then 1 else 0 }
    | none => s.dev.time) ∧
  t.dev.log = { s.dev.log with
    queued := s.dev.log.queued ++ (s.nv.fuses.finish bad).2.map (fun c => (0x1002, 0, c, 0, 0)) ++
      (setBits 12 failed).map (fun k => (0x9003, k, 0, 0, 0)) ++
      (match missing with | some c => [(0x8009, 0, c, 0, 0)] | none => []) } ∧
  t.dev.board.resetN = true

end Sys2Proof.Machine
end

