-- ==== Sys2Proof/Certificates/Slice0/Obligations.lean ====
section
/-! DEFINITION. The statements for the provers. A command's clauses say when it has no effect and what it leaves when it has one;
`Runs` and `Dev.without` say what it leaves alone. -/

open Sys2Proof Sys2Proof.Machine

/-- A step of a state whose queue begins with a command is that command on the state with the rest of the queue. -/
def Obligations.StepRunsTheFrontCommand : Prop :=
  ∀ (c : Instr) (rest : List Instr) (s : State), s.pending = c :: rest → step s = exec c { s with pending := rest }

/-- R284: at every period of the reference clock the time unit adds an increment of nominally 0x6_6666_6666 × 2⁻³² ns to fabric
time. That an idle step is such a period is the model's choice (assumption 2). -/
def Obligations.IdleStepIsOneClockPeriod : Prop :=
  ∀ s : State, On s → s.pending = [] →
    ∃ t, step s = .next t ∧ t.pending = [] ∧ t.nv = s.nv ∧ t.dev.without [.time] = s.dev.without [.time] ∧
      (s.dev.attic.holding = true → t.dev.time = s.dev.time) ∧
      (s.dev.attic.holding = false → t.dev.time = { s.dev.time with
        fab := (s.dev.time.fab + s.dev.increment) % 2 ^ 96, ran := s.dev.time.ran + s.dev.increment }) ∧
      (s.dev.timeRole = 0 ∨ s.dev.time.clock = 0 → s.dev.increment = 0x666666666) ∧
      0x666666666 * 999800 ≤ (s.dev.increment + 1) * 1000000 ∧ s.dev.increment * 1000000 ≤ 0x666666666 * 1000200

/-- Tables 16-5 and 18-9, R283, R366, R405, R415: what a cold reset of a device as shipped leaves, where the spec names it. -/
def Obligations.ResetHoldsTheValuesTheSpecGives : Prop :=
  let s := State.reset
  s.pending = [] ∧ s.dev.now = 0 ∧ s.dev.step = 0 ∧ s.dev.time.clock = 0 ∧
  (∀ code src, s.dev.tallyOf code src = 0) ∧ (∀ c, s.dev.contexts.get none c = none) ∧
  (∀ p, (s.dev.port p).state = .down) ∧
  (∀ l, (s.dev.lane l).optics.modl.state = .off ∧ (s.dev.lane l).optics.drop.state = .off) ∧
  (∀ k, (s.dev.stackTab.get {} k).status = .wiping) ∧
  s.dev.attic.sessions = [] ∧ s.dev.inv.trans = [] ∧ s.dev.inv.sealed = [] ∧ s.dev.log.recs = [] ∧ s.dev.log.latest = 0 ∧
  s.dev.power.cap = 1800 ∧ s.dev.cfg 0x4880 1 = 1600 ∧ s.dev.cfg 0x4880 2 = 1650 ∧ s.dev.cfg 0x4880 3 = 100 ∧
  s.dev.timeRole = 1 ∧ s.nv.fuses.life = 0 ∧ s.nv.fuses.slots = 0xF ∧ s.nv.fuses.revoked = 0 ∧ s.nv.fuses.security = 0 ∧
  (∀ h x, (s.nv.chute h).cell x = .clear) ∧ ChutesOneSource s.nv ∧ LifeAdvances s

/-- No command stops the block, and none adds to, removes from or reorders the commands that wait. -/
def Obligations.EveryCommandCompletes : Prop :=
  ∀ (c : Instr) (s : State), ∃ t, exec c s = .next t ∧ t.pending = s.pending

/-- R352, R374: an occurrence advances its counter always, and writes a record with the next sequence number unless a record of its
code and source has been raised within the last 1,024 steps. -/
def Obligations.AnEventIsCountedAndRecorded : Prop :=
  ∀ (d : Dev) (code kind tallySrc key src a b c : Nat), key < 2 ^ 32 →
    let e := d.raiseBy code kind tallySrc key src a b c
    e.without [.log, .tele] = d.without [.log, .tele] ∧
    e.tele = { d.tele with tally := e.tele.tally } ∧
    (∀ k, e.tele.tally.get 0 k =
      if k = code * 2048 + tallySrc then (d.tele.tally.get 0 k + 1) % 2 ^ 64 else d.tele.tally.get 0 k) ∧
    (d.mayRaise code key = false → e.log = d.log) ∧
    (d.mayRaise code key = true →
      e.log.latest = (if d.log.latest = 0xFFFFFFFF then 1 else d.log.latest + 1) ∧
      e.log.recs = (⟨e.log.latest, code, d.severity code, kind, d.step, d.now, src, a % 2 ^ 32, b % 2 ^ 64, c % 2 ^ 64⟩ ::
        d.log.recs).take 4096 ∧
      e.log.lost = (if d.log.recs.length ≥ 4096 then d.log.lost + 1 else d.log.lost) ∧
      (∀ v, e.log.bySev.get 0 v = if v = d.severity code then e.log.latest else d.log.bySev.get 0 v) ∧
      e.log.acked = d.log.acked ∧ e.log.readSeq = d.log.readSeq ∧ e.log.queued = d.log.queued ∧
      e.mayRaise code key = !(rateLimited code) ∧
      ∀ code' key', key' < 2 ^ 32 → ¬(code' = code ∧ key' = key) → e.mayRaise code' key' = d.mayRaise code' key')

/-- R366, R397, R398, R407 and Table 16-5: every cause of a cold reset leaves the same of the state. -/
def Obligations.ColdResetKeepsOnlyWhatSurvives : Prop :=
  ∀ s : State,
    (On s → (∀ ns, 1000 ≤ ns → ∃ t, exec (.coldReset ns) s = .next t ∧ ColdFrom s t ∧
        t.dev.board = { s.dev.board with resetN := false }) ∧
      (∀ r, ∃ t, exec (.railOutOfRange r) s = .next t ∧ ColdFrom s t ∧ r ∈ t.dev.board.railsOut ∧
        t.dev.board = { s.dev.board with railsOut := t.dev.board.railsOut } ∧
        ∀ q, q ∈ t.dev.board.railsOut ↔ q = r ∨ q ∈ s.dev.board.railsOut) ∧
      (∃ t, exec .thermtrip s = .next t ∧ ColdFrom s t ∧ t.dev.board = { s.dev.board with thermtrip := true })) ∧
    (∀ ns, ns < 1000 → exec (.coldReset ns) s = .next s) ∧
    (On s → s.dev.atticRuns = true → ∃ t, exec (.coldResetRequest s.dev.confirmation) s = .next t ∧ ColdFrom s t ∧
      t.dev.board = s.dev.board)

/-- R17: when power is removed every block stops, and only the Chute cells and pulse counts, the calibration, the fuses and the
boot flash survive. -/
def Obligations.OnlyNonVolatileStateSurvivesPowerLoss : Prop :=
  ∀ s : State,
    (On s → ∃ t, exec .powerLoss s = .next t ∧ t.pending = s.pending ∧ t.nv.fuses = s.nv.fuses ∧ t.nv.flash = s.nv.flash ∧
      t.nv.calibration = s.nv.calibration ∧ (∀ h, (t.nv.chute h).pulses = (s.nv.chute h).pulses) ∧
      ((∀ h < 8, (s.dev.chute h).pulsed = none) → t.nv = s.nv) ∧
      t.dev.without [.chutes, .modules, .board, .out, .draws, .time, .mac] =
        ({} : Dev).without [.chutes, .modules, .board, .out, .draws, .time, .mac] ∧
      t.dev.board = { powered := false } ∧ t.dev.time = { ppsOut := s.dev.time.ppsOut } ∧ t.dev.mac = s.nv.fuses.mac ∧
      (∀ m < 16, t.dev.module m = { present := (s.dev.module m).present, status := b2n (s.dev.module m).present }) ∧
      (∀ h < 8, (t.dev.chute h).programming = false ∧ (t.dev.chute h).pulsed = none)) ∧
    (¬On s →
      (∀ c, c ≠ .powerUp → (∀ m, c ≠ .laserModuleInserted m ∧ c ≠ .laserModuleRemoved m) → exec c s = .next s) ∧
      (∀ m, (∃ t, Runs (.laserModuleInserted m) s t [.modules]) ∧ ∃ t, Runs (.laserModuleRemoved m) s t [.modules]) ∧
      (s.pending = [] → step s = .next s)) ∧
    (∃ t, Runs .powerUp s t [.board] ∧
      t.dev.board = if s.dev.board.powered then s.dev.board else { powered := true })


/-- R10: dimension order, the number of mesh hops and of bridge crossings. -/
def Obligations.TheMeshRoutesInDimensionOrder : Prop :=
  ∀ d1 x1 y1 d2 x2 y2 : Nat, d1 < 2 → x1 < 8 → y1 < 8 → d2 < 2 → x2 < 8 → y2 < 8 →
    let a := 64 * d1 + 8 * y1 + x1
    let b := 64 * d2 + 8 * y2 + x2
    let route := hops a b
    let dy := (y2 - y1) + (y1 - y2)
    let stage := fun (h : Hop) =>
      if h.crosses then 1 else if rowOf h.at_ ≠ rowOf h.next then 3 else if dieOf h.at_ = d1 ∧ d1 ≠ d2 then 0 else 2
    (route.map (·.at_)) ++ [b] = a :: route.map (·.next) ∧
    (∀ h ∈ route,
      if h.crosses then rowOf h.at_ = y1 ∧ rowOf h.next = y1
      else dieOf h.at_ = dieOf h.next ∧
        (colOf h.at_ - colOf h.next) + (colOf h.next - colOf h.at_) + (rowOf h.at_ - rowOf h.next) + (rowOf h.next - rowOf h.at_) = 1) ∧
    (route.map stage).Pairwise (· ≤ ·) ∧
    (route.filter (fun h => !h.crosses)).length =
      (if d1 = d2 then (x2 - x1) + (x1 - x2) + dy else if d1 = 0 then (7 - x1) + x2 + dy else x1 + (7 - x2) + dy) ∧
    (route.filter (fun h => h.crosses)).length = (if d1 = d2 then 0 else 1) ∧
    (a = b → route = []) ∧
    ∀ (d : Dev) (vn : Nat), (d.trip vn a b).without [.crates, .arb] = d.without [.crates, .arb] ∧
      d.trip vn a b = route.foldl (Dev.grantHop vn a) d

/-- R339, R398, R400: the boot of Table 15-5 begins at step 1 whatever held the device in reset. -/
def Obligations.LeavingResetRunsTheFirstBootSteps : Prop :=
  ∀ (s : State) (missing : Option Nat) (failed bad : Nat) (wrote : FlashWrite), On s → s.dev.attic.holding = true →
    s.dev.board.thermtrip = false →
    (s.dev.board.railsOut = [] → s.dev.board.clocksOut = false →
      let flash := if s.dev.board.resetN then s.nv.flash else s.nv.flash.written wrote
      ∃ t, exec (.boot missing failed ⟨bad, wrote⟩) s = .next t ∧
        BootedFrom (s.setAll ({ s.nv with flash := flash }, s.dev)) t missing failed bad ∧
        t.dev.board = { s.dev.board with resetN := true }) ∧
    (s.dev.board.railsOut ≠ [] → s.dev.board.clocksOut = false →
      (s.dev.board.resetN = true → ∃ t, exec (.railRecovery missing failed bad) s = .next t ∧
        BootedFrom s t missing failed bad ∧ t.dev.board = { s.dev.board with railsOut := [] }) ∧
      (s.dev.board.resetN = false →
        exec (.railRecovery missing failed bad) s =
          .next (s.setDev { s.dev with board := { s.dev.board with railsOut := [] } }))) ∧
    (s.dev.board.railsOut = [] → s.dev.board.clocksOut = true →
      (s.dev.board.resetN = true → ∃ t, exec (.refclkRestored failed bad) s = .next t ∧
        BootedFrom (s.setDev { s.dev with time := { s.dev.time with lost0 := false, lost1 := false } }) t none failed bad ∧
        t.dev.board = { s.dev.board with clocksOut := false }) ∧
      (s.dev.board.resetN = false →
        exec (.refclkRestored failed bad) s =
          .next (s.setDev { s.dev with board := { s.dev.board with clocksOut := false }
                                       time := { s.dev.time with lost0 := false, lost1 := false } })))

/-- R243, R335, R337, steps 4 to 6 of Table 15-5. -/
def Obligations.WipeCompleteReadsConfigurationAndHeaders : Prop :=
  ∀ s : State, On s → (s.dev.attic.bootStep ≠ 3 → exec .wipeComplete s = .next s) ∧
    (s.dev.attic.bootStep = 3 → ∃ t, Runs .wipeComplete s t [.lanes, .ports, .crates, .hatches, .modules, .stackTab, .log, .inv, .attic, .tele, .held, .net] ∧
      (∀ k < 12, t.dev.stackTab.get {} k =
        if (s.dev.stackTab.get {} k).status = .wiping then { s.dev.stackTab.get {} k with status := .ready }
        else s.dev.stackTab.get {} k) ∧
      t.dev.inv = (match s.nv.flash.config with
        | some c => (c.values.foldl (fun (d : Dev) p => d.setBase p.1 p.2) s.dev).inv
        | none => s.dev.inv) ∧
      (let p := t.dev.cfg 0xC000 6
       let code := fun k => (s.nv.flash.slot k).headerCode s.nv.fuses
       p ≤ 1 →
       (code p = 0 → t.dev.attic.bootStep = 6 ∧ t.dev.attic.slot = p ∧ t.dev.attic.bootFailed = s.dev.attic.bootFailed) ∧
       (code p ≠ 0 → (if p = 0 then t.dev.attic.codeA else t.dev.attic.codeB) = code p) ∧
       (code p ≠ 0 → code (1 - p) = 0 → t.dev.attic.bootStep = 6 ∧ t.dev.attic.slot = 1 - p) ∧
       (code p = 0 ∨ code (1 - p) = 0 →
         t.dev.without [.stackTab, .inv, .attic, .log] = s.dev.without [.stackTab, .inv, .attic, .log]) ∧
       (code p ≠ 0 → code (1 - p) ≠ 0 →
         t.dev.attic.bootFailed = true ∧ t.dev.attic.failSeen = true ∧ t.dev.attic.state = .off ∧
         ∀ m < 16, (t.dev.module m).enable = false)))

/-- R337 to R339, R349, steps 7 to 9 of Table 15-5. -/
def Obligations.ImageLoadReleasesTheAttic : Prop :=
  (∀ (s : State) (us : Nat), On s → s.dev.attic.bootStep = 6 → s.dev.attic.bootFailed = false →
    let k := s.dev.attic.slot
    let slot := s.nv.flash.slot k
    (slot.bodyCode = 0 → ∃ t, exec (.imageLoaded us) s = .next t ∧ t.pending = s.pending ∧
      t.nv = { s.nv with fuses := { s.nv.fuses with changed := false } } ∧
      t.dev.without [.attic, .modules, .hatches, .log, .tele] = s.dev.without [.attic, .modules, .hatches, .log, .tele] ∧
      (s.nv.fuses.changed = true → (∀ e ∈ s.dev.log.queued, e.1 ≠ 0x1001) → Counted s t 0x1001 0 1) ∧
      t.dev.attic.bootUs = us % 2 ^ 32 ∧
      t.dev.attic.state = .starting ∧ t.dev.attic.bootStep = 8 ∧ t.dev.attic.slot = k ∧
      t.dev.attic.imageVersion = slot.at_ 8 11 ∧ t.dev.attic.build = slot.at_ 16 23 ∧
      t.dev.attic.headerMeas = sm3 (toBytes 512 slot.header) ∧ t.dev.attic.bodyMeas = slot.bodySm3 ∧
      t.dev.attic.failover = decide (k ≠ s.dev.cfg 0xC000 6) ∧
      t.dev.attic.trial = decide (k = s.dev.cfg 0xC000 6 ∧ s.dev.cfg 0xC000 7 = 1) ∧
      t.dev.log.queued = [] ∧
      (∀ m < 16, (t.dev.module m).enable = ((s.dev.module m).present || (s.dev.module m).enable)) ∧
      ∀ h < 8, (t.dev.hatch h).started = true) ∧
    (slot.bodyCode ≠ 0 → ∃ t, Runs (.imageLoaded us) s t [.lanes, .ports, .crates, .hatches, .modules, .log, .attic, .tele, .held, .net] ∧
      (if k = 0 then t.dev.attic.codeA else t.dev.attic.codeB) = slot.bodyCode ∧
      (if k = s.dev.cfg 0xC000 6 ∧ s.dev.attic.codeA = 0 ∧ s.dev.attic.codeB = 0 ∧ k ≤ 1 ∧
          (s.nv.flash.slot (1 - k)).headerCode s.nv.fuses = 0
        then t.dev.attic.slot = 1 - k ∧ t.dev.attic.bootStep = 6 ∧ t.dev.attic.bootFailed = false ∧
          t.dev.without [.attic, .log] = s.dev.without [.attic, .log]
        else k ≤ 1 → t.dev.attic.bootFailed = true ∧ t.dev.attic.state = .off ∧ ∀ m < 16, (t.dev.module m).enable = false))) ∧
  (∀ s : State, On s →
    (s.dev.attic.state ≠ .starting → exec .inventoryServiceReady s = .next s) ∧
    (s.dev.attic.state = .starting →
      ∃ t, Runs .inventoryServiceReady s t [.lanes, .ports, .crates, .hatches, .modules, .log, .attic, .tele, .held, .net] ∧
        t.dev.attic = { s.dev.attic with state := .running, bootStep := max s.dev.attic.bootStep 9 } ∧
        (∀ m < 16, (s.dev.module m).present = true → (s.dev.module m).status = 1 → (s.dev.hatch (m / 2)).started = true →
          (s.dev.module m).alarm = false → (s.dev.module m).returns = [] →
          (t.dev.module m).enable = true ∧ (t.dev.module m).status = 2)))

/-- R404 to R406: the power cap, one 10 µs measurement and one quiet millisecond; the thermal frequency of one Crate. -/
def Obligations.PowerAndThermalLoopsMoveFrequencyInSteps : Prop :=
  (∀ (s : State) (watts : Nat) (rails : List Nat), On s → s.dev.attic.holding = false →
     (∃ t, Runs (.powerMeasurement watts rails) s t [.power, .crates, .log, .tele] ∧
       t.dev.power = { watts := watts % 65536, rails := (List.range 9).map (fun i => rails.getD i 0 % 2 ^ 32)
                       cap := if watts > s.dev.cfg 0x4880 2 ∧ s.dev.power.cap > 1000 then s.dev.power.cap - 25
                         else s.dev.power.cap
                       capBinds := s.dev.power.capBinds || decide (watts > s.dev.cfg 0x4880 2 ∧ s.dev.power.cap > 1000) } ∧
       t.dev.log = (if watts ≤ s.dev.cfg 0x4880 2 then s.dev
         else if s.dev.power.cap ≤ 1000 then s.dev.raise 0x4032 0
         else if s.dev.power.capBinds then s.dev else s.dev.raise 0x4031 0).log ∧
       ∀ n < 128, t.dev.crate n = { s.dev.crate n with
         freq := towards (s.dev.crate n).freq (min (s.dev.cfg 0x4880 1) (min t.dev.power.cap (s.dev.crate n).thermal))
         cycles := (t.dev.crate n).cycles, slotsOff := (t.dev.crate n).slotsOff, cyclesAt := (t.dev.crate n).cyclesAt } ∧
         t.dev.crateCycles n = s.dev.crateCycles n ∧ t.dev.slotsRemoved n = s.dev.slotsRemoved n) ∧
     (s.dev.power.watts * 100 < s.dev.cfg 0x4880 2 * 98 → ∃ t, Runs .powerCapRaise s t [.power, .crates, .tele] ∧
       t.dev.power = { s.dev.power with cap := min 1800 (s.dev.power.cap + 25)
                                        capBinds := s.dev.power.capBinds && decide (min 1800 (s.dev.power.cap + 25) < 1800) } ∧
       ∀ n < 128, t.dev.crate n = { s.dev.crate n with
         freq := towards (s.dev.crate n).freq (min (s.dev.cfg 0x4880 1) (min t.dev.power.cap (s.dev.crate n).thermal))
         cycles := (t.dev.crate n).cycles, slotsOff := (t.dev.crate n).slotsOff, cyclesAt := (t.dev.crate n).cyclesAt } ∧
         t.dev.crateCycles n = s.dev.crateCycles n ∧ t.dev.slotsRemoved n = s.dev.slotsRemoved n)) ∧
  ∀ (s : State) (n temp : Nat), On s → s.dev.attic.holding = false →
    (∃ t, Runs (.hotSpotReading n temp) s t [.crates, .log, .tele] ∧
      (∀ m, m ≠ n → t.dev.crate m = s.dev.crate m) ∧
      (let hot := decide (toSigned 16 temp ≥ 16 * (s.dev.cfg 0x4880 3 : Nat))
       let thermal := if hot then max 1000 ((s.dev.crate n).thermal - 25) else (s.dev.crate n).thermal
       t.dev.crate n = { s.dev.crate n with
         temp := temp % 65536, thermal := thermal
         freq := towards (s.dev.crate n).freq (min (s.dev.cfg 0x4880 1) (min s.dev.power.cap thermal))
         cycles := (t.dev.crate n).cycles, slotsOff := (t.dev.crate n).slotsOff, cyclesAt := (t.dev.crate n).cyclesAt } ∧
       t.dev.crateCycles n = s.dev.crateCycles n ∧
       t.dev.log = (if hot then s.dev.raise 0x4030 n else s.dev).log)) ∧
    (toSigned 16 (s.dev.crate n).temp ≤ 16 * ((s.dev.cfg 0x4880 3 : Nat) - 3 : Int) →
      ∃ t, Runs (.thermalFrequencyRaise n) s t [.crates, .tele] ∧ (∀ m, m ≠ n → t.dev.crate m = s.dev.crate m) ∧
        t.dev.crate n = { s.dev.crate n with
          thermal := min 1800 ((s.dev.crate n).thermal + 25)
          freq := towards (s.dev.crate n).freq
            (min (s.dev.cfg 0x4880 1) (min s.dev.power.cap (min 1800 ((s.dev.crate n).thermal + 25))))
          cycles := (t.dev.crate n).cycles, slotsOff := (t.dev.crate n).slotsOff, cyclesAt := (t.dev.crate n).cyclesAt })

/-- R400: the loss of one clock and of both. -/
def Obligations.LostReferenceClockMovesItsLoads : Prop :=
  ∀ (s : State) (c : Nat), On s → c ≤ 1 → s.dev.board.clocksOut = false →
    (if c = 0 then s.dev.time.lost0 else s.dev.time.lost1) = false →
    ((if c = 0 then s.dev.time.lost1 else s.dev.time.lost0) = false → s.dev.attic.holding = false →
      ∃ t, Runs (.refclkLost c) s t [.time, .draws, .log, .tele] ∧
        t.dev.log = ((s.dev.modTime (fun _ => t.dev.time)).raise 0x8009 0 c).log ∧
        t.dev.time = { s.dev.time with
          lost0 := s.dev.time.lost0 || decide (c = 0), lost1 := s.dev.time.lost1 || decide (c = 1)
          driver := if s.dev.time.driver = c then 1 - c else s.dev.time.driver, fab := t.dev.time.fab } ∧
        (s.dev.time.driver ≠ c → t.dev.time.fab = s.dev.time.fab) ∧
        (∃ x : Int, x.natAbs < 2 ^ 32 ∧ (t.dev.time.fab : Int) % (2 ^ 96 : Nat) = ((s.dev.time.fab : Int) + x) % (2 ^ 96 : Nat))) ∧
    ((if c = 0 then s.dev.time.lost1 else s.dev.time.lost0) = true →
      ∃ t, exec (.refclkLost c) s = .next t ∧
        ColdFrom s (t.setDev { t.dev with time := { t.dev.time with lost0 := false, lost1 := false } }) ∧
        t.dev.board = { s.dev.board with clocksOut := true } ∧ t.dev.time.lost0 = true ∧ t.dev.time.lost1 = true)

/-- R289, R294, R399. -/
def Obligations.TimeRegisterWritesAndReads : Prop :=
  ∀ s : State, On s →
    (∃ t, Runs .ppsOutPulse s t [.time] ∧
      t.dev.time = { s.dev.time with ppsOut := if s.dev.cfg 0x8000 0x0F = 1 then s.dev.time.ppsOut + 1 else s.dev.time.ppsOut }) ∧
    (s.dev.atticRuns = true → ∀ x,
      (s.dev.timeRole = 2 → (s.dev.time.clock = 0 ∨ s.dev.time.clock = 1 ∨ s.dev.time.ppsNext = none ∨ s.dev.time.ppsNext = some x) →
        ∃ t, Runs (.nextPpsSecond x) s t [.time] ∧ t.dev.time = { s.dev.time with ppsNext := some x, ppsSet := true }) ∧
      (s.dev.timeRole ≠ 2 ∨ (2 ≤ s.dev.time.clock ∧ s.dev.time.clock ≤ 3 ∧ ∃ n, n ≠ x ∧ s.dev.time.ppsNext = some n) →
        exec (.nextPpsSecond x) s = .next s)) ∧
    (s.dev.atticRuns = true → ∀ v : Int,
      (s.dev.timeRole = 3 → -200000 ≤ v → v ≤ 200000 → ∃ t, Runs (.atticFrequencyAdjustment v) s t [.time] ∧
        t.dev.time.track = v ∧ t.dev.time.source = true ∧ t.dev.time.fab = s.dev.time.fab ∧ t.dev.time.step = s.dev.time.step ∧
        t.dev.time.clock = (if s.dev.time.clock = 0 then 1 else s.dev.time.clock)) ∧
      (s.dev.timeRole ≠ 3 ∨ v < -200000 ∨ 200000 < v → exec (.atticFrequencyAdjustment v) s = .next s)) ∧
    (s.dev.atticRuns = true → ∀ n, ∃ t, Runs (.timestampQueueRead n) s t [.crates, .out] ∧
      t.dev.out = (match (s.dev.crate n).stamps with
        | x :: _ => [Out.stamp n (packBits [(16, x.tag), (6, 0), (10, x.lane), (16, 0), (80, x.time)])]
        | [] => []) ++ s.dev.out ∧
      t.dev.crate n = { s.dev.crate n with stamps := (s.dev.crate n).stamps.drop 1 } ∧
      ∀ m, m ≠ n → t.dev.crate m = s.dev.crate m)

/-- R294, R295, Table 13-4: a measured offset moves the clock by its rate but for the one time jump of ACQUIRING. -/
def Obligations.AMeasurementSlewsAndOnlyAcquiringJumps : Prop :=
  ∀ (s : State) (c : Instr) (o : Int) (next : Option Nat) (marked : Bool), On s → s.dev.crossed = false →
    ((∃ x q, c = .ppsInEdge x ∧ marked = s.dev.time.ppsSet ∧ s.dev.timeRole = 2 ∧ s.dev.time.ppsNext = some q ∧ next = some (q + 1) ∧
        o = (x : Int) - q * 1000000000 * 65536) ∨
      (∃ v, c = .atticPhaseAdjustment v ∧ marked = false ∧ s.dev.timeRole = 3 ∧ s.dev.atticRuns = true ∧ next = s.dev.time.ppsNext ∧ o = -v)) →
    ((2 ≤ s.dev.time.clock ∨ (s.dev.time.clock = 1 ∧ s.dev.time.jumped = true ∧ marked = false)) →
      ∃ t, Runs c s t [.time, .draws, .log, .tele] ∧ t.dev.time.offset = o ∧ t.dev.time.remain = -o ∧
        t.dev.time.ppsNext = next ∧ t.dev.time.fab = s.dev.time.fab ∧ t.dev.time.step = s.dev.time.step ∧
        t.dev.time.clock = s.dev.time.clock ∧ t.dev.time.source = true ∧
        (let bad := decide (s.dev.time.clock = 2 ∧ o.natAbs > s.dev.cfg 0x8000 9 * 65536)
         let n := if bad then s.dev.time.badRun + 1 else 0
         t.dev.time.badRun = (if n ≥ 16 then 0 else n) ∧
         t.dev.log = if n ≥ 16 then (s.dev.raiseTime 0x8004 0).log else s.dev.log)) ∧
    ((s.dev.time.clock = 0 ∨ (s.dev.time.clock = 1 ∧ (s.dev.time.jumped = false ∨ marked = true))) →
      ∃ d : Dev, exec c s = .next (s.setAll (catchUp s.nv d)) ∧
        d.without [.time, .log, .tele] = s.dev.without [.time, .log, .tele] ∧
        (d.time.fab : Int) = ((s.dev.time.fab : Int) - o * 65536) % (2 ^ 96 : Nat) ∧ d.time.step = s.dev.time.step ∧
        d.time.clock = 1 ∧ d.time.jumped = true ∧ d.time.ppsNext = next ∧
        d.log = ((s.dev.modTime (fun _ => d.time)).raiseTime 0x8007 0).log)

/-- R294, Table 13-4: HOLDOVER. -/
def Obligations.TheSourceLostIsHoldover : Prop :=
  ∀ s : State, On s →
    (s.dev.timeRole = 0 → exec .timeSourceLost s = .next s) ∧
    (s.dev.timeRole ≠ 0 → (s.dev.timeRole = 1 → ∀ p ∈ s.dev.lanes.cells, s.dev.candidate p.1 = false) →
      ((s.dev.time.clock = 1 ∨ s.dev.time.clock = 2) → ∃ t, Runs .timeSourceLost s t [.time, .log, .tele] ∧
        t.dev.time.clock = 3 ∧ t.dev.time.held = meanRate s.dev.time.recent ∧ t.dev.time.slew = 0 ∧ t.dev.time.remain = 0 ∧
        t.dev.time.holdFrom = s.dev.now ∧ t.dev.time.boundIn = s.dev.errorBound ∧ t.dev.time.fab = s.dev.time.fab ∧
        t.dev.time.step = s.dev.time.step ∧ t.dev.time.source = false ∧
        t.dev.log = (s.dev.raiseTime 0x8002 0).log) ∧
      (s.dev.time.clock ≠ 1 → s.dev.time.clock ≠ 2 →
        exec .timeSourceLost s = .next (s.setDev (s.dev.modTime (fun x => { x with source := false })))))

/-- R296, R298, R300: a boundary. -/
def Obligations.AStepBoundaryAdvancesTheCounter : Prop :=
  ∀ s : State, On s → s.dev.attic.holding = false →
    let r := runOpen s.nv s.dev
    let d := r.2
    let k := d.step
    let b : Int := (d.cfg 0x8000 6 * 65536 : Nat) + ((k + 1 : Int) - d.cfg 0x8000 5) * (d.cfg 0x8000 4 * 1000 * 65536 : Nat)
    ∃ t, exec .stepBoundary s = .next t ∧ t.pending = s.pending ∧ t.nv = r.1 ∧ t.dev.step = k + 1 ∧
      t.dev.time.fab = (if (d.now : Int) ≥ b then d.time.fab else (b.toNat * 2 ^ 16) % 2 ^ 96) ∧
      (∃ e : Dev, e.without [.time, .tele] = d.without [.time, .tele] ∧ e.time.fab = t.dev.time.fab ∧ e.time.step = k ∧
       e.tele.tally = d.tele.tally ∧
       let work : List Due := (if d.snapNamed k then [.snapshot k (freezeAt r.1 e k)] else []) ++
        (if d.mapEnds k then [.map (e.mapAt k)] else []) ++ [.review] ++ (if (d.versions.v0 = .draining ∨ d.versions.v1 = .draining) ∧ d.versions.retire ≤ k + 1 then [.retire] else []) ++
        (if d.inv.sealed.any (fun x => decide (x.step ≤ k + 1)) then [.commit] else []) ++
        (if d.ctxs.any (fun p => p.2.switchDue) then [.switch] else []) ++ [.levels, .refill (b.toNat % 2 ^ 80)]
       t.dev.due = work.dropWhile (fun w => decide (w = .review ∨ w = .levels)))

/-- R291, R292, R295: a STEP frame, but where it is the source of ACQUIRING's time jump. -/
def Obligations.AValidStepFrameEntersTheTimeRecord : Prop :=
  ∀ (s : State) (l : Nat) (f : Frame) (t4 : FabricTime), On s → s.dev.crossed = false → ControlFrame s.dev l f 0x23 →
    controlOk f.payload = true → ¬(bytesFrom f.payload 38 1 = 255 ∧ bytesFrom f.payload 30 8 ≠ 0) →
    let b := fun off n => bytesFrom f.payload off n
    let t1 : Int := b 10 10
    let t2 : Int := b 20 10
    let t3 : Int := b 0 10
    let echo := bit (b 39 1) 5 && s.dev.confirmed l
    let delay := ((t4 - t1) - (t3 - t2)) / 2
    let good := echo && decide (0 ≤ delay ∧ delay ≤ 100000 * 65536)
    ¬(s.dev.timeRole = 1 ∧ s.dev.time.parent = some l ∧ good = true ∧
      (s.dev.time.clock = 0 ∨ (s.dev.time.clock = 1 ∧ s.dev.time.jumped = false))) →
    ∃ t, Runs (.step l f f.fcs t4) s t [.lanes, .time, .log, .tele, .draws, .net] ∧
      (t.dev.lane l).time = { (s.dev.lane l).time with
        peerTx := b 0 10, peerRx := t4, echoed := true, root := b 30 8, hops := b 38 1, clock := b 39 1 / 64, bound := b 40 4
        step := some s.dev.step, valid := ((s.dev.lane l).time.valid + 1) % 2 ^ 64
        delay := if good then delay.toNat else (s.dev.lane l).time.delay
        discarded := if echo && !good then ((s.dev.lane l).time.discarded + 1) % 2 ^ 64 else (s.dev.lane l).time.discarded } ∧
      (∀ m, m ≠ l → (t.dev.lane m).time = (s.dev.lane m).time) ∧ t.dev.time.fab = s.dev.time.fab ∧
      (if s.dev.timeRole = 1 ∧ s.dev.time.parent = some l ∧ good = true
        then t.dev.time.offset = ((t1 - t2) + (t4 - t3)) / 2 ∧ t.dev.time.remain = -t.dev.time.offset
        else t.dev.time = s.dev.time ∧ t.dev.draws = s.dev.draws)

/-- R290, R297, Table 13-3. -/
def Obligations.TheStepFrameOfALockedLaneIsSent : Prop :=
  ∀ (s : State) (l : Nat) (t : FabricTime), On s →
    let r := runOpen s.nv s.dev
    let d := r.2
    (d.lane l).rx.lock = true → (d.lane l).disc.freshLock = false → (d.lane l).time.sentStep ≠ some d.step →
    d.mayStart l t .step = true →
    ∃ s', exec (.stepSend l t) s = .next s' ∧ s'.pending = s.pending ∧ s'.nv = r.1 ∧
      s'.dev.without [.lanes, .out] = d.without [.lanes, .out] ∧
      (∀ m, m ≠ l → s'.dev.lane m = d.lane m) ∧ (s'.dev.lane l).time = { (d.lane l).time with sentFirst := true, sentStep := some d.step } ∧
      s'.dev.out = d.controlOut l 0x23 (controlPayload (toBytes 62 (packBits
        (let x := (d.lane l).time
         let echo := x.echoed && x.sentFirst
         [(80, t), (80, if echo then x.peerTx else 0), (80, if echo then x.peerRx else 0), (64, d.time.root),
          (8, d.time.hops), (2, d.time.clock), (1, b2n echo), (5, 0), (32, d.errorBound), (144, 0)])))) t :: d.out

/-- R63 to R65, Table 03-7. -/
def Obligations.LinkFramesCarryCredit : Prop :=
  ∀ (s : State) (l : Nat) (x : FabricTime), On s →
    (∀ f : Frame, ControlFrame s.dev l f 0x21 → controlOk f.payload = true →
      ∃ t, Runs (.link l f f.fcs x) s t [.lanes, .net, .log, .tele] ∧
        (∀ k < 10, (t.dev.lane l).tx.limit.get 0 (creditedVcs.getD k 4) = bytesFrom f.payload (3 * k) 3) ∧
        (t.dev.lane l).tx.consumed = (s.dev.lane l).tx.consumed ∧
        (t.dev.lane l).tx.credited = true ∧ (t.dev.lane l).tx.lateCounted = false ∧
        (t.dev.lane l).tx.replay = ((if f.hdr.a then (s.dev.lane l).tx.ackBefore f.hdr.ack else (s.dev.lane l).tx).ackBefore
          (bytesFrom f.payload 30 2)).replay ∧
        (t.dev.lane l).tx.next = (s.dev.lane l).tx.next ∧ (t.dev.lane l).rx = (s.dev.lane l).rx ∧
        (∀ m, m ≠ l → t.dev.lane m = s.dev.lane m) ∧
        ((∀ k < 10, wrapSub 24 (bytesFrom f.payload (3 * k) 3)
            ((s.dev.lane l).tx.consumed.get 0 (creditedVcs.getD k 4)) < 2 ^ 23) → t.dev.log = s.dev.log)) ∧
    (s.dev.linkDue l x = true → s.dev.mayStart l x .link = true →
      ∃ t, Runs (.linkSend l x) s t [.lanes, .out] ∧
        t.dev.out = s.dev.controlOut l 0x21 (controlPayload
          (creditedVcs.flatMap (fun vc => toBytes 3 (((s.dev.ring l vc).initial + (s.dev.ring l vc).freed) % 2 ^ 24)) ++
            toBytes 2 (s.dev.lane l).rx.expect ++ List.replicate 30 0)) x :: s.dev.out ∧
        (∀ m, m ≠ l → t.dev.lane m = s.dev.lane m) ∧
        t.dev.lane l = { s.dev.lane l with egress := (t.dev.lane l).egress
                                           tx := { (s.dev.lane l).tx with linkSent := some x } }) ∧
    (s.dev.linkDue l x = false ∨ s.dev.mayStart l x .link = false → exec (.linkSend l x) s = .next s)

/-- R68, R69: what sets off a replay, and the lane reset at the ninth in a row. -/
def Obligations.LnacksStartReplays : Prop :=
  ∀ (s : State) (l : Nat) (x : FabricTime), On s →
    (∀ f : Frame, ControlFrame s.dev l f 0x22 → controlOk f.payload = true →
      let q := if f.hdr.a then (s.dev.lane l).tx.ackBefore f.hdr.ack else (s.dev.lane l).tx
      let e := bytesFrom f.payload 0 2
      let after := q.ackBefore e
      (q.inWindow e = false → ∃ t, Runs (.lnack l f f.fcs x) s t [.lanes, .net, .tele] ∧ (t.dev.lane l).tx = q ∧
        t.dev.tallyOf 0x2E03 l = (s.dev.tallyOf 0x2E03 l + 1) % 2 ^ 64) ∧
      (q.inWindow e = true → (e = after.next ∨ after.replay = []) →
        ∃ t, Runs (.lnack l f f.fcs x) s t [.lanes, .net, .log, .tele] ∧ (t.dev.lane l).tx = after ∧
          t.dev.log = (s.dev.raise 0x2030 l).log) ∧
      (q.inWindow e = true → e ≠ after.next → ∀ r rest, after.replay = r :: rest →
        (¬(after.replayOf = some r.seq ∧ after.replays ≥ 8) →
          ∃ t, Runs (.lnack l f f.fcs x) s t [.lanes, .net, .log, .tele] ∧
            (t.dev.lane l).tx = { after with replayDue := some e } ∧ t.dev.log = (s.dev.raise 0x2030 l).log ∧
            ∀ m, m ≠ l → t.dev.lane m = s.dev.lane m) ∧
        (after.replayOf = some r.seq ∧ after.replays ≥ 8 →
          ∃ t, Runs (.lnack l f f.fcs x) s t [.lanes, .ports, .crates, .held, .net, .log, .tele, .out] ∧
            (t.dev.lane l).rx.lock = false ∧ (t.dev.lane l).tx.replay = [] ∧ (t.dev.lane l).disc.status = .idle))) ∧
    (∀ r rest, (s.dev.lane l).tx.replay = r :: rest → (s.dev.lane l).rx.lock = true →
      (¬((s.dev.lane l).tx.replayOf = some r.seq ∧ (s.dev.lane l).tx.replays ≥ 8) →
        ∃ t, Runs (.acknowledgementDeadline l) s t [.lanes, .log, .tele] ∧
          t.dev.lane l = { s.dev.lane l with tx := { (s.dev.lane l).tx with replayDue := some r.seq } } ∧
          t.dev.log = (s.dev.raise 0x2032 l).log ∧ ∀ m, m ≠ l → t.dev.lane m = s.dev.lane m) ∧
      ((s.dev.lane l).tx.replayOf = some r.seq ∧ (s.dev.lane l).tx.replays ≥ 8 →
        ∃ t, Runs (.acknowledgementDeadline l) s t [.lanes, .ports, .crates, .held, .net, .log, .tele, .out] ∧
          (t.dev.lane l).rx.lock = false ∧ (t.dev.lane l).tx.replay = [] ∧ (t.dev.lane l).disc.status = .idle))

/-- R64, R67, R68. -/
def Obligations.ReplaysAndLnacksAreSent : Prop :=
  ∀ (s : State) (l : Nat) (x : FabricTime), On s →
    (∀ e reason, (s.dev.lane l).rx.nackDue = some (e, reason) → (s.dev.lane l).rx.lock = true →
      s.dev.mayStart l x .lnack = true →
      ∃ t, Runs (.lnackSend l x) s t [.lanes, .out, .log, .tele] ∧
        (t.dev.lane l).rx = { (s.dev.lane l).rx with nackDue := none, nacked := some x } ∧
        (t.dev.lane l).tx = (s.dev.lane l).tx ∧ (∀ m, m ≠ l → t.dev.lane m = s.dev.lane m) ∧
        t.dev.out = s.dev.controlOut l 0x22
          (controlPayload (toBytes 2 e ++ toBytes 1 reason ++ List.replicate 59 0)) x :: s.dev.out ∧
        t.dev.log = (s.dev.raise 0x2030 l).log) ∧
    (∀ e r rest, s.dev.mayStart l x .replay = true → s.dev.carries l = true → (s.dev.lane l).tx.replayDue = some e → (s.dev.lane l).tx.replay = r :: rest →
      ∃ t, Runs (.replay l x) s t [.lanes, .out] ∧
        (let again := fun (y : Replay) => ({ y.frame with hdr := { y.frame.hdr with
           a := true, ack := (s.dev.lane l).rx.expect, corr := addCorr y.frame.hdr.corr (spanCorr x y.start) } } : Frame).sealed
         t.dev.out = (((r :: rest).drop (wrapSub 16 e r.seq)).map (fun y =>
           Out.frame l (again y) ((again y).fcsWord y.fcs) x)).reverse ++ s.dev.out) ∧
        (t.dev.lane l).tx = { (s.dev.lane l).tx with
          replayDue := none, replayOf := some r.seq
          replays := if (s.dev.lane l).tx.replayOf = some r.seq then (s.dev.lane l).tx.replays + 1 else 1 } ∧
        (t.dev.lane l).rx = (s.dev.lane l).rx ∧ ∀ m, m ≠ l → t.dev.lane m = s.dev.lane m) ∧
    (s.dev.mayStart l x .replay = false ∨ s.dev.carries l = false → exec (.replay l x) s = .next s) ∧
    ((s.dev.lane l).rx.lock = true → (s.dev.lane l).tx.lateCounted = false →
      ∃ t, Runs (.creditReportLate l) s t [.lanes, .log, .tele] ∧
        t.dev.lane l = { s.dev.lane l with tx := { (s.dev.lane l).tx with lateCounted := true } } ∧
        (∀ m, m ≠ l → t.dev.lane m = s.dev.lane m) ∧ t.dev.log = (s.dev.raise 0x2031 l).log) ∧
    ((s.dev.lane l).rx.lock = true → (s.dev.lane l).tx.lateCounted = true → exec (.creditReportLate l) s = .next s)

/-- R32 to R35. -/
def Obligations.HellosVerifyALane : Prop :=
  ∀ (s : State) (l : Nat) (x : FabricTime), On s →
    let v := (runOpen s.nv s.dev).1
    let d := (runOpen s.nv s.dev).2
    ∀ f : Frame, ControlFrame d l f 0x20 →
      let q := (d.lane l).disc
      let h := readHello f.payload
      let o := d.classify l h
      let same := decide (q.run = some o ∧ q.status ≠ .locked ∧ q.status ≠ .lost)
      let count := if same then q.count + 1 else 1
      let need := if same then q.need else d.cfg 0x2000 4
      let hit := decide (o = .hit)
      let status := match q.status with
        | .idle => LaneStatus.idle
        | .locked | .lost | .counting => if count < need then .counting else if hit then .match_ else .mismatch
        | .match_ => if hit then .match_ else .mismatch
        | .mismatch => if count ≥ need ∧ hit = true then .match_ else .mismatch
      (malformed f.payload q.lastSeq = true →
        ∃ t, exec (.hello l f f.fcs x) s = .next t ∧ t.pending = s.pending ∧ t.nv = v ∧ (t.dev.lane l).disc = q ∧
          t.dev.ports = d.ports ∧ t.dev.log = (d.raise 0x2020 l (d.portOf l).1 (d.reasonOf l)).log) ∧
      (malformed f.payload q.lastSeq = false → d.heldDown (d.portOf l).1 = false →
        ∃ t, exec (.hello l f f.fcs x) s = .next t ∧ t.pending = s.pending ∧ t.nv = v ∧
          (t.dev.lane l).disc.status = status ∧ (t.dev.lane l).disc.seenId = h.identity ∧
          (t.dev.lane l).disc.seenPort = h.port ∧ (t.dev.lane l).disc.seenLane = h.lane ∧
          (t.dev.lane l).disc.lastSeq = some h.seq ∧ (t.dev.lane l).disc.verified = h.verified ∧
          (t.dev.lane l).disc.lastStep = d.step ∧ (∀ p, p ≠ (d.portOf l).1 → t.dev.port p = d.port p) ∧
          t.dev.inv = d.inv)

/-- R31, Table 02-4. -/
def Obligations.HellosAreSentOnLockedLanes : Prop :=
  ∀ (s : State) (x : FabricTime), On s →
    let v := (runOpen s.nv s.dev).1
    let d := (runOpen s.nv s.dev).2
    ∃ t, exec (.helloSend x) s = .next t ∧ t.pending = s.pending ∧ t.nv = v ∧
      t.dev.without [.lanes, .out] = d.without [.lanes, .out] ∧
      ∀ l,
        let hello : Hello := {
          identity := d.attic.nodeId, role := 1, plane := d.cfg 0x2000 1, hall := d.cfg 0x2000 2
          port := (d.portOf l).1, width := (d.portOf l).2, lane := l - (d.portOf l).1
          verified := decide ((d.lane l).disc.status = .match_)
          fenced := decide ((d.port (d.portOf l).1).state = .fenced)
          suspect := decide ((d.port (d.portOf l).1).state = .suspect)
          seq := (d.lane l).disc.txSeq, step := d.stepAt x, digest := d.inv.fabricRec.digest (d.isRing l), plan := d.cfg 0x2000 3 }
        if (d.lane l).rx.lock = true ∧ (d.lane l).disc.freshLock = false ∧ (d.port (d.portOf l).1).state ≠ .down ∧
            (d.lane l).disc.helloStep ≠ some d.step ∧ d.mayStart l x .hello = true then
          d.controlOut l 0x20 (helloBytes hello) x ∈ t.dev.out ∧
          (t.dev.lane l).disc = { (d.lane l).disc with
            txSeq := ((d.lane l).disc.txSeq + 1) % 65536, helloStep := some d.step } ∧ t.dev.helloDue l = false
        else t.dev.lane l = d.lane l

/-- R35, R36, R70, R264. -/
def Obligations.LockAndSilenceMoveALane : Prop :=
  ∀ (s : State) (l : Nat), On s → s.dev.heldDown (s.dev.portOf l).1 = false →
    ((s.dev.lane l).rx.lock = false → s.dev.stackHolds l = false → (s.dev.lane l).optics.drop.state = .track →
      ∃ t, Runs (.pcsLockGained l) s t [.lanes, .ports, .crates, .inv, .held, .net, .log, .tele] ∧
        (t.dev.lane l).rx.lock = true ∧ (t.dev.lane l).rx.expect = 0 ∧ (t.dev.lane l).tx.next = 0 ∧
        (t.dev.lane l).tx.replay = [] ∧ (t.dev.lane l).tx.credited = false ∧ (t.dev.lane l).disc.status = .locked ∧
        (t.dev.lane l).disc.lastSeq = none ∧ (t.dev.lane l).optics.status = 4 ∧
        ∀ p, p ≠ (s.dev.portOf l).1 → t.dev.port p = s.dev.port p) ∧
    ((s.dev.lane l).rx.lock = true →
      ∃ t, Runs (.pcsLockLost l) s t [.lanes, .ports, .crates, .held, .net, .log, .tele] ∧
        (t.dev.lane l).rx.lock = false ∧ (t.dev.lane l).disc.status = .idle ∧ (t.dev.lane l).rx.rx = none ∧
        (t.dev.lane l).optics.lockLosses = ((s.dev.lane l).optics.lockLosses + 1) % 2 ^ 64 ∧
        ∀ p, p ≠ (s.dev.portOf l).1 → t.dev.port p = s.dev.port p) ∧
    ((s.dev.lane l).disc.hadValid = true → (s.dev.lane l).disc.status ∈ [LaneStatus.counting, .match_, .mismatch] →
      (s.dev.step ≤ (s.dev.lane l).disc.lastStep + s.dev.cfg 0x2000 5 → exec (.laneLost l) s = .next s) ∧
      ((s.dev.lane l).disc.lastStep + s.dev.cfg 0x2000 5 < s.dev.step → ∃ t, Runs (.laneLost l) s t [.lanes, .ports, .crates, .held, .net, .log, .tele] ∧
        (t.dev.lane l).disc.status = .lost ∧ (t.dev.lane l).disc.verified = false ∧
        t.dev.confirmed l = false ∧ ∀ p, p ≠ (s.dev.portOf l).1 → t.dev.port p = s.dev.port p)) ∧
    ((s.dev.lane l).rx.lock = false → (s.dev.lane l).optics.drop.state = .track →
      ∃ t, Runs (.fecAlignmentTimeout l) s t [.lanes, .log, .tele] ∧
        t.dev.lane l = { s.dev.lane l with optics := { (s.dev.lane l).optics with status := 2 } } ∧
        (∀ m, m ≠ l → t.dev.lane m = s.dev.lane m) ∧ t.dev.log = (s.dev.raise 0x3025 l).log) ∧
    (let p := (s.dev.portOf l).1
     (s.dev.port p).timeout = false →
      (s.dev.step < (s.dev.port p).origin + s.dev.cfg 0x2000 6 → exec (.absenceTimeout p) s = .next s) ∧
      ((s.dev.port p).origin + s.dev.cfg 0x2000 6 ≤ s.dev.step → s.dev.portCarries p = false → ∃ t, Runs (.absenceTimeout p) s t [.lanes, .ports, .crates, .held, .net, .log, .tele] ∧
        (t.dev.port p).timeout = true ∧ (t.dev.port p).origin = (s.dev.port p).origin ∧
        ∀ p', p' ≠ p → t.dev.port p' = s.dev.port p'))

/-- R20, R77, R104 to R106, R112, R113, R118, R122, R142: one forwarded head from its lookup to its first message. -/
def Obligations.DataFollowsItsRoute : Prop :=
  ∀ (s : State) (l : Nat) (f : Frame) (x : FabricTime) (ecc w : Nat) (c : Instr), On s → l < 1024 → Admitted s.dev l f →
    (c = .data l f x ecc ∧ ¬ ownRow f.hdr.opcode) ∨ (ecc = 0 ∧ isEndpoint f.hdr.dst = true ∧
      ((c = .cnack l f w x ∧ f.hdr.opcode = 0x12) ∨ (c = .mgmt l f w x ∧ f.hdr.opcode = 0x30))) →
    let d := s.dev
    let n := crateOf l
    let h := d.nextHeld
    let pol := d.police l f
    let vc := d.vcIn l f
    let chip := credited vc = false ∨ d.cellarStore l = false
    let untagged := (d.tagDraw l).1 = false
    let unstored := [Part.lanes, .crates, .flows, .held, .net, .log, .tele, .draws]
    let taken := [Part.lanes, .crates, .flows, .held, .nextHeld, .net, .waits, .log, .tele, .draws]
    let dropped := fun (t : State) =>
      (t.dev.lane l).rx.rx = some ⟨f, x, none, if credited vc then some vc else none⟩ ∧
      (credited vc = true → (t.dev.ring l vc).used = (d.ring l vc).used + f.flits) ∧ (chip → t.dev.held = d.held)
    let lost := fun (code : Nat) (e : Dev) => ∃ t, Runs c s t unstored ∧ dropped t ∧ Counted s t code n 1 ∧
      Counted s t (0x5E01 + f.hdr.tc) n 1 ∧ (untagged → chip → t.dev.log = (e.raise code n f.hdr.dst).log)
    let stored := fun (y : Held) (t : Dev) => t.nextHeld = h + 1 ∧ (t.lane l).rx.rx = some ⟨f, x, some h, none⟩ ∧
      ∃ b, t.heldAt h = some { y with bad := b } ∧ (ecc = 2 → b = true) ∧ (ecc ≠ 2 → d.cellarStore l = false → b = false)
    let mark := decide (pol.1 = 1)
    let y := d.arriving l f x mark
    let short := fun (e : Dev) => ∃ t, Runs c s t unstored ∧
      (t.dev.lane l).rx.rx = some ⟨f, x, none, none⟩ ∧ t.dev.held = d.held ∧ Counted s t 0x4002 n 1 ∧
      (untagged → t.dev.log = (e.raise 0x4002 n).log)
    let room := credited y.vc = true ∨ cellsOf f.flits ≤ d.sharedFree n
    let rush := credited y.vc = false ∧ 2 * (d.crate n).freq < 3125
    let fell := fun (t : Dev) => t.held = d.held ∧ (t.lane l).rx.rx = some ⟨f, x, none, none⟩ ∧
      t.tallyOf 0x4E02 n = (d.tallyOf 0x4E02 n + 1) % 2 ^ 64
    let towardsLane := fun (r : Option Nat × Dev) =>
      match r.1 with
      | none => lost 0x5011 r.2
      | some k =>
        if d.isRing l = true ∧ f.hdr.h = true ∧ d.dateLine k = true then lost 0x5013 r.2
        else
          (¬ rush → (room → ∃ t, Runs c s t taken ∧ stored y t.dev ∧ GoesTo d h k y mark t.dev) ∧ (¬ room → short r.2)) ∧
          (rush → ∃ t, Runs c s t taken ∧ (fell t.dev ∨ if room then stored y t.dev else
            (t.dev.lane l).rx.rx = some ⟨f, x, none, none⟩ ∧ t.dev.held = d.held ∧ Counted s t 0x4002 n 1))
    match d.lookup l f with
    | .discard code => lost code d
    | look =>
      if pol.1 = 2 then ∃ t, Runs c s t unstored ∧ dropped t ∧ (untagged → chip → t.dev.log = pol.2.log)
      else match look with
        | .port p => towardsLane (pol.2.pickLane n p)
        | .ring dir g turned =>
          towardsLane ((if turned then pol.2.raise 0x5014 n f.hdr.dst else pol.2).pickRing n dir g f.hdr.dst)
        | .pair q =>
          let y := { y with mrec := some ⟨128, 0, 2 * q + 1, d.excludedOf l, some (2 * q), false⟩ }
          (¬ rush → (room → ∃ t, Runs c s t taken ∧ GoesToAll d h y t.dev ∧ stored y t.dev) ∧
            (¬ room → short pol.2)) ∧
          (rush → ∃ t, Runs c s t taken ∧ (fell t.dev ∨ if room then stored y t.dev else
            (t.dev.lane l).rx.rx = some ⟨f, x, none, none⟩ ∧ t.dev.held = d.held ∧ Counted s t 0x4002 n 1))
        | .discard _ => True

/-- R43, R48, R66, R67: heads that the link layer does not take, in every frame class that carries a link sequence. -/
def Obligations.HeadsOutOfSequenceAreNotTaken : Prop :=
  ∀ (s : State) (l : Nat) (f : Frame) (w : Nat) (x : FabricTime) (ecc : Nat) (cut : Option Arbiter) (shelf : Bool) (c : Instr),
    On s → l < 1024 →
    (s.dev.lane l).rx.lock = true → (s.dev.lane l).rx.rx = none →
    (c = .data l f x ecc ∧ ¬ ownRow f.hdr.opcode) ∨ (c = .contrib l f w ⟨x, ecc, cut, shelf⟩ ∧ f.hdr.opcode = 0x10) ∨
      (c = .result l f x ∧ f.hdr.opcode = 0x11) ∨ (c = .cnack l f w x ∧ f.hdr.opcode = 0x12) ∨
      (c = .mgmt l f w x ∧ f.hdr.opcode = 0x30) →
    let r := (s.dev.lane l).rx
    let ahead := wrapSub 16 f.hdr.seq r.expect
    let holds := r.nackDue.isSome || (match r.nacked with | some t0 => decide (x < t0 + s.dev.ackDeadline l) | none => false)
    let asks := fun (reason : Nat) (t : State) =>
      (t.dev.lane l).rx = if holds then r else { r with nackDue := some (r.expect, reason) }
    (s.dev.framing l f = .ptp ∨ s.dev.framing l f = .other → exec c s = .next s) ∧
    (s.dev.framing l f = .broken ∨ (s.dev.framing l f = .swent ∧ f.headerOk = false) →
      ∃ t, Runs c s t [.lanes, .log, .tele] ∧ asks 2 t ∧ (∀ m, m ≠ l → t.dev.lane m = s.dev.lane m) ∧
        (s.dev.framing l f = .swent → f.hdr.hcheck = headerCheck f.hdr f.ext → t.dev.log = (s.dev.raise 0x2034 l).log)) ∧
    (s.dev.headerOk l f = true → f.hdr.tc = 6 → ∃ t, Runs c s t [.log, .tele] ∧ t.dev.log = (s.dev.raise 0x2034 l).log) ∧
    (s.dev.headerOk l f = true → f.hdr.tc ≠ 6 →
      (0 < ahead → ahead < 2 ^ 15 → ∃ t, Runs c s t [.lanes, .net] ∧ asks 3 t) ∧
      (2 ^ 15 ≤ ahead → ∃ t, Runs c s t [.lanes, .net, .tele] ∧ (t.dev.lane l).rx = r ∧
        t.dev.tallyOf 0x2E02 l = (s.dev.tallyOf 0x2E02 l + 1) % 2 ^ 64))

/-- R53, R61, R66, R78, R91: the tail of a frame. -/
def Obligations.ATailIsTakenOrAskedForAgain : Prop :=
  ∀ (s : State) (l w : Nat) (x : FabricTime) (r : Rx), On s → l < 1024 → (s.dev.lane l).rx.rx = some r →
    (∀ h y, r.held = some h → s.dev.heldAt h = some y → h < s.dev.nextHeld ∧ y.res = none) →
    let fcs := if w = r.frame.fcs then Fcs.good else if w = 0xFFFFFFFF - r.frame.fcs then .marked else .bad
    ∃ t, Runs (.frameTail l w x) s t [.lanes, .crates, .held, .nextHeld, .net, .waits, .nacks, .log, .tele] ∧
      (t.dev.lane l).rx.rx = none ∧
      let sized := r.frame.badSize && r.frame.rowOk
      (∀ h y, r.held = some h → s.dev.heldAt h = some y →
        t.dev.heldAt h = some { y with whole := true, bad := y.bad || decide (fcs ≠ .good) || sized }) ∧
      (fcs = .bad → (t.dev.lane l).rx.expect = (s.dev.lane l).rx.expect ∧
        ((s.dev.lane l).rx.nacked = none → (s.dev.lane l).rx.nackDue = none →
          (t.dev.lane l).rx.nackDue = some ((s.dev.lane l).rx.expect, 1))) ∧
      (fcs ≠ .bad → (t.dev.lane l).rx.expect = ((s.dev.lane l).rx.expect + 1) % 65536 ∧
        (t.dev.egress l).traffic.get 0 (4 * r.frame.hdr.tc) =
          ((s.dev.egress l).traffic.get 0 (4 * r.frame.hdr.tc) + 1) % 2 ^ 64) ∧
      (fcs = .marked → t.dev.tallyOf 0x2E05 l = (s.dev.tallyOf 0x2E05 l + 1) % 2 ^ 64) ∧
      (fcs = .good → sized = true → s.dev.nacks = [] → t.dev.log = (s.dev.raise 0x2034 l).log)

/-- R16, R45, R287, R344: what the firmware gets, and what is dropped. -/
def Obligations.FramesForTheFirmwareReachIt : Prop :=
  ∀ (s : State) (l : Nat) (f : Frame) (x : FabricTime), On s → l < 1024 →
    (f.hdr.opcode = 0x30 → isEndpoint f.hdr.dst = false → f.badSize = false → Admitted s.dev l f →
      ∃ t, Runs (.mgmt l f f.fcs x) s t [.lanes, .crates, .held, .net, .log, .tele, .draws, .out] ∧
        (t.dev.lane l).rx.expect = ((s.dev.lane l).rx.expect + 1) % 65536 ∧ (t.dev.lane l).rx.rx = none ∧
        t.dev.out = (if s.dev.atticRuns = true ∧ recordOk f.payload = true then .toAttic l f x :: s.dev.out else s.dev.out) ∧
        (s.dev.atticRuns = false → t.dev.tallyOf 0x2E07 (crateOf l) = (s.dev.tallyOf 0x2E07 (crateOf l) + 1) % 2 ^ 64) ∧
        (s.dev.atticRuns = true → recordOk f.payload = false →
          t.dev.tallyOf 0xBE01 0 = (s.dev.tallyOf 0xBE01 0 + 1) % 2 ^ 64)) ∧
    (∀ (w : Nat) (c : Instr), c = .ptpFrame l f ⟨w, x⟩ ∨ c = .foreignFrame l f ⟨w, x⟩ →
      let here := fun (ptp : Bool) => (s.dev.lane l).rx.lock = true ∧ s.dev.laneCfg 0x2300 l = 1 ∧
        ∃ m, f.mac = some m ∧ m.ether ≠ s.dev.cfg 0x2000 8 ∧ decide (m.ether = 0x88F7) = ptp
      let good := f.fcsState w = .good ∧ f.size ≤ 4224
      let handed := fun (i : Nat) (t : State) => t.dev.out =
        (if good ∧ s.dev.laneCfg i l = 1 ∧ s.dev.atticRuns = true then .toAttic l f x :: s.dev.out else s.dev.out)
      ((s.dev.lane l).rx.lock = false → exec c s = .next s) ∧
      (s.dev.framing l f = .swent → exec c s = .next s) ∧
      (here true → ∃ t, Runs c s t [.out, .log, .tele] ∧ handed 0x8100 t ∧
        (good → ¬(s.dev.laneCfg 0x8100 l = 1 ∧ s.dev.atticRuns = true) → Counted s t 0x8E01 l 1) ∧
        (f.fcsState w = .good → 4224 < f.size → t.dev.log = (s.dev.raise 0x2034 l).log)) ∧
      (here false → ∃ t, Runs c s t [.out, .log, .tele] ∧ handed 0x2400 t ∧ Counted s t 0x2E01 l 1 ∧
        (f.fcsState w = .good → 4224 < f.size → t.dev.log = (s.dev.raise 0x2034 l).log)))

/-- R58 to R60, R82, R91, R179, R180, R182, R192, R358, R361: one whole contribution, through every outcome of Table 03-6. -/
def Obligations.AContributionIsRefusedHeldOrAdded : Prop :=
  ∀ (s : State) (l : Nat) (f : Frame) (e : Ext) (x : FabricTime) (ecc : Nat) (cut : Option Arbiter) (shelf : Bool),
    On s → l < 1024 → f.hdr.opcode = 0x10 → f.ext = some e → f.badSize = false → Admitted s.dev l f →
    (∀ p ∈ (s.dev.lane l).rx.staged, p.1 ≠ s.dev.nextHeld) →
    let d := s.dev
    let parts := [Part.arb, .consumed, .contexts, .crates, .draws, .held, .holding, .lanes, .log, .nacks, .net, .nextHeld,
      .shadows, .stackTab, .tele, .waits]
    let c := Instr.contrib l f f.fcs ⟨x, ecc, cut, shelf⟩
    let ofCellar := cut.any (fun a => match a with | .cellar _ _ => true | _ => false)
    let cutAt := cut.any (fun a => d.contribAt a l d.nextHeld e) && !ofCellar
    let struck := fun (code src : Nat) => ∃ t, Runs c s t parts ∧ t.dev.contexts = d.contexts ∧ t.dev.holding = d.holding ∧
      t.dev.nacks = d.nacks ∧ t.dev.nextHeld = d.nextHeld + 1 ∧ t.dev.heldAt d.nextHeld = none ∧
      Counted s t code src 1
    let refused := fun (reason : NackReason) (t : State) => Runs c s t parts ∧
      (t.dev.nacks = d.nacks ++ [⟨l, d.cnackFrame f e reason, ⟨x, f.hdr.corr⟩⟩] ∨
        (t.dev.nacks = d.nacks ∧ ∃ y, t.dev.heldAt (d.nextHeld + 1) = some y ∧ y.account = .result ∧ y.crate = crateOf l ∧
          y.frame.hdr.opcode = 0x12 ∧ y.frame.hdr.dst = f.hdr.src ∧ y.frame.ext = (d.cnackFrame f e reason).ext ∧
          y.frame.payload = (d.cnackFrame f e reason).payload))
    (∃ t, Runs c s t parts) ∧
    (ecc = 2 → struck 0x4021 (crateOf l)) ∧
    (∀ a, cut = some a → cutAt = true → (∀ r k i, a ≠ .bridge r k i) → struck 0x4010 (d.arbiterCrate d.nextHeld a)) ∧
    (∀ r k i, cut = some (.bridge r k i) → cutAt = true → struck 0x4010 (crateOf l)) ∧
    (ecc ≠ 2 → cutAt = false → (ofCellar = true → d.cellarStore l = false) →
    match d.earlyChecks l f e with
    | .refuse reason => ∃ t, refused reason t ∧ t.dev.contexts = d.contexts ∧ t.dev.holding = d.holding
    | .hold =>
      if (d.holding.filter (fun y => decide (y.crate = crateOf l))).length ≥ 5 * d.cfgAt (crateOf l) 0x6000 1 ∨ d.cfg 0x6000 2 = 0
      then ∃ t, refused .notArmed t ∧ t.dev.holding = d.holding ∧
        ∀ y, d.ctxAt e.ctx = some y → t.dev.ctxAt e.ctx = some { y with refused := (y.refused + 1) % 2 ^ 64 }
      else ∃ t, Runs c s t parts ∧ t.dev.contexts = d.contexts ∧
        t.dev.holding = d.holding ++ [⟨crateOf l, l, e.ctx, f, x⟩]
    | .pass st =>
      ∀ y, d.ctxAt e.ctx = some y →
      let r := y.record
      let key := chunkKey r e.chunk
      let g := y.group key
      let w : Contrib := ⟨e.member, e.count, e.phase, f.payload, e.fmt, e.mx, ⟨x, f.hdr.corr⟩, l, some d.nextHeld⟩
      match (d.check9 l r f e).1, aliveCheck e.alive (y.alive.get 0xFFFF e.member) with
      | some reason, _ => ∃ t, refused reason t ∧ t.dev.contexts = d.contexts ∧ t.dev.holding = d.holding
      | none, .gap => ∃ t, refused .aliveGap t ∧ t.dev.contexts = d.contexts ∧ t.dev.holding = d.holding
      | none, .accept => ∃ t z, Runs c s t parts ∧ t.dev.holding = d.holding ∧ t.dev.ctxAt e.ctx = some z ∧ z.record = r ∧
          z.alive.get 0xFFFF e.member = e.alive ∧ (∀ m, m ≠ e.member → z.alive.get 0xFFFF m = y.alive.get 0xFFFF m) ∧
          (∀ c', c' ≠ e.ctx → t.dev.ctxAt c' = d.ctxAt c') ∧
          let faults := shelf = true ∧ rSpilled r key = false
          let add := fun (base : Round) =>
            let q := (base.add r w).1
            (¬ faults → (z.group key).round = q ∧
              (z.group key).state = if rSpilled r key = false ∧ q.filled r = true then .complete else .opened) ∧
            (faults → y.state ≠ .draining → z.state = .faulted ∧ z.fault = 5 ∧ (z.group key).state = .released)
          match st with
          | .past => z.groups = y.groups ∧ z.late = (y.late + 1) % 2 ^ 64
          | .occupies => if bit g.round.members e.member = true then z.groups = y.groups ∧ z.late = y.late
              else if bit g.round.excluded e.member = true ∨ g.state ≠ .opened then
                z.groups = y.groups ∧ z.late = (y.late + 1) % 2 ^ 64
              else add g.round
          | .opens => if g.zeroing = 0 then add (openRound r (firstPhase r) none) ∧
                (¬ faults → (z.group key).gen = e.gen ∧ (z.group key).chunk = e.chunk)
              else (z.group key).round = g.round ∧ (z.group key).waiting =
                if g.waiting.any (fun v => decide (v.member = e.member)) = true then g.waiting else g.waiting ++ [w]
          | .no => True
      | none, _ => ∃ t, Runs c s t parts ∧ t.dev.contexts = d.contexts ∧ t.dev.holding = d.holding ∧
          t.dev.tallyOf 0x6E01 l = (d.tallyOf 0x6E01 l + 1) % 2 ^ 64)

/-- R216, R218 to R220: RESULT and CNACK frames of a BRANCH. -/
def Obligations.RelayedResultsAndCnacksOfABranch : Prop :=
  ∀ (s : State) (l : Nat) (f : Frame) (e : Ext) (x : FabricTime), On s → l < 1024 → f.ext = some e → Admitted s.dev l f →
    let d := s.dev
    let vc := d.vcIn l f
    let chip := credited vc = false ∨ d.cellarStore l = false
    let taken := [Part.lanes, .crates, .held, .nextHeld, .net, .waits, .log, .tele, .draws]
    (f.hdr.opcode = 0x11 → (∃ t, Runs (.result l f x) s t taken) ∧
      match d.relayOf l e with
      | none => ∃ t, Runs (.result l f x) s t [.lanes, .crates, .held, .net, .log, .tele, .draws] ∧
          (chip → t.dev.log = (d.raiseCtx 0x6011 e.ctx e.gen e.chunk).log ∧ t.dev.held = d.held) ∧ Counted s t 0x6011 0 1 ∧
          (t.dev.lane l).rx.rx = some ⟨f, x, none, if credited vc then some vc else none⟩ ∧
          (credited vc = true → (t.dev.ring l vc).used = (d.ring l vc).used + f.flits)
      | some y =>
          let z := { d.arriving l f x false with
            res := some ⟨e.ctx, e.gen, e.chunk, rHome y.record⟩
            mrec := some (match rRow y.record with
              | some row => ⟨128, 0, row, d.excludedOf l, some (rPlan y.record false).group, false⟩
              | none => ⟨128, 0, (rPlan y.record false).group, 0, none, false⟩) }
          (credited vc = true ∨ (cellsOf f.flits ≤ d.sharedFree (crateOf l) ∧ 3125 ≤ 2 * (d.crate (crateOf l)).freq)) →
          ∃ t b, Runs (.result l f x) s t taken ∧ GoesToAll d d.nextHeld z t.dev ∧
            t.dev.heldAt d.nextHeld = some { z with bad := b }) ∧
    (f.hdr.opcode = 0x12 → isEndpoint f.hdr.dst = false → f.badSize = false →
      let reason := bytesFrom f.payload 0 1
      ∃ t, Runs (.cnack l f f.fcs x) s t [.lanes, .crates, .contexts, .held, .nextHeld, .net, .waits, .nacks, .log, .tele,
          .draws] ∧
        (t.dev.lane l).rx.expect = ((d.lane l).rx.expect + 1) % 65536 ∧
        (∀ c, c ≠ e.ctx → t.dev.ctxAt c = d.ctxAt c) ∧
        (reason = 0 ∨ 13 < reason → t.dev.contexts = d.contexts ∧ (chip → t.dev.held = d.held) ∧
          t.dev.tallyOf 0x2E06 l = (d.tallyOf 0x2E06 l + 1) % 2 ^ 64) ∧
        (1 ≤ reason → reason ≤ 13 → match d.nackTarget l e with
          | none => t.dev.contexts = d.contexts ∧ Counted s t 0x6011 0 1 ∧
              (chip → t.dev.held = d.held ∧ t.dev.log = (d.raiseCtx 0x6011 e.ctx e.gen e.chunk).log)
          | some (h, y) => h < d.nextHeld → (∀ p ∈ (d.lane l).rx.staged, p.1 ≠ h) →
              ∀ z u, d.heldAt h = some z → z.upward = some u → d.ctxAt e.ctx = some y →
              (reason ∈ [1, 2, 6, 9] → t.dev.contexts = d.contexts ∧
                if z.gone = true then
                  match (d.upwardLane y.record u.2.2).1 with
                  | some k => t.dev.heldAt h = some { z with gone := false, again := false } ∧
                      (Msg.desc h k false ∈ t.dev.net ∨
                        ⟨z.crate, crateOf k, z.vc, h, some k, false, false⟩ ∈ t.dev.waits)
                  | none => t.dev.heldAt h = some z
                else t.dev.heldAt h = some { z with again := true }) ∧
              (reason ∈ [3, 4, 10, 11] →
                t.dev.ctxAt e.ctx = some (if reason = 4 then { y with upAlive := bytesFrom f.payload 2 2 } else y) ∧
                t.dev.heldAt h = if z.gone then none else some { z with upward := none }) ∧
              (reason ∈ [5, 7, 8, 12, 13] → t.dev.contexts = d.contexts ∧ t.dev.heldAt h = some z)))

/-- R83, R84, R86, R87, R96, R128: a frame at its egress lane. -/
def Obligations.PushesAndDescriptorsJoinTheirLane : Prop :=
  ∀ (s : State) (l h : Nat) (mark : Bool) (a b : List Msg), On s → l < 1024 →
    (s.dev.FirstTo (crateOf l) (Msg.isPush l) a (.push h l mark) b →
      ∃ t, Runs (.pushArrival l) s t [.lanes, .crates, .arb, .net, .waits, .log, .tele] ∧
        (∀ x, s.dev.heldAt h = some x → x.bad = false → s.dev.carries l = true →
          if s.dev.openNow l = true ∧ s.dev.creditCovers l (s.dev.linkVc l x.vc) x.frame.flits = true ∧
              s.dev.earlier l h x = false then
            (t.dev.egress l).sel = some ⟨h, x.frame.flits, x.vc, false, mark || (s.dev.markDecision l (x.vc / 2) 0).1, true,
              true, false, ((s.dev.egress l).shapers.get {} x.vc).colour (chargeOf x.frame (s.dev.macLen l))⟩ ∧
            (t.dev.egress l).isOpen = false ∧ ∀ vc, (t.dev.egress l).queue vc = (s.dev.egress l).queue vc
          else t.dev.tallyOf 0x4E04 l = (s.dev.tallyOf 0x4E04 l + 1) % 2 ^ 64 ∧ Joins s.dev l h mark t.dev) ∧
        (∀ x, s.dev.heldAt h = some x → x.bad = true → Msg.release h (crateOf l) ∈ t.dev.net) ∧
        (∀ x, s.dev.heldAt h = some x → x.bad = false → s.dev.carries l = false → Joins s.dev l h mark t.dev)) ∧
    (s.dev.FirstTo (crateOf l) (Msg.isDesc l) a (.desc h l mark) b →
      ∃ t, Runs (.descriptor l) s t [.lanes, .crates, .arb, .net, .waits, .log, .tele] ∧ Joins s.dev l h mark t.dev)

/-- R83, R85: deferral and its end. -/
def Obligations.DeferredFramesWaitForEntries : Prop :=
  ∀ (s : State) (c : Nat) (a b : List Msg), On s →
    (∀ (h e : Nat) (lane : Option Nat) (mark : Bool) (x : Held), s.dev.FirstTo c Msg.isDefer a (.deferReply h e lane mark) b →
      s.dev.heldAt h = some x →
      ∃ t, Runs (.deferReply c) s t [.crates, .arb, .net, .waits] ∧ t.dev.net = a ++ b ∧
        t.dev.waits = if s.dev.waits.any (fun w => decide (w.held = h ∧ w.egress = e)) then
            s.dev.waits.map (fun (w : Wait) => if w.held = h ∧ w.egress = e then { w with sent := false } else w)
          else s.dev.waits ++ [⟨c, e, x.vc, h, lane, mark, false⟩]) ∧
    (∀ egress, s.dev.FirstTo c (fun m => decide (m = .announce egress c)) a (.announce egress c) b →
      ∃ t, Runs (.freeEntryAnnouncement egress c) s t [.crates, .arb, .net, .waits] ∧ (∀ m, m ∈ a ++ b → m ∈ t.dev.net) ∧
        t.dev.waits.map (fun (w : Wait) => { w with sent := false }) =
          s.dev.waits.map (fun (w : Wait) => { w with sent := false }) ∧
        ∀ vc < 16, ∀ w, s.dev.waits.find? (fun w => decide (w.holder = c ∧ w.egress = egress ∧ w.vc = vc)) = some w →
          { w with sent := true } ∈ t.dev.waits ∧
          (w.sent = false → (∀ y ∈ s.dev.waits, y.held = w.held → y.egress = egress → y.vc = vc) →
            (match w.lane with
             | some l => Msg.desc w.held l w.mark
             | none => Msg.mdesc w.held (2 ^ egress) true) ∈ t.dev.net))

/-- R88, R131, R134: selection and pull. -/
def Obligations.TheSchedulerServesTheSmallestTag : Prop :=
  (∀ (s : State) (l : Nat), On s →
    let e := s.dev.egress l
    let can := fun vc => vc < 16 ∧ vc ≠ 12 ∧ vc ≠ 13 ∧ s.dev.eligible l vc ≠ none
    let tag := fun vc => (e.tags.get none vc).getD 0
    (e.sel ≠ none ∨ (∀ vc, ¬ can vc) → exec (.schedulerSelection l) s = .next s) ∧
    (e.sel = none → (∃ vc, can vc) → ∃ t vc q, Runs (.schedulerSelection l) s t [.lanes, .net, .tele] ∧ can vc ∧
      (e.queue vc).head? = some q ∧
      (t.dev.egress l).sel = some ⟨q.held, q.flits, vc, q.multi, q.mark, false, false, false,
        (s.dev.eligible l vc).getD .green⟩ ∧
      (∀ c, (t.dev.egress l).queue c = e.queue c) ∧ Msg.pull q.held l ∈ t.dev.net ∧
      ∀ vc', can vc' →
        (s.dev.eligible l vc = some .yellow → s.dev.eligible l vc' = some .yellow) ∧
        (s.dev.eligible l vc' = s.dev.eligible l vc → tag vc < tag vc' ∨ (tag vc = tag vc' ∧ vc ≤ vc')))) ∧
  (∀ (s : State) (l h ecc : Nat) (a b : List Msg), On s →
    s.dev.FirstTo (s.dev.holder h) (fun m => decide (m = .pull h l)) a (.pull h l) b → (∀ h', Msg.pull h' l ∉ a) →
    (ecc ≠ 2 → ∃ t, Runs (.pull l ecc) s t [.lanes, .crates, .arb, .net, .log, .tele] ∧ t.dev.net = a ++ b ∧
      (∀ x, (s.dev.egress l).sel = some x → x.held = h → x.claimed = false →
        (t.dev.egress l).sel = some { x with pulled := true }) ∧
      (∀ m, m ≠ l → t.dev.lane m = s.dev.lane m) ∧
      ∀ x, s.dev.heldAt h = some x → t.dev.log = if ecc = 1 then (s.dev.raise 0x4020 x.crate).log else s.dev.log) ∧
    (ecc = 2 → ∀ x, s.dev.heldAt h = some x → ∃ t, Runs (.pull l ecc) s t [.lanes, .crates, .arb, .held, .net, .log, .tele] ∧
      t.dev.heldAt h = some { x with bad := true } ∧ Purged t.dev h ∧ t.dev.log = (s.dev.raise 0x4021 x.crate).log))

/-- R46, R49, R63, R65, R89, R124, R131, R286: the start of a frame on a lane. -/
def Obligations.AFrameStartsWithItsHeaderRewritten : Prop :=
  ∀ (s : State) (l : Nat) (x : FabricTime) (q : Sel) (y : Held), On s →
    let e := s.dev.egress l
    e.sel = some q → q.pulled = true → s.dev.heldAt q.held = some y →
    (y.whole = true ∨ s.dev.mayCutThrough l y = true) → s.dev.mayStart l x .frame = true →
    ∃ t f, Runs (.frameTransmissionStart l x) s t [.lanes, .crates, .held, .net, .log, .tele] ∧
      f = s.dev.rewrite l y q.mark x ∧
      let g := t.dev.egress l
      let charge := chargeOf y.frame (s.dev.macLen l)
      let cvc := s.dev.linkVc l q.vc
      g.sel = none ∧ g.cur = some ⟨q.held, q.vc, f.hdr.seq, q.multi, f, x, charge, q.done, q.mark || y.mark, false⟩ ∧
      (∀ vc, g.queue vc = if q.claimed = false ∧ vc = q.vc then (e.queue vc).drop 1 else e.queue vc) ∧
      g.shapers.get {} q.vc = (e.shapers.get {} q.vc).charged charge q.colour ∧
      (∀ vc, vc ≠ q.vc → g.shapers.get {} vc = e.shapers.get {} vc) ∧
      (let a := (s.dev.lane l).tx
       let b := (t.dev.lane l).tx
       if y.frame.raw = false then
         f.mac = s.dev.macOut l ∧ f.hdr.seq = a.next ∧ f.hdr.a = true ∧ f.hdr.ack = (s.dev.lane l).rx.expect ∧
         f.payload = y.frame.payload ∧
         f.hdr.h = (y.frame.hdr.h || s.dev.dateLine l) ∧ f.hdr.ce = (y.frame.hdr.ce || q.mark || y.mark) ∧
         f.hdr.corr = addCorr y.frame.hdr.corr (spanCorr x y.start) ∧
         b = { a with next := (a.next + 1) % 65536, replay := a.replay ++ [⟨a.next, f, x, .good⟩], consumed := b.consumed } ∧
         ∀ vc, b.consumed.get 0 vc =
           if vc = cvc ∧ credited vc = true then (a.consumed.get 0 vc + q.flits) % 2 ^ 24 else a.consumed.get 0 vc
       else b = a) ∧
      (t.dev.lane l).rx = (s.dev.lane l).rx ∧ ∀ m, m ≠ l → t.dev.lane m = s.dev.lane m

/-- R61, R90, R91: the end of a frame, and the release of its storage. -/
def Obligations.AFrameEndsAndItsStorageIsReleased : Prop :=
  ∀ (s : State), On s →
    (∀ (l : Nat) (c : Tx), (s.dev.egress l).cur = some c →
      let whole := (s.dev.heldAt c.held).any (fun x => x.whole || x.bad)
      let broken := (s.dev.heldAt c.held).any (·.bad)
      let bad := c.bad || (broken && !c.done)
      (c.done = true ∨ whole = true → ∃ t, Runs (.frameTransmissionEnd l) s t [.lanes, .net, .out, .log, .tele] ∧
        t.dev.out = .frame l c.frame (c.frame.fcsWord (if bad then .marked else .good)) c.start :: s.dev.out ∧
        (t.dev.egress l).cur = none ∧ (t.dev.egress l).sel = (s.dev.egress l).sel ∧
        (∀ vc, (t.dev.egress l).queue vc = (s.dev.egress l).queue vc) ∧
        (c.done = false → Msg.release c.held (crateOf l) ∈ t.dev.net) ∧
        (t.dev.lane l).tx.replay = (if bad then (s.dev.lane l).tx.replay.map (fun r =>
          if r.seq = c.seq then { r with fcs := .marked } else r) else (s.dev.lane l).tx.replay) ∧
        t.dev.log = (if bad then (s.dev.raise 0x4011 l).log else s.dev.log)) ∧
      (∀ k, if c.done = false ∧ whole = true then
          ∃ t, Runs (.release (some l) k) s t [.lanes, .net, .tele] ∧ t.dev.net = s.dev.net ++ [.release c.held (crateOf l)] ∧
            (t.dev.egress l).cur = some { c with done := true, bad := broken } ∧
            ∀ vc, (t.dev.egress l).queue vc = (s.dev.egress l).queue vc
        else exec (.release (some l) k) s = .next s)) ∧
    (∀ (l k : Nat) (q : Sel), (s.dev.egress l).cur = none → (s.dev.egress l).sel = some q → q.pulled = true → q.done = false →
      (s.dev.heldAt q.held).any (fun x => x.whole) = true →
      ∃ t, Runs (.release (some l) k) s t [.lanes, .net, .tele] ∧
        t.dev.net = s.dev.net ++ [.release q.held (crateOf l)] ∧
        (t.dev.egress l).sel = some { q with done := true }) ∧
    (∀ h, if h ∈ s.dev.consumed then ∃ t, Runs (.release none h) s t [.consumed, .net] ∧ h ∉ t.dev.consumed ∧
          t.dev.net = s.dev.net ++ [.release h (s.dev.holder h)] ∧ ∀ k, k ≠ h → (k ∈ t.dev.consumed ↔ k ∈ s.dev.consumed)
        else exec (.release none h) s = .next s)

/-- R90, R93, R94, R114, R120: a multicast frame from its descriptor to its last release. -/
def Obligations.MulticastCopiesAreCounted : Prop :=
  (∀ (s : State) (c h map : Nat) (again : Bool) (x : Held) (m : MRecord) (a b : List Msg), On s → c < 128 →
    s.dev.FirstTo c Msg.isMdesc a (.mdesc h map again) b → s.dev.heldAt h = some x → x.mrec = some m →
    let ports := ((s.dev.portsOf c).map (·.1)).filter (s.dev.isMember m.group m.excluded)
    let lane := fun (p : Nat) => if s.dev.portCarries p then s.dev.copyLane p x.vc else none
    let lanes := ports.filterMap lane
    let kept := some { x with mrec := some { m with served := m.served || !lanes.isEmpty } }
    (x.bad = true → ∃ t, Runs (.multicastDescriptor c) s t [.crates, .arb, .held, .net, .waits] ∧ t.dev.heldAt h = kept ∧
      Msg.reply h 0 c ∈ t.dev.net) ∧
    (x.bad = false → 4 ≤ x.vc → s.dev.freeEntries c < lanes.length →
      ∃ t, Runs (.multicastDescriptor c) s t [.crates, .arb, .held, .net, .log, .tele] ∧ t.dev.heldAt h = kept ∧
        Msg.deferReply h c none x.mark ∈ t.dev.net ∧ x.crate ∈ (t.dev.path c).owed ∧
        t.dev.log = (s.dev.raise 0x4006 c).log) ∧
    (x.bad = false → (4 ≤ x.vc → lanes.length ≤ s.dev.freeEntries c) →
      ∃ t n, Runs (.multicastDescriptor c) s t [.lanes, .crates, .arb, .held, .net, .waits, .log, .tele] ∧
        t.dev.heldAt h = kept ∧ Msg.reply h n c ∈ t.dev.net ∧ n ≤ lanes.length ∧
        (∀ l, l ∉ lanes → ∀ vc, (t.dev.egress l).queue vc = (s.dev.egress l).queue vc) ∧
        (∀ p ∈ ports, lane p = none → Counted s t 0x4005 p 1) ∧
        (4 ≤ x.vc → (∀ l ∈ lanes, x.frame.hdr.h = true → s.dev.dateLine l = false) → n = lanes.length ∧
          ∀ l ∈ lanes, ∃ q ∈ (t.dev.egress l).queue x.vc, q.held = h ∧ q.multi = true ∧ q.flits = x.frame.flits))) ∧
  (∀ (s : State) (c h : Nat) (x : Held) (a b : List Msg), On s → h < s.dev.nextHeld → s.dev.heldAt h = some x →
    let parts := [Part.lanes, .crates, .arb, .held, .nextHeld, .net, .waits, .nacks, .atticWaits, .log, .tele]
    let settled := fun (m : MRecord) (t : State) =>
      if m.pending = 0 then
        match m.next with
        | some g =>
            let y := { x with mrec := some { m with pending := 128, group := g, excluded := 0, next := none } }
            t.dev.heldAt h = some y ∧ GoesToAll s.dev h y t.dev
        | none => t.dev.heldAt h = if m.refs = 0 then none else some { x with mrec := some m }
      else t.dev.heldAt h = some { x with mrec := some m }
    (∀ n src m, s.dev.FirstTo c Msg.isReply a (.reply h n src) b → x.mrec = some m → x.upward = none →
      ∃ t, Runs (.reply c) s t parts ∧ settled { m with pending := m.pending - 1, refs := m.refs + n } t) ∧
    (∀ r src, (r = Msg.release h src ∨ r = Msg.skip h src) → s.dev.FirstTo c Msg.isRelease a r b →
      ∃ t, Runs (.frameRecordRelease c) s t parts ∧
        (∀ m, x.mrec = some m → x.upward = none → settled { m with refs := m.refs - 1 } t) ∧
        (x.mrec = none → x.upward = none → t.dev.heldAt h = none) ∧
        (x.mrec = none → x.upward.isSome = true → t.dev.heldAt h = some { x with gone := true } ∨
          (x.again = true ∧ t.dev.heldAt h = some { x with gone := false, again := false }))))

/-- R86, R91, R98, R100 to R102: open maps, cuts and the arbiters' records. -/
def Obligations.OpenBitsAndWormCuts : Prop :=
  (∀ (s : State) (c l map : Nat) (o : Bool) (a b : List Msg), On s → s.dev.FirstTo c (Msg.isOpenBit l) a (.openBit l o map) b →
    ∃ t, Runs (.openMapChange c l) s t [.crates, .arb, .net] ∧ t.dev.seesOpen c l = o ∧
      (∀ n k, ¬ (n = c ∧ k = l) → t.dev.seesOpen n k = s.dev.seesOpen n k) ∧
      ∀ n, { t.dev.crate n with path := { (t.dev.crate n).path with openMap := {}, grants := {} } } =
        { s.dev.crate n with path := { (s.dev.crate n).path with openMap := {}, grants := {} } }) ∧
  (∀ (s : State) (a : Arbiter) (h : Nat) (x : Held), On s → s.dev.heldAt h = some x →
    if s.dev.wormAt a h = false then exec (.wormCut a h) s = .next s
    else ∃ t, Runs (.wormCut a h) s t [.lanes, .crates, .stackTab, .arb, .held, .net, .log, .tele] ∧
      t.dev.heldAt h = some { x with bad := true } ∧ Purged t.dev h ∧
      (match a with
       | .egress l r => r ∈ (t.dev.egress l).stalled ∧ t.dev.log = (s.dev.raise 0x4010 (crateOf l)).log
       | .larderWrite c r => r ∈ (t.dev.path c).stalled ∧ t.dev.log = (s.dev.raise 0x4010 c).log
       | .router c r => 128 + r ∈ (t.dev.path c).stalled ∧ t.dev.log = (s.dev.raise 0x4010 c).log
       | .larderRead c r => 256 + r ∈ (t.dev.path c).stalled ∧ t.dev.log = (s.dev.raise 0x4010 c).log
       | .bridge y dir r => y * 16 + dir * 8 + r ∈ t.dev.arb.stalled ∧ t.dev.log = (s.dev.raise 0x4010 x.crate).log
       | .cellar k r => r ∈ (t.dev.stackTab.get {} k).stalled ∧ t.dev.log = (s.dev.raise 0x4010 x.crate).log)) ∧
  ∀ s : State, On s → s.dev.atticRuns = true →
    (∃ t, Runs .arbiterStalledFlagClear s t [.lanes, .crates, .stackTab, .arb] ∧ t.dev.arb = { s.dev.arb with stalled := [] } ∧
      (∀ l, t.dev.lane l = { s.dev.lane l with egress := { (s.dev.lane l).egress with stalled := [] } }) ∧
      (∀ n, t.dev.crate n = { s.dev.crate n with path := { (s.dev.crate n).path with stalled := [] } }) ∧
      ∀ k, t.dev.stackTab.get {} k = { s.dev.stackTab.get {} k with stalled := [] }) ∧
    (∃ t, Runs .arbiterRecordClearAll s t [.lanes, .crates, .stackTab, .arb] ∧
      t.dev.arb = { s.dev.arb with stalled := [], bridge := {}, since := s.dev.time.ran } ∧
      (∀ l, t.dev.lane l = { s.dev.lane l with egress := { (s.dev.lane l).egress with stalled := [], grants := {} } }) ∧
      (∀ n < 128, t.dev.crate n = { s.dev.crate n with
        path := { (s.dev.crate n).path with stalled := [], grants := {}, sharedLow := none }, arbFrom := s.dev.crateCycles n }) ∧
      ∀ k, t.dev.stackTab.get {} k = { s.dev.stackTab.get {} k with stalled := [] })

/-- R108, R109, R296: the states of the two versions. -/
def Obligations.RouteVersionsMove : Prop :=
  ∀ (s : State) (v : Nat), On s → v ≤ 1 →
    let w := s.dev.versions
    let o := 1 - v
    (∃ t, Runs (.prepareVersion v) s t [.versions] ∧ t.dev.versions.state o = w.state o ∧ t.dev.versions.retire = w.retire ∧
      t.dev.versions.state v = if w.state v = .idle then .prepared else w.state v) ∧
    (w.state v ≠ .prepared → exec (.flipToVersion v) s = .next s) ∧
    (w.state v = .prepared → ∃ t, Runs (.flipToVersion v) s t [.versions, .log, .tele] ∧
      t.dev.versions.state v = .active ∧ t.dev.versions.state o = .draining ∧
      t.dev.versions.retire = s.dev.step + s.dev.cfg 0x5000 9 ∧ t.dev.log = (s.dev.raise 0x5016 0 v).log) ∧
    (∀ rest, s.dev.due = .retire :: rest → w.state v = .draining → w.state o ≠ .draining →
      ∃ e : Dev, (let r := settleDue s.nv e
          exec .versionRetirement s = .next (s.setAll (catchUp r.1 r.2))) ∧
        e.without [.versions, .log, .tele] = { s.dev with due := rest }.without [.versions, .log, .tele] ∧
        e.versions.state v = .idle ∧ e.versions.state o = w.state o ∧ e.versions.retire = 0 ∧
        e.log = (s.dev.raise 0x5017 0 v).log)

/-- R137 to R140, R146: refills, at an instant and at a boundary. -/
def Obligations.ShapersEarnByTime : Prop :=
  (∀ (s : State) (l : Nat) (x : FabricTime), On s → (∀ w ∈ s.dev.due, ∀ t, w ≠ .refill t) → s.dev.crossed = false →
    let first := s.dev.boundaryOf s.dev.step
    let at_ := first < x ∧ x < s.dev.boundaryOf (s.dev.step + 1) ∧ (s.dev.egress l).refilled < x ∧
      ∃ k : Nat, (x : Int) = first + k * (s.dev.cfg 0x7000 1 * 65536 : Nat)
    let span := x - (s.dev.egress l).refilled
    (¬ at_ → exec (.shaperRefill l x) s = .next s) ∧
    (at_ → ∃ t, Runs (.shaperRefill l x) s t [.lanes] ∧ (∀ m, m ≠ l → t.dev.lane m = s.dev.lane m) ∧
      t.dev.lane l = { s.dev.lane l with egress := { s.dev.egress l with refilled := x, shapers := (t.dev.egress l).shapers } } ∧
      ∀ vc < 16,
        let a := (s.dev.egress l).shapers.get {} vc
        let b := (t.dev.egress l).shapers.get {} vc
        let gain := fun rate => ((rate * span / 8000 : Nat) : Int)
        b.record = a.record ∧ b.atRefill = (b.c, b.p) ∧
        (shKind a.record = 1 → b.p = a.p ∧ b.c = if (s.dev.egress l).queue vc ≠ [] ∨ a.c < 0
          then min (a.c + gain (shRateA a.record)) (shBurstA a.record * 65536) else min a.c 0) ∧
        (shKind a.record = 2 → b.c = min (a.c + gain (shRateA a.record)) (shBurstA a.record * 65536) ∧
          b.p = min (a.p + gain (shRateB a.record)) (shBurstB a.record * 65536)) ∧
        (shKind a.record ≠ 1 → shKind a.record ≠ 2 → b.c = a.c ∧ b.p = a.p))) ∧
  (∀ (s : State) (l : Nat) (x y : FabricTime) (rest : List Due), On s → s.dev.due = .refill x :: rest →
    ∃ e : Dev, (let r := settleDue s.nv e
      let r := catchUp r.1 r.2
      exec (.shaperRefill l y) s =
        .next (s.setAll (if r.2.refillAt l y = true then (r.1, r.2.refillLane l y false) else r))) ∧
      e.without [.lanes] = { s.dev with due := rest }.without [.lanes] ∧
      ∀ m < 1024, if (s.dev.egress m).shapers.cells ≠ [] ∨ s.dev.laneCfg 0x7200 m ≠ 0
        then e.lane m = { s.dev.lane m with egress := { s.dev.egress m with refilled := x, shapers := (e.egress m).shapers } } ∧
          ∀ vc < 16, (e.egress m).shapers.get {} vc = ((((s.dev.egress m).shapers.get {} vc).refill
            ((s.dev.egress m).queue vc).isEmpty (x - (s.dev.egress m).refilled)).install
              (shaperRecord (s.dev.laneCfg 0x7200 m) vc)).noted
        else e.lane m = s.dev.lane m)

/-- R141 to R144: the policer, the fetch and the write of a flow context. -/
def Obligations.FlowContextsMeterFrames : Prop :=
  (∀ (d : Dev) (l i : Nat) (f : Frame) (c : Flow), d.policed l f = some i →
    (d.path (crateOf l)).cache.find? (fun p => decide (p.1 = i)) = some (i, c) →
    let span := d.nowNs - c.last
    let tc := min (c.tc + ((c.cir * span * 65536 / 8000 : Nat) : Int)) (c.cbs * 65536)
    let tp := min (c.tp + ((c.pir * span * 65536 / 8000 : Nat) : Int)) (c.pbs * 65536)
    let b : Int := chargeOf f f.macLen * 65536
    let q := d.police l f
    q.2.without [.crates, .flows, .log, .tele] = d.without [.crates, .flows, .log, .tele] ∧
    ∃ e : Flow, (q.2.path (crateOf l)).cache.head? = some (i, e) ∧
      if c.poison = true ∨ c.enable = false then q.1 = 0 ∧ e = c
      else e.last = d.nowNs ∧ if tp < b then q.1 = c.actR ∧ e.tc = tc ∧ e.tp = tp ∧ e.nR = (c.nR + 1) % 2 ^ 64
      else if tc < b then q.1 = c.actY ∧ e.tc = tc ∧ e.tp = tp - b ∧ e.nY = (c.nY + 1) % 2 ^ 64
      else q.1 = c.actG ∧ e.tc = tc - b ∧ e.tp = tp - b ∧ e.nG = (c.nG + 1) % 2 ^ 64) ∧
  (∀ (s : State) (n : Nat) (q : Fetch) (a b : List Fetch), On s → (s.dev.path n).fetches = a ++ q :: b →
    (∀ y ∈ a, y.index ≠ q.index) →
    let f := s.dev.flows.get {} q.index
    let struck := f.poison = true ∨ (s.dev.stackTab.get {} (flowStack q.index)).status = .failed
    let all : Nat := q.charges.foldl (fun x y => x + y) 0
    let span := s.dev.nowNs - f.last
    ∃ t e, Runs (.flowContextFetchDone n q.index) s t [.crates, .flows, .log, .tele] ∧ (t.dev.path n).fetches = a ++ b ∧
      (t.dev.path n).cache.head? = some (q.index, e) ∧ (∀ m, m ≠ n → t.dev.crate m = s.dev.crate m) ∧
      (struck → e = { f with poison := true } ∧ Counted s t 0x9004 (flowStack q.index) q.charges.length) ∧
      (¬ struck → t.dev.tele = s.dev.tele ∧ t.dev.log = s.dev.log) ∧ (¬ struck → f.enable = false → e = f) ∧
      (¬ struck → f.enable = true → e = { f with
        last := s.dev.nowNs, nG := (f.nG + q.charges.length) % 2 ^ 64
        tc := min (f.tc + ((f.cir * span * 65536 / 8000 : Nat) : Int)) (f.cbs * 65536) - all * 65536
        tp := min (f.tp + ((f.pir * span * 65536 / 8000 : Nat) : Int)) (f.pbs * 65536) - all * 65536 })) ∧
  (∀ (s : State) (i v : Nat), On s →
    let new := Flow.ofNat v
    let put := fun (f : Flow) =>
      let span := s.dev.nowNs - f.last
      let full := (new.enable && !f.enable) || f.poison
      { new with
        last := s.dev.nowNs
        tc := if full then new.cbs * 65536 else
          min (min (f.tc + ((f.cir * span * 65536 / 8000 : Nat) : Int)) (f.cbs * 65536)) (new.cbs * 65536)
        tp := if full then new.pbs * 65536 else
          min (min (f.tp + ((f.pir * span * 65536 / 8000 : Nat) : Int)) (f.pbs * 65536)) (new.pbs * 65536) }
    (¬ (new.ok = true ∧ i < 2 ^ 22) → exec (.flowContextWrite i v) s = .next s) ∧
    (new.ok = true → i < 2 ^ 22 → ∃ t, Runs (.flowContextWrite i v) s t [.flows, .crates] ∧
      t.dev.flows.get {} i = put (s.dev.flows.get {} i) ∧ (∀ j, j ≠ i → t.dev.flows.get {} j = s.dev.flows.get {} j) ∧
      ∀ n, t.dev.crate n = { s.dev.crate n with path := { s.dev.path n with
        cache := (s.dev.path n).cache.map (fun p => if p.1 = i then (p.1, put p.2) else p) } }))

/-- R171 to R174: the states of a context under its commands. -/
def Obligations.ContextCommandsMoveTheState : Prop :=
  ∀ s : State, On s →
    let d := s.dev
    let rest := [Part.arb, .consumed, .contexts, .crates, .held, .holding, .lanes, .log, .nacks, .net, .nextHeld, .shadows,
      .stackTab, .tele, .waits]
    let refused := fun (c : Instr) (slot code ctx gen : Nat) => ∃ t, Runs c s t [.inv, .log, .tele] ∧
      t.dev.inv = { d.inv with ctxRefusal := slot * 2 ^ 24 + code } ∧ t.dev.log = (d.raiseCtx 0x6005 ctx gen code).log
    (∀ record, let r := cleanRecord record
      let c := Instr.install record
      if d.recordFault r ≠ 0 then refused c 1 (d.recordFault r) (rCtx r) 0
      else match d.ctxAt (rCtx r) with
        | some x => if x.state = .installed ∧ x.record = r then exec c s = .next s else refused c 1 1 (rCtx r) 0
        | none => if d.resourceCode r ≠ 0 then refused c 1 (d.resourceCode r) (rCtx r) 0
          else ∃ t x, Runs c s t [.contexts, .crates, .shadows] ∧ t.dev.ctxAt (rCtx r) = some x ∧
            x = { record := r, state := .installed, crates := d.placedCrates r, groups := x.groups
                  spill := (d.spillFor r (d.placedCrates r)).getD [] } ∧ (∀ k, (x.group k).state = .released) ∧
            ∀ c', c' ≠ rCtx r → t.dev.ctxAt c' = d.ctxAt c') ∧
    (∀ gen, refused (.arm 0 gen) 0x41 4 0 gen ∧ refused (.reset 0 gen) 0x41 4 0 gen) ∧
    refused (.retirePark 0) 0x41 4 0 0 ∧ refused (.retireFree 0) 0x41 4 0 0 ∧
    ∀ ctx, ctx ≠ 0 → match d.ctxAt ctx with
      | none => (∀ gen, refused (.arm ctx gen) 0x41 2 ctx gen ∧ refused (.reset ctx gen) 0x41 2 ctx gen) ∧
          refused (.retirePark ctx) 0x41 2 ctx 0 ∧ exec (.retireFree ctx) s = .next s
      | some x => ¬ x.drained = true →
        (∀ gen, let c := Instr.arm ctx gen
          if x.state = .parked ∧ d.resourceCode x.record = 0 ∧ (d.stack (templateStack x.template)).status = .failed then
            ∃ t, Runs c s t rest ∧ t.dev.ctxAt ctx = none ∧ Counted s t 0x9006 (templateStack x.template) 1 ∧
              t.dev.holding = d.holding.filter (fun h => decide (h.ctx ≠ ctx))
          else if x.state = .installed ∨ (x.state = .parked ∧ d.resourceCode x.record = 0) then
            ∃ t y, Runs c s t rest ∧ t.dev.ctxAt ctx = some y ∧ y.record = x.record ∧ y.gc = gen ∧ y.armGen = gen ∧
              (y.state = .armed ∨ y.state = .active) ∧
              t.dev.holding = d.holding.filter (fun h => decide (h.ctx ≠ ctx)) ∧
              ((∀ h ∈ d.holding, h.ctx ≠ ctx) → y.state = .armed ∧ y.touched = false ∧
                (∀ m, y.alive.get 0xFFFF m = 0xFFFF) ∧ ∀ k, (y.group k).state = .released)
          else if x.state = .armed ∧ x.armGen = gen ∧ x.touched = false then exec c s = .next s
          else refused c 0x41 (if x.state = .parked then d.resourceCode x.record else 3) ctx gen) ∧
        (∀ gen, let c := Instr.reset ctx gen
          if x.state = .armed ∨ x.state = .active ∨ x.state = .faulted then
            ∃ t y, Runs c s t [.consumed, .contexts, .shadows, .log, .tele] ∧ t.dev.ctxAt ctx = some y ∧ y.record = x.record ∧
              y.state = .armed ∧ y.gc = gen ∧ y.armGen = gen ∧ y.touched = false ∧ y.fault = x.fault ∧
              (∀ m, y.alive.get 0xFFFF m = 0xFFFF) ∧
              ∀ k, y.group k = (let g := x.group k
                if g.state = .emitting then { g with stale := true, next := none, waiting := [] }
                else if g.busy = true ∧ rSpilled x.record k = true then
                  { g with stale := true, next := none, clearing := true, acks := [], round := {}, waiting := [] }
                else { zeroing := g.zeroing })
          else refused c 0x41 3 ctx gen) ∧
        (∀ park, let c := if park then Instr.retirePark ctx else Instr.retireFree ctx
          let busy := (if x.state = .installed then x.groups
            else x.groups.mapAll {} (fun _ g => { g with waiting := [] })).cells.any (fun p => p.2.busy)
          if park = true ∧ x.state ≠ .parked ∧ ¬ (x.state = .draining ∧ x.park = true) ∧ d.templatesDue ≥ d.templateCapacity then
            refused c 0x41 0xB ctx 0
          else if x.state = .parked ∧ park = true then exec c s = .next s
          else ∃ t, Runs c s t rest ∧
            (if x.state ≠ .parked ∧ busy = true then ∃ y, t.dev.ctxAt ctx = some y ∧ y.record = x.record ∧
                y.state = .draining ∧ y.park = park
             else if park = true ∧ (d.stack (templateStack d.freeTemplate)).status ≠ .failed then t.dev.ctxAt ctx =
               some { record := x.record, state := .parked, crates := rCrates x.record, template := d.freeTemplate }
             else t.dev.ctxAt ctx = none) ∧
            ((x.state = .installed ∨ x.state = .parked) → t.dev.holding = d.holding.filter (fun h => decide (h.ctx ≠ ctx))))

/-- R182, R186, R188, R216: what ends of itself in a collective. -/
def Obligations.CollectivesTimeOut : Prop :=
  ∀ s : State, On s →
    let d := s.dev
    (∀ ctx pos grp x, d.ctxAt ctx = some x →
      let key := groupKey pos grp
      let g := x.group key
      let c := Instr.stragglerTimeout ctx pos grp
      let parts := [Part.consumed, .contexts, .crates, .held, .lanes, .log, .shadows, .tele]
      (g.state ≠ .opened ∨ g.clearing = true ∨ g.stale = true → exec c s = .next s) ∧
      (g.state = .opened → g.clearing = false → g.stale = false →
        (rPartial x.record = true → rQuorum x.record ≤ g.round.added → ∃ t y, Runs c s t parts ∧ t.dev.ctxAt ctx = some y ∧
          y.state = x.state ∧ y.group key = { g with state := .complete, stamp := ⟨d.now, 0⟩, acks := [] } ∧
          (∀ k, k ≠ key → y.group k = x.group k) ∧ Counted s t 0x6002 0 1) ∧
        (¬ (rPartial x.record = true ∧ rQuorum x.record ≤ g.round.added) →
          (x.state = .armed ∨ x.state = .active ∨ x.state = .faulted → ∃ t y, Runs c s t parts ∧ t.dev.ctxAt ctx = some y ∧
            y.state = .faulted ∧ y.fault = (if rPartial x.record then 2 else 1) ∧ Counted s t 0x6001 0 1 ∧
            ∀ k, (y.group k).state = .opened → (y.group k).clearing = true) ∧
          (x.state = .draining → ∃ t, Runs c s t parts ∧ Counted s t 0x6001 0 1 ∧
            ∀ y, t.dev.ctxAt ctx = some y → (y.group key).state = .opened → (y.group key).clearing = true)))) ∧
    (∀ n a h b x, d.holding = a ++ h :: b → h.crate = n → (∀ y ∈ a, y.crate ≠ n) → h.lane < 1024 → d.ctxAt h.ctx = some x →
      let e := h.frame.ext.getD {}
      ∃ t, Runs (.holdTimeExpiry n) s t [.contexts, .crates, .held, .holding, .lanes, .log, .nacks, .net, .nextHeld, .tele, .waits] ∧
        t.dev.holding = a ++ b ∧ t.dev.ctxAt h.ctx = some { x with refused := (x.refused + 1) % 2 ^ 64 } ∧
        Counted s t 0x6004 0 1 ∧
        (t.dev.nacks = d.nacks ++ [⟨h.lane, d.cnackFrame h.frame e .notArmed, ⟨h.time, h.frame.hdr.corr⟩⟩] ∨
          (t.dev.nacks = d.nacks ∧ ∃ y, t.dev.heldAt d.nextHeld = some y ∧ y.account = .result ∧ y.frame.hdr.opcode = 0x12 ∧
            y.frame.hdr.dst = h.frame.hdr.src ∧ y.frame.ext = (d.cnackFrame h.frame e .notArmed).ext ∧
            y.frame.payload = (d.cnackFrame h.frame e .notArmed).payload))) ∧
    (∀ ctx gen chunk,
      ∃ t, Runs (.upwardContributionTimeout ctx gen chunk) s t [.crates, .held, .lanes, .log, .nacks, .net, .nextHeld, .tele,
          .waits] ∧
        ∀ h < d.nextHeld, t.dev.heldAt h =
          if h ∈ d.upwardOf ctx (some (gen, chunk)) ∧ (d.heldAt h).any (·.gone) = true then none else d.heldAt h) ∧
    (∀ n ctx gen chunk port a b, d.FirstTo n Msg.isAbsent a (.memberAbsent n ctx gen chunk port) b →
      ∃ t, Runs (.memberAbsentNotice n) s t [.arb, .contexts, .crates, .net, .log, .tele] ∧ t.dev.net = a ++ b ∧
        match d.ctxAt ctx with
        | some x => if x.state = .parked then t.dev.contexts = d.contexts
            else t.dev.ctxAt ctx = some { x with absent := (x.absent + 1) % 2 ^ 64 } ∧
              t.dev.log = (d.raiseCtx 0x6003 ctx gen chunk port).log
        | none => t.dev.contexts = d.contexts)

/-- R81, R176 to R178, R184, R192, R239, R361 to R363: one group, from its emission to its release. -/
def Obligations.RoundsEndAndGroupsAreReleased : Prop :=
  (∀ (s : State) (ctx pos grp : Nat) (x : Context), On s → s.dev.ctxAt ctx = some x →
    let d := s.dev
    let key := groupKey pos grp
    let g := x.group key
    let r := x.record
    let parts := [Part.consumed, .contexts, .crates, .held, .lanes, .log, .net, .nextHeld, .shadows, .stackTab, .tele, .waits]
    let released := { ({} : Group) with next := some (d.chunkAfter r key g.gen g.ord), zeroing := g.zeroing }
    let done := (x.done.upd 0 g.gen (· + 1)).get 0 x.gc ≥ d.localChunks r
    (∀ shelf, let q := Dev.writeEmits ctx x key g g.emit none d
     let c := Instr.resultWritten ctx pos ⟨grp, shelf⟩
     let waits := d.cfg 0x6500 3 = 1 ∧ ∃ v, d.shadowOf ctx x key = some v ∧ v.own ≠ []
     let out := g.round.outputs r g.gen g.chunk (Config.unstatedPayload ctx g.gen g.chunk) (emitPlan r g.round.phase g.planB)
     (g.state = .complete → g.clearing = false →
       if shelf = true ∧ rSpilled r key = false then ∃ t, Runs c s t parts ∧
         (x.state = .armed ∨ x.state = .active → ∃ y, t.dev.ctxAt ctx = some y ∧ y.state = .faulted ∧ y.fault = 5 ∧
           (y.group key).state = .released)
       else ∃ (e : Dev) (y : Context), exec c s = exec (.resultWritten ctx pos ⟨grp, false⟩) { s with dev := e } ∧
         (∃ t, Runs c s t parts) ∧
         e.without [.contexts, .log, .shadows, .stackTab, .tele] = d.without [.contexts, .log, .shadows, .stackTab, .tele] ∧
         e.ctxAt ctx = some y ∧ (y.group key).state = .emitting ∧ (y.group key).round.pos = g.round.pos ∧
         (y.group key).emit = out.1.map (fun o => ⟨outputFrame r g.gen g.chunk x.upAlive o,
           ((emitPlan r g.round.phase g.planB).group + o.offset) % 65536⟩)) ∧
     (g.state = .complete ∧ g.clearing = true ∨ g.state = .opened ∨ g.state = .released ∨ (g.state = .emitting ∧ waits) →
       exec c s = .next s) ∧
     (g.state = .emitting → ¬ waits →
       (q.1 ≠ [] → ∃ t y, Runs c s t parts ∧ t.dev.ctxAt ctx = some y ∧ y.state = x.state ∧
         y.group key = { g with emit := q.1 } ∧ t.dev.nextHeld + q.1.length = d.nextHeld + g.emit.length) ∧
       (q.1 = [] → (∃ t, Runs c s t parts ∧ t.dev.nextHeld = d.nextHeld + g.emit.length) ∧
         (x.state ≠ .draining → ∃ t y, Runs c s t parts ∧ t.dev.ctxAt ctx = some y ∧
         match nextPhase g.round.phase, g.stale with
         | some ph, false => (y.group key).round.phase = ph ∧ y.full = x.full ∧
             ((y.group key).state = .opened ∨ (y.group key).state = .complete)
         | some _, true => (y.group key).state = .released ∧ (y.group key).next = g.next ∧ y.full = x.full
         | none, true => (y.group key).state = .released ∧ (y.group key).next = g.next
         | none, false => y.group key = released ∧ y.full = (if g.part then x.full else (x.full + 1) % 2 ^ 64) ∧
             y.gc = (if done then (x.gc + 1) % 256 else x.gc) ∧
             y.completed = if done then (x.completed + 1) % 2 ^ 64 else x.completed)))) ∧
    (let c := Instr.engineAcknowledgement ctx pos grp
     let failed := (d.stackTab.get {} (x.spillStack key)).status = .failed
     ∀ a rest, g.acks = a :: rest → g.state = .opened → g.clearing = false →
       (¬ failed → ∃ t y, Runs c s t [.contexts, .shadows, .tele] ∧ t.dev.ctxAt ctx = some y ∧ y.state = x.state ∧
         y.group key = if rest = [] ∧ g.round.filled r = true then { g with state := .complete, stamp := a, acks := [] }
           else { g with acks := rest }) ∧
       (failed → ∃ t, Runs c s t [.consumed, .contexts, .crates, .held, .lanes, .log, .shadows, .tele] ∧
         (x.state = .armed ∨ x.state = .active → ∃ y, t.dev.ctxAt ctx = some y ∧ y.state = .faulted ∧ y.fault = 4))) ∧
    (let c := Instr.spillGroupClearDone ctx pos grp
     (g.clearing = false → exec c s = .next s) ∧
     (g.clearing = true → x.state ≠ .draining → ∃ t y, Runs c s t [.contexts] ∧ t.dev.ctxAt ctx = some y ∧
       y.group key = (if g.stale then { ({} : Group) with next := g.next, zeroing := g.zeroing } else released) ∧
       ∀ k, k ≠ key → y.group k = x.group k)) ∧
    (let c := Instr.shelfSlotZeroed ctx pos grp
     let good := g.waiting.filter (fun w => !(d.struck w))
     (g.zeroing = 0 → exec c s = .next s) ∧
     (0 < g.zeroing → (1 < g.zeroing ∨ g.waiting = []) → ∃ t y, Runs c s t [.contexts] ∧ t.dev.ctxAt ctx = some y ∧
       y.group key = { g with zeroing := g.zeroing - 1 } ∧ ∀ k, k ≠ key → y.group k = x.group k) ∧
     (g.zeroing = 1 → g.waiting ≠ [] → d.nextChunk x key ≠ none → x.state = .armed ∨ x.state = .active →
       ∃ t y, Runs c s t [.consumed, .contexts, .crates, .held, .lanes, .log, .shadows, .stackTab, .tele] ∧
         t.dev.ctxAt ctx = some y ∧
         if good = [] then y.group key = { g with zeroing := 0, waiting := [] }
         else (y.group key).waiting = [] ∧ (y.group key).zeroing = 0 ∧
           ((y.group key).state = .opened ∨ (y.group key).state = .complete) ∧ (y.group key).round.added = good.length))) ∧
  ∀ (s : State) (ctx pos grp : Nat) (v : Shadow) (ms : List ShadowMsg) (a b : List Shadow), On s →
    let d := s.dev
    let key := groupKey pos grp
    let left := fun (l : List Shadow) => l.filter (fun z => !z.over_)
    d.shadows = a ++ v :: b → v.ctx = ctx → v.key = key →
    (∀ k, v.msgs = .copy k :: ms → (∀ z ∈ a, z.ctx = ctx → z.key = key → z.copyNext = false) →
      ∃ t, Runs (.shadowCopy ctx pos grp) s t [.arb, .crates, .shadows] ∧
        t.dev.shadows = left (a ++ { v with msgs := ms, round := (v.round.add v.record k).1 } :: b)) ∧
    (v.msgs = .notice :: ms → (∀ z ∈ a, z.ctx = ctx → z.key = key → z.noticeNext = false) →
      ∃ t w u, Runs (.shadowCompletionNotice ctx pos grp) s t [.arb, .crates, .shadows] ∧
        t.dev.shadows = left (a ++ w :: b) ∧ w.msgs = ms ∧ w.own = v.own ∧ w.theirs = v.theirs ++ [u] ∧
        u.operand = v.round.finger ∧
        (match nextPhase v.round.phase with
         | some ph => w.round.phase = ph ∧
             w.slots = if v.ended = true ∧ (∀ m ∈ ms, m ≠ .notice) then 0 else v.slots
         | none => w.slots = 0)) ∧
    (∀ p q own theirs m n, v.own = p :: own → v.theirs = q :: theirs →
      (∀ z ∈ a, z.ctx = ctx → z.key = key → z.comparable = false) →
      let q := { q with operand := q.operand ^^^ m % 2 ^ 64, result := q.result ^^^ n % 2 ^ 64 }
      ∃ t, Runs (.shadowValues ctx pos grp m n) s t (if d.cfg 0x6500 3 = 1
          then [.arb, .crates, .shadows, .inv, .shadowRecs, .draws, .log, .tele, .contexts, .lanes, .held, .nextHeld, .net, .waits,
            .consumed]
          else [.arb, .crates, .shadows, .inv, .shadowRecs, .draws, .log, .tele]) ∧
        if p = q then (t.dev.crate v.crate).shadowGood = ((d.crate v.crate).shadowGood + 1) % 2 ^ 64 ∧
          t.dev.inv = d.inv ∧ t.dev.log = d.log ∧ t.dev.shadowRecs = d.shadowRecs ∧ t.dev.contexts = d.contexts ∧
          t.dev.shadows = left (a ++ { v with own := own, theirs := theirs } :: b)
        else (t.dev.crate v.crate).shadowBad = ((d.crate v.crate).shadowBad + 1) % 2 ^ 64 ∧
          t.dev.suspect v.crate = true ∧ t.dev.suspect v.partner = true ∧
          t.dev.shadowRecs.length = min 16 (d.shadowRecs.length + 1) ∧ Counted s t 0x6023 0 1 ∧
          (d.cfg 0x6500 3 = 1 → ∀ x, d.ctxAt ctx = some x → x.state = .armed ∨ x.state = .active →
            (x.group key).state = .emitting → (x.group key).gen = v.gen → (x.group key).chunk = v.chunk →
            ∃ y, t.dev.ctxAt ctx = some y ∧ y.state = .faulted ∧ y.fault = 3 ∧ (y.group key).state = .released))

/-- R221 to R225: plans, derates and remaps. -/
def Obligations.PlansAndRemapsMove : Prop :=
  ∀ s : State, On s →
    let d := s.dev
    (∀ rest, d.due = .switch :: rest → ∃ e : Dev, (let r := settleDue s.nv e
        exec .planSwitch s = .next (s.setAll (catchUp r.1 r.2))) ∧
      e.without [.contexts, .log, .tele] = { d with due := rest }.without [.contexts, .log, .tele] ∧
      ∀ c, e.ctxAt c = (d.ctxAt c).map (fun x =>
        if x.switchDue = true ∧ x.override = none ∧ rPolicy x.record = 1 then
          { x with onB := !x.onB, hold := 0, switchDue := false, switches := (x.switches + 1) % 2 ^ 64 }
        else if x.switchDue then { x with switchDue := false } else x)) ∧
    (∀ ctx c v, (c = .planOverrideForceA ctx ∧ v = some false) ∨ (c = .planOverrideForceB ctx ∧ v = some true) ∨
        (c = .planOverrideReturn ctx ∧ v = none) →
      match d.ctxAt ctx with
      | none => exec c s = .next s
      | some x =>
        let y := { x with override := v, switchDue := false }
        if x.state = .parked ∨ (v = some true ∧ rTwo x.record = false) then exec c s = .next s
        else ∃ t, Runs c s t [.contexts, .log, .tele] ∧
          if y.planB = x.planB then t.dev.ctxAt ctx = some y ∧ t.dev.log = d.log
          else t.dev.ctxAt ctx = some { y with hold := 0, switches := (x.switches + 1) % 2 ^ 64 } ∧
            t.dev.log = (d.raiseCtx 0x6010 ctx x.gc (b2n y.planB)).log) ∧
    (∀ n v, let a := ad (0x6380 + n) 1
      (2 < v → exec (.combinerDerate n v) s = .next s) ∧
      (v ≤ 2 → ∃ t, Runs (.combinerDerate n v) s t [.inv, .crates] ∧ t.dev.inv = { d.inv with base := t.dev.inv.base } ∧
        t.dev.baseIn t.dev.inv.base a = v ∧ ∀ b, b ≠ a → t.dev.baseIn t.dev.inv.base b = d.baseIn d.inv.base b)) ∧
    (∀ n m, let a := ad (0x6380 + n) 2
      let c := Instr.combinerRemap n m
      (d.remapRefused n m = true → exec c s = .next s) ∧
      (d.remapRefused n m = false → m ≤ 127 ∨ m = 0xFF → m ≠ d.baseOf (0x6380 + n) 2 →
        ∃ t, Runs c s t [.inv, .contexts, .crates, .shadows, .log, .tele] ∧ t.dev.baseIn t.dev.inv.base a = m ∧
          (∀ b, b ≠ a → t.dev.baseIn t.dev.inv.base b = d.baseIn d.inv.base b) ∧
          (m = 0xFF → t.dev.contexts = d.contexts ∧ t.dev.log = d.log) ∧
          (m ≠ 0xFF → d.workOn n = [] → d.remapping n = false → t.dev.contexts = d.contexts ∧ Counted s t 0x6013 n 1) ∧
          (m ≠ 0xFF → ∀ ctx x p, (ctx, x, p) ∈ d.workOn n → (∀ w ∈ d.workOn n, w.1 = ctx → w = (ctx, x, p)) →
            d.ctxAt ctx = some x → (∀ v ∈ x.moving, v.1 ≠ p) →
            ∃ y, t.dev.ctxAt ctx = some y ∧ y.record = x.record ∧ ∀ k, k < 2 ^ 17 →
              y.crateAt (groupKey p k) = if x.groups.cells.any (fun q => decide (q.1 = groupKey p k) && q.2.busy)
                then x.crates.getD p 0 else m))) ∧
    (∀ ctx pos grp x m ks, d.ctxAt ctx = some x → (pos, m, ks) ∈ x.moving → (∀ v ∈ x.moving, v.1 = pos → v = (pos, m, ks)) →
      pos < x.crates.length → grp < 2 ^ 17 → grp ∈ ks →
      let c := Instr.remapGroupMove ctx pos grp
      ((x.group (groupKey pos grp)).busy = true → exec c s = .next s) ∧
      ((x.group (groupKey pos grp)).busy = false → ∃ t y, Runs c s t [.contexts, .log, .tele] ∧ t.dev.ctxAt ctx = some y ∧
        y.record = x.record ∧ (∀ k, y.group k = x.group k) ∧
        ∀ k, k < 2 ^ 17 → y.crateAt (groupKey pos k) = if k = grp then m else x.crateAt (groupKey pos k)))

/-- R250 to R256, Table 11-5: every way a ring loop changes its state. -/
def Obligations.RingLoopsMoveThroughTheirStates : Prop :=
  ∀ (s : State) (l : Nat) (drop : Bool), On s → l < 1024 →
    let d := s.dev
    let x := d.loop l drop
    let cal := s.nv.calibration.get ringCalibration (ringOf l drop)
    let fails := fun (t : Tones) (temp : Int) => d.verifyFault cal x.heater t temp
    let still := { x with cands := [], badRun := 0, reverify := false, reverifyDue := false }
    let faulted := fun (c : Instr) (t : State) => LoopTo c s t l drop { still with state := .fault, heater := 0 } ∧
      Counted s t 0x3001 l 1
    (let ready := x.state = .off ∧ d.loopsOff l = false ∧ (d.hatch (hatchOfLane l)).started = true ∧
      (d.hatch (hatchOfLane l)).warm = true ∧ (d.chute (hatchOfLane l)).read = true ∧ (drop = true ∨ d.fedByLaser l = true)
     (¬ ready → exec (.loopSweepStart l drop) s = .next s) ∧
     (ready → ∃ t, LoopTo (.loopSweepStart l drop) s t l drop { x with state := .sweep, heater := 0 })) ∧
    (∀ cands temp, let c := Instr.sweepEnd l drop cands temp
      (x.state ≠ .sweep → exec c s = .next s) ∧
      (x.state = .sweep → cands = [] → ∃ t, faulted c t) ∧
      (x.state = .sweep → cands ≠ [] → ∃ t p rest, LoopTo c s t l drop { x with state := .acquire, heater := p, cands := rest } ∧
        rest.length + 1 = min 3 cands.length ∧ p ∈ cands.map (min 48000) ∧
        ∀ q ∈ cands, heaterOff (expected16 cal temp) p ≤ heaterOff (expected16 cal temp) (min 48000 q))) ∧
    (∀ p, let c := Instr.acquireEnd l drop p
      if x.state = .acquire then ∃ t, LoopTo c s t l drop { x with state := .verify, heater := min 48000 p }
      else exec c s = .next s) ∧
    (∀ tones temp, let c := Instr.verifyEnd l drop tones temp
      (x.state ≠ .verify → exec c s = .next s) ∧
      (x.state = .verify → match fails tones temp, x.cands with
        | none, _ => ∃ t, LoopTo c s t l drop { still with
            state := .track, pred := d.predicted l drop, rate := 0, rest := 0, atLimit := false }
        | some code, p :: rest => ∃ t, LoopTo c s t l drop { x with state := .acquire, heater := p, cands := rest } ∧
            Counted s t code l 1
        | some code, [] => ∃ t, faulted c t ∧ Counted s t code l 1)) ∧
    (∀ f detuned, let c := Instr.trackUpdate l drop f detuned
      (x.state ≠ .track → x.state ≠ .hold → exec c s = .next s) ∧
      let rate := d.predicted l drop - x.pred
      let total := if d.cfg 0x3000 4 = 1 then x.rest - rate * (cal % 2 ^ 16 : Nat) else 0
      let v : Int := x.heater + f + total / 65536
      let steady := decide (d.cfg 0x3000 4 = 0 ∨ rate.natAbs * 1000 ≤ 5 * 65536)
      let y := { x with pred := d.predicted l drop, rate := rate, rest := total % 65536 }
      (x.state = .track → ∃ t, LoopTo c s t l drop { y with
          heater := if v ≤ 0 then 0 else min 48000 v.toNat, badRun := if detuned then x.badRun + 1 else 0
          reverify := x.reverify || (x.reverifyDue && steady), reverifyDue := x.reverifyDue && !steady
          atLimit := decide (v ≤ 0 ∨ v ≥ 48000) } ∧
        Counted s t 0x3005 l (if (v ≤ 0 ∨ 48000 ≤ v) ∧ x.atLimit = false then 1 else 0)) ∧
      (x.state = .hold → ∃ t, LoopTo c s t l drop { y with heater := clampHeater (x.heater + total / 65536) })) ∧
    (let c := Instr.ringLostLock l drop
     if x.state = .track ∧ 16 ≤ x.badRun then ∃ t, LoopTo c s t l drop { still with state := .acquire } ∧ Counted s t 0x3004 l 1
     else exec c s = .next s) ∧
    (let c := Instr.reverification l drop
     let fast := d.cfg 0x3000 4 = 1 ∧ 5 * 65536 < x.rate.natAbs * 1000
     if x.state = .track ∧ x.reverify = false then
       ∃ t, LoopTo c s t l drop (if fast then { x with reverifyDue := true } else { x with reverify := true, reverifyDue := false })
     else exec c s = .next s) ∧
    (∀ tones temp, let c := Instr.reverificationEnd l drop tones temp
      (x.state ≠ .track ∨ x.reverify = false → exec c s = .next s) ∧
      (x.state = .track → x.reverify = true → match fails tones temp with
        | none => ∃ t, LoopTo c s t l drop { x with reverify := false }
        | some code => ∃ t, LoopTo c s t l drop { still with state := .acquire } ∧ Counted s t code l 1)) ∧
    (let dark := drop = true ∨ bit (d.module (moduleOfLane l)).failed (laneIn l) = true ∨ (d.module (moduleOfLane l)).status = 0
     ∃ t, LoopTo (.lightLost l drop) s t l drop
        (if x.state = .track then { still with state := if dark then .hold else .acquire }
         else if dark ∧ (x.state = .acquire ∨ x.state = .verify) then
           { still with state := .hold, pred := d.predicted l drop, rate := 0, rest := 0 }
         else x) ∧ Counted s t 0x3004 l (if x.state = .track ∧ ¬ dark then 1 else 0) ∧
      (drop = true → (t.dev.optics l).light = false ∧ (t.dev.optics l).status = 0)) ∧
    (∃ t, LoopTo (.lightReturned l drop) s t l drop
        (if x.state = .hold ∧ (drop = true ∨ d.fedByLaser l = true) then { x with state := .acquire, cands := [] } else x) ∧
      (drop = true → (t.dev.optics l).light = true)) ∧
    (if x.state = .hold then ∃ t, LoopTo (.holdLimitExpiry l drop) s t l drop { x with state := .sweep, heater := 0 }
     else exec (.holdLimitExpiry l drop) s = .next s) ∧
    (if x.state = .fault then ∃ t, LoopTo (.faultRetry l drop) s t l drop { x with state := .sweep, heater := 0 }
     else exec (.faultRetry l drop) s = .next s)

/-- R257 to R261, R269, R412: laser modules. -/
def Obligations.LaserModulesAndTheirSpares : Prop :=
  ∀ (s : State) (m k : Nat), On s → m < 16 → k < 8 →
    let d := s.dev
    let x := d.module m
    let dark := fun (t : State) (k : Nat) => ∀ l ∈ channelLanes m k,
      (t.dev.loop l false).state ≠ .track ∧ (t.dev.loop l false).state ≠ .acquire ∧ (t.dev.loop l false).state ≠ .verify
    let only := fun (t : State) => ∀ n, n ≠ m → t.dev.module n = d.module n
    let parts := [Part.lanes, .ports, .crates, .hatches, .modules, .held, .net, .log, .tele]
    (let c := Instr.laserModuleInserted m
     if x.present = true then exec c s = .next s
     else ∃ t, Runs c s t [.modules] ∧ only t ∧ t.dev.module m = if d.atticRuns = true ∧ 8 ≤ d.attic.bootStep
       then { status := 2, enable := true, present := true, line := x.line } else { x with present := true, status := 1 }) ∧
    (let c := Instr.laserModuleRemoved m
     if x.present = false then exec c s = .next s
     else ∃ t, Runs c s t parts ∧ only t ∧ t.dev.module m = { line := List.replicate 8 darkPower } ∧ Counted s t 0x3014 m 1 ∧ ∀ k < 8, dark t k) ∧
    (let c := Instr.laserModuleFault m
     if x.present = false then exec c s = .next s
     else if d.atticRuns = true then ∃ t, Runs c s t [.modules, .log, .tele] ∧ only t ∧
       t.dev.module m = { x with status := 3, alarm := false } ∧ Counted s t 0x3014 m 1
     else ∃ t, Runs c s t [.modules] ∧ only t ∧ t.dev.module m = { x with alarm := true }) ∧
    (∃ t, Runs (.laserChannelFailed m k) s t parts ∧ only t ∧ Counted s t 0x3010 m 1 ∧ dark t k ∧
      let y := t.dev.module m
      let busy := x.sparing.any (fun p => decide (p.1 = k)) = true
      y.failed = setBit x.failed k ∧ y.line = listSet x.line k darkPower ∧
      y.waiting = (if (bit x.failed k = false ∨ x.carrier k ≠ none) ∧ (¬ busy ∨ x.carrier k ≠ none)
        then x.waiting.filter (fun j => decide (j ≠ k)) ++ [k] else x.waiting) ∧
      (∀ sp, x.carrier k = some sp → y.spare sp = ⟨.failed, k⟩) ∧
      ((∀ sp, x.sparing = some (k, sp, .relocking) → x.carrier k ≠ none) → k < x.source.length → y.source[k]? = some 0xFF)) ∧
    (let c := Instr.sparing m;
      (d.spareNext m = none ∨ x.sparing ≠ none ∨ d.atticRuns = false ∨ x.status = 0 → exec c s = .next s) ∧
      (d.spareNext m = some k → x.sparing = none → d.atticRuns = true → x.status ≠ 0 →
        ∃ t, Runs c s t [.modules, .log, .tele] ∧ only t ∧
          let y := { x with waiting := x.waiting.filter (fun j => decide (j ≠ k)), disabled := setBit x.disabled k }
          if x.spareA.state = .parked then t.dev.module m = { y with spareA := ⟨.tuning, k⟩, sparing := some (k, 0, .tuning) }
          else if x.spareB.state = .parked then t.dev.module m = { y with spareB := ⟨.tuning, k⟩, sparing := some (k, 1, .tuning) }
          else t.dev.module m = { y with commanded := clearBit x.commanded k } ∧ Counted s t 0x3012 m 1)) ∧
    (∀ sp, (x.sparing = some (k, sp, .tuning) → d.atticRuns = true → ∃ t, Runs (.spareTuned m) s t [.modules] ∧ only t ∧
        t.dev.module m = { x with sparing := some (k, sp, .verifying) }) ∧
      (x.sparing = some (k, sp, .verifying) → ∃ t, Runs (.selectorVerified m) s t parts ∧ only t ∧
        (t.dev.module m).spare sp = ⟨.active, k⟩ ∧
        (∀ l ∈ channelLanes m k, t.dev.loop l false = if (d.loop l false).state = .hold
          then { d.loop l false with state := .acquire, cands := [] } else d.loop l false) ∧
        ((∃ l ∈ channelLanes m k, (d.loop l false).state = .hold) → (t.dev.module m).sparing = some (k, sp, .relocking)) ∧
        (d.atticRuns = true → (∀ l ∈ channelLanes m k, (d.loop l false).settled = true) → (t.dev.module m).sparing = none ∧ Counted s t 0x3011 m 1 ∧
          (k < x.source.length → (t.dev.module m).source[k]? = some (8 + sp))))) ∧
    (let free := x.sparing.all (fun p => bit x.commanded p.1) = true
     (let c := Instr.spareCommandSpare m k
      if free ∧ bit x.failed k = true then ∃ t, Runs c s t [.modules] ∧ only t ∧
        t.dev.module m = { x with commanded := setBit x.commanded k, waiting := k :: x.waiting.filter (fun j => decide (j ≠ k)) }
      else exec c s = .next s) ∧
     (let c := Instr.spareCommandReturn m k
      match x.carrier k with
      | none => exec c s = .next s
      | some sp => if ¬ free then exec c s = .next s
        else if d.atticRuns = true then ∃ t, Runs c s t parts ∧ only t ∧ dark t k ∧
          (t.dev.module m).failed = clearBit x.failed k ∧ (t.dev.module m).disabled = clearBit x.disabled k ∧
          (t.dev.module m).spare sp = {} ∧
          ((∀ j q, x.sparing ≠ some (j, q, .relocking)) → t.dev.module m = { x.putSpare sp {} with
            failed := clearBit x.failed k, disabled := clearBit x.disabled k, source := listSet x.source k k
            sparing := match x.sparing with | some (j, q, g) => if j = k then none else some (j, q, g) | none => none })
        else ∃ t, Runs c s t [.modules] ∧ only t ∧ t.dev.module m = { x with returns := x.returns ++ [k] })) ∧
    (∀ powers eol, ∃ t, Runs (.biasControl m powers eol) s t [.modules, .log, .tele] ∧ only t ∧
      let y := t.dev.module m
      let tuning := match x.sparing with | some (_, _, .tuning) => true | _ => false
      y = { x with line := (List.range 8).map (fun j => powers.getD j 0 % 65536), bias := y.bias } ∧
      if d.cfg 0x3000 0x0D = 0 ∨ d.atticRuns = false ∨ x.status ≠ 2 ∨ tuning = true then y.bias = x.bias ∧ t.dev.log = d.log
      else Counted s t 0x3013 m (setBits 8 eol).length ∧ ∀ j < 8,
        let p := toSigned 16 (powers.getD j 0 % 65536)
        let target := toSigned 32 (d.cfg (0x3020 + m) 4)
        y.bias.getD j 0 = x.bias.getD j 0 +
          if p < target - 30 then (if bit eol j then 0 else 1) else if p > target + 30 then -1 else 0)

/-- R256, R267, R268, R409: what the optics are watched for. -/
def Obligations.LanesAndHatchesAreMonitored : Prop :=
  ∀ (s : State) (l h : Nat), On s → l < 1024 → h < 8 →
    let d := s.dev
    let o := d.optics l
    let only := fun (t : State) => (∀ m, m ≠ l → t.dev.lane m = d.lane m) ∧
      t.dev.lane l = { d.lane l with optics := t.dev.optics l }
    (∀ power, let p := toSigned 16 power
      let w := toSigned 32 (d.cfg 0x3000 0x0A)
      let a := toSigned 32 (d.cfg 0x3000 0x0B)
      ∃ t, Runs (.receivedPowerMeasurement l power) s t [.lanes, .log, .tele] ∧ only t ∧
        t.dev.optics l = { o with power := power % 65536, warn := decide (p < w ∨ (o.warn = true ∧ p < w + 50))
                                  alarm := decide (p < a ∨ (o.alarm = true ∧ p < a + 50)) } ∧
        Counted s t 0x3020 l (if p < w ∧ o.warn = false then 1 else 0) ∧
        Counted s t 0x3021 l (if p < a ∧ o.alarm = false then 1 else 0)) ∧
    (∀ cw corr unc bits rec, let reach := fun q => rec ≠ 0 ∧ q * d.berLimit l * rec ≤ bits * 10 ^ 18 * 256
      ∃ t, Runs (.errorMonitorInterval l cw corr unc bits rec) s t [.lanes, .log, .tele] ∧ only t ∧
        t.dev.optics l = { o with
          codewords := (o.codewords + cw) % 2 ^ 64, corrected := (o.corrected + corr) % 2 ^ 64
          uncorrectable := (o.uncorrectable + unc) % 2 ^ 64, corrBits := (o.corrBits + bits) % 2 ^ 64
          ber := (if rec = 0 then 0 else bits * 10 ^ 18 / rec) % 2 ^ 64 } ∧
        (reach (d.cfg 0x3000 7) → Counted s t 0x3022 l 1) ∧ (reach (d.cfg 0x3000 8) → Counted s t 0x3023 l 1) ∧
        (d.cfg 0x3000 9 ≤ unc → Counted s t 0x3024 l 1)) ∧
    (∀ temps, let v := (List.range 4).map (fun i => temps.getD i 0 % 65536)
      let warm := v.all (fun q => decide (toSigned 16 q ≥ 560))
      let quiet := (hatchLanes h).all d.laneSettled
      ∃ t, Runs (.hatchSensorReading h temps) s t [.hatches, .log, .tele] ∧ (∀ j, j ≠ h → t.dev.hatch j = d.hatch j) ∧
        t.dev.hatch h = { d.hatch h with
          sensors := v, warm := warm, calibrated := (d.hatch h).calibrated || ((d.hatch h).started && warm && quiet) } ∧
        t.dev.log = (if v.any (fun q => decide (toSigned 16 q > 1520)) then d.raise 0x3040 h else d).log) ∧
    (if (d.hatch h).started = true ∧ (d.hatch h).warm = false then
       ∃ t, Runs (.hatchWarmUpTimeout h) s t [.log, .tele] ∧ t.dev.log = (d.raise 0x3040 h).log ∧ Counted s t 0x3040 h 1
     else exec (.hatchWarmUpTimeout h) s = .next s) ∧
    (∀ n power, ∃ t, Runs (.activityWord n power) s t [.hatches] ∧ (∀ j, j ≠ hatchOf n → t.dev.hatch j = d.hatch j) ∧
      t.dev.hatch (hatchOf n) = { d.hatch (hatchOf n) with activity := (t.dev.hatch (hatchOf n)).activity } ∧
      ∀ i, (t.dev.hatch (hatchOf n)).activity.get 0 i = if i = n % 16 then power else (d.hatch (hatchOf n)).activity.get 0 i)

/-- R231, R232, R240 to R244, Table 10-2. -/
def Obligations.CellarErrorsHaveTheirOutcome : Prop :=
  ∀ (s : State) (k : Nat), On s → k < 12 →
    let d := s.dev
    let x := d.stack k
    let parts := [Part.attic, .atticWaits, .consumed, .contexts, .crates, .flows, .held, .holding, .inv, .lanes, .log, .modules,
      .nacks, .net, .nextHeld, .ports, .shadows, .stackTab, .tele, .time, .waits]
    let moved := { x with
      scrubAt := if 2 ^ 29 ≤ x.scrubAt + 1 then 0 else x.scrubAt + 1
      passes := if 2 ^ 29 ≤ x.scrubAt + 1 then (x.passes + 1) % 2 ^ 64 else x.passes }
    let awake := d.attic.state ≠ .restarting ∧ d.attic.state ≠ .off
    (∀ ecc hit, let c := Instr.scrub k ecc hit
      (x.status ≠ .ready → exec c s = .next s) ∧
      (x.status = .ready → ecc = 0 → ∃ t, Runs c s t [.stackTab] ∧ t.dev.stack k = moved ∧
        ∀ j, j ≠ k → t.dev.stack j = d.stack j) ∧
      (x.status = .ready → ecc = 1 → ∃ t, Runs c s t [.stackTab, .attic, .log, .tele] ∧
        t.dev.stack k = { moved with corrected := (x.corrected + 1) % 2 ^ 64 } ∧ (∀ j, j ≠ k → t.dev.stack j = d.stack j) ∧
        t.dev.log = (d.raise 0x9001 k (partitionAt (d.partitions k) 0 (64 * x.scrubAt)).1 (64 * x.scrubAt)).log) ∧
      (x.status = .ready → ecc = 2 → x.scrubAt < 2 ^ 29 → ∃ e : Dev, e.without [.stackTab] = d.without [.stackTab] ∧
        e.stack k = moved ∧ exec c s = exec (.cellarUncorrectableError k (64 * x.scrubAt) hit) (s.setDev e))) ∧
    (∀ addr hit, let c := Instr.cellarUncorrectableError k addr hit
      let p := partitionAt (d.partitions k) 0 (addr / 64 * 64)
      let place := interleaved k p.2
      (x.status ≠ .ready ∨ 2 ^ 35 ≤ addr → exec c s = .next s) ∧
      (x.status = .ready → addr < 2 ^ 35 → ∃ t, Runs c s t parts ∧ Counted s t 0x9002 k 1 ∧
        (t.dev.stack k).fatal = (x.fatal + 1) % 2 ^ 64 ∧ (t.dev.stack k).status = .ready ∧
        (p.1 = 0 → awake → t.dev.attic.state = .restarting ∧ t.dev.inv.trans = [] ∧ t.dev.attic.sessions = [] ∧
          Counted s t 0xC003 0 1) ∧
        (p.1 = 1 → t.dev.flows.get {} (place / 64) = { d.flows.get {} (place / 64) with poison := true } ∧
          (∀ i, i ≠ place / 64 → t.dev.flows.get {} i = d.flows.get {} i) ∧ t.dev.contexts = d.contexts ∧
          (∀ n, (t.dev.path n).cache = (d.path n).cache.map (fun q =>
            if q.1 = place / 64 then (q.1, { q.2 with poison := true }) else q)) ∧
          Counted s t 0x9004 (flowStack (place / 64)) 1) ∧
        (p.1 = 2 → ∀ ctx y, (ctx, y) ∈ d.ctxs → y.state = .parked → y.template = place / 2048 →
          (∀ q ∈ d.ctxs, q.2.state = .parked → q.2.template = place / 2048 → q.1 = ctx) →
          t.dev.ctxAt ctx = none ∧ (∀ j, j ≠ ctx → t.dev.ctxAt j = d.ctxAt j) ∧ Counted s t 0x9006 k 1) ∧
        (p.1 = 3 → t.dev.without [.stackTab, .log, .tele] = d.without [.stackTab, .log, .tele]) ∧
        (p.1 = 4 → (∀ h y, hit = .frame h → d.heldAt h = some y → d.evictedTo h k = true →
            t.dev.heldAt h = some { y with bad := true } ∧ Purged t.dev h) ∧
          (∀ l, l < 1024 → hit = .replay l → d.isRing l = true → replayStack l = k →
            (t.dev.lane l).rx.lock = false ∧ (t.dev.lane l).tx.replay = [] ∧ Counted s t 0x2033 l 1)) ∧
        (p.1 = 5 → ∀ ctx key y, d.spillGroupAt k (d.spillSize k - p.2 / 1024 - 1) = some (ctx, key) → d.ctxAt ctx = some y →
          y.state = .armed ∨ y.state = .active →
          ∃ z, t.dev.ctxAt ctx = some z ∧ z.state = .faulted ∧ z.fault = 4))) ∧
    (let c := Instr.stackFailed k
     (x.status = .failed → exec c s = .next s) ∧
     (x.status ≠ .failed → ∃ t, Runs c s t parts ∧ t.dev.stack k = { x with status := .failed } ∧ Counted s t 0x9003 k 1 ∧
       (∀ ctx y, (ctx, y) ∈ d.ctxs → y.state = .parked → templateStack y.template = k →
         (∀ q ∈ d.ctxs, q.2.state = .parked → q.2.template = y.template → q.1 = ctx) → t.dev.ctxAt ctx = none) ∧
       (∀ ctx y key, d.ctxAt ctx = some y → y.state = .armed ∨ y.state = .active → (ctx, key) ∈ d.spillKeys k →
         (y.group key).state ≠ .released → ∃ z, t.dev.ctxAt ctx = some z ∧ z.state = .faulted ∧ z.fault = 4) ∧
       (∀ n i f, (i, f) ∈ (t.dev.path n).cache → flowStack i = k → f.poison = true) ∧
       (∀ q ∈ t.dev.tele.ring, q.valid = false) ∧
       (∀ l, d.cellarStore l = true → (d.isRing l = true ∧ replayStack l = k) ∨ ringsTouch (d.laneCfg 0x9100 l) k = true →
         (t.dev.lane l).rx.lock = false) ∧
       (k < 2 → awake → t.dev.attic.state = .restarting)))

/-- R272 to R278: a Chute, from its map to its cells and back. -/
def Obligations.ChutesProgrammeTheirCells : Prop :=
  ∀ (s : State) (h : Nat), On s → h < 8 →
    let d := s.dev
    let a := ad (0x3400 + h) 1
    let x := d.chute h
    let n := s.nv.chute h
    let worn := (n.pulses.cells.filter (fun p => decide (p.2 ≥ 900000 ∧ p.1 ∉ n.worn))).map (·.1)
    let wears := fun (t : State) => (t.nv.chute h).worn = n.worn ++ worn ∧ (t.nv.chute h).pulses = n.pulses ∧
      ∀ y, Counted s t 0x3033 (256 * h + y) (worn.filter (fun z => decide (z = y))).length
    let parts := [Part.chutes, .crates, .hatches, .held, .lanes, .log, .modules, .net, .ports, .tele]
    (∀ map, let c := Instr.chuteMapWrite h map
      if d.attic.holding = true ∨ (d.chuteWriteFault [(a, map)]).isSome = true ∨ (d.setBase a map).chuteFault.isSome = true then exec c s = .next s
      else mapDoubles map = false ∧ ∃ t, Runs c s t [.chutes, .inv] ∧ (∀ j, j ≠ h → t.dev.chute j = d.chute j) ∧
        t.dev.chute h = { x with programming := true, pulsed := none, missed := [] } ∧
        t.dev.baseIn t.dev.inv.base a = map ∧ ∀ b, b ≠ a → t.dev.baseIn t.dev.inv.base b = d.baseIn d.inv.base b) ∧
    (let map := d.baseOf (0x3400 + h) 1
     let busy := (pairLanes h (mapPairs map)).any (fun l => (d.egress l).cur.isSome)
     (∀ first again, d.attic.holding = true ∨ x.programming = false ∨ x.pulsed ≠ none ∨ busy = true →
       exec (.chuteProgrammeStart h first again) s = .next s) ∧
     (d.attic.holding = false → x.programming = true → x.pulsed = none → busy = false → mapDoubles map = false →
         n.cells.wf .clear = true →
       ∃ t, exec (.chuteProgrammeStart h [] []) s = .next t ∧ t.pending = s.pending ∧
         t.dev.without parts = d.without parts ∧ t.nv = { s.nv with chutes := t.nv.chutes } ∧
         (∀ j, j ≠ h → t.nv.chute j = s.nv.chute j) ∧
         (∀ y, let target := if y ∈ mapTargets map then Cell.set else .clear
           (t.nv.chute h).cell y = target ∧
           (t.nv.chute h).pulses.get 0 y = n.pulses.get 0 y + if n.cell y = target then 0 else 1) ∧
         (t.dev.chute h).missed = [] ∧ (t.dev.chute h).withheld = [] ∧ (t.dev.chute h).pulsed ≠ none ∧
         (t.dev.chute h).used = x.used ||| usedPairs (t.nv.chute h).cells.cells)) ∧
    (let c := Instr.chuteProgrammeEnd h
     (x.programming = false ∨ x.pulsed = none → exec c s = .next s) ∧
     (x.programming = true → x.pulsed ≠ none → ∃ t, exec c s = .next t ∧ t.pending = s.pending ∧
       t.dev.without parts = d.without parts ∧ t.nv = { s.nv with chutes := t.nv.chutes } ∧
       (∀ j, j ≠ h → t.nv.chute j = s.nv.chute j) ∧
       (∀ y, (t.nv.chute h).cell y = if y ∈ x.missed then .failed else n.cell y) ∧ wears t ∧
       (let bad := !x.missed.isEmpty || !x.withheld.isEmpty
        t.dev.chute h = { x with programming := false, pulsed := none, missed := [], degraded := bad
                                 used := usedPairs (t.nv.chute h).cells.cells } ∧
        Counted s t 0x3030 h (if bad then 0 else 1)))) ∧
    (let c := Instr.chutePowerGoodRead h
     let cells := n.cells.cells
     if x.read = true then exec c s = .next s
     else ∃ t, exec c s = .next t ∧ t.pending = s.pending ∧
       t.dev.without [.chutes, .inv, .log, .tele] = d.without [.chutes, .inv, .log, .tele] ∧
       t.nv = { s.nv with chutes := t.nv.chutes } ∧ (∀ j, j ≠ h → t.nv.chute j = s.nv.chute j) ∧
       (t.nv.chute h).cells = n.cells ∧ wears t ∧ t.dev.chute h = { x with used := usedPairs cells, read := true } ∧
       t.dev.baseIn t.dev.inv.base a = mapOfCells cells ∧
       ∀ y, Counted s t 0x3032 (256 * h + y) (cells.filter (fun p => decide (p.2 = .uncertain ∧ p.1 = y))).length)

/-- R81, R107, R288, R355, R356, R363, R367: the services of the Attic and the frames it sends. -/
def Obligations.TheAtticServesWritesAndSends : Prop :=
  ∀ s : State, On s →
    let d := s.dev
    let runs := d.atticRuns = true
    (∀ n v, n < 128 → let c := Instr.crateHealthStateWrite n v
      (¬ runs ∨ 2 ≤ v ∨ d.imm (0x6580 + n) 2 = v → exec c s = .next s) ∧
      (runs → v ≤ 1 → d.imm (0x6580 + n) 2 ≠ v → ∃ t, Runs c s t [.inv, .log, .tele] ∧
        t.dev.inv = { d.inv with imm := t.dev.inv.imm } ∧ t.dev.imm (0x6580 + n) 2 = v ∧
        (∀ i j, ad i j ≠ ad (0x6580 + n) 2 → t.dev.imm i j = d.imm i j) ∧
        t.dev.log = (d.raise 0x6024 n v).log ∧ Counted s t 0x6024 n 1)) ∧
    (∀ q, let c := Instr.acknowledge q
      (¬ runs ∨ seqAfter q d.log.latest = true → exec c s = .next s) ∧
      (runs → seqAfter q d.log.latest = false →
        ∃ t, Runs c s t [.log] ∧ t.dev.log = { d.log with acked := q })) ∧
    (∀ id v, let c := Instr.noticeSubscription id v
      (¬ runs ∨ 4 < v → exec c s = .next s) ∧
      (runs → v ≤ 4 → ∃ t, Runs c s t [.attic] ∧ t.dev.attic = { d.attic with sessions := t.dev.attic.sessions } ∧
        (∀ j, j ≠ id → t.dev.session j = d.session j) ∧
        t.dev.session id = (d.session id).map (fun x => { x with
          notices := if v = 4 then none else some v
          noticed := if x.notices.isSome = true then x.noticed else d.log.latest }))) ∧
    (∀ id, let c := Instr.notice id
      (¬ runs ∨ d.session id = none → exec c s = .next s) ∧
      ∀ x, d.session id = some x →
        let recs := match x.notices with
          | none => []
          | some v => (d.log.recs.reverse.filter (fun e => seqAfter e.seq x.noticed && decide (v ≤ e.sev))).take 84
        (x.isOpen = false ∨ recs = [] → exec c s = .next s) ∧
        ∀ e, runs → x.isOpen = true → recs.getLast? = some e →
          let m : Message := ⟨0x90, 0, 0, recs.length, .notice recs⟩
          ∃ t, Runs c s t [.crates, .log, .attic, .tele, .held, .nextHeld, .net, .waits, .out, .atticWaits] ∧
            t.dev.out = .message x.src x.lane id m (d.sealMessage x.src x.lane id m) :: d.out ∧
            (∀ j, j ≠ id → t.dev.session j = d.session j) ∧
            t.dev.session id = { x with noticed := e.seq }.afterSend) ∧
    (∀ n, n < 128 → let c := Instr.portGroupReset n
      (¬ runs ∨ d.resetting n = true → exec c s = .next s) ∧
      (runs → d.resetting n = false → ∃ e : Dev, exec c s = .next (s.setDev (e.raise 0x2050 n)) ∧
        (let ps := [Part.crates, .held, .lanes, .log, .net, .ports, .tele]; e.without ps = d.without ps) ∧
        (e.crate n).stamps = [] ∧ (e.crate n).resetFrom = some d.time.ran ∧
        ∀ l, crateOf l = n → (e.lane l).rx.lock = false ∧ (e.lane l).tx.replay = [] ∧ (e.lane l).rx.staged = [] ∧
          (e.lane l).rx.rx = none ∧ ∀ vc, (e.ring l vc).runs = [])) ∧
    ∀ f lane stamp ins, let c := Instr.atticSend f lane stamp ins
      let g := if f.raw = true then f else d.originate f f.hdr.corr
      let y : Held := { frame := g, crate := 0, lane := none, vc := 2 * f.hdr.tc, account := .attic, start := d.now
                        whole := true, stampTag := stamp, insert := ins }
      let parts := [Part.crates, .held, .log, .net, .nextHeld, .tele, .waits]
      let stored := fun (t : State) (z : Held) => t.dev.heldAt d.nextHeld = some z ∧
        (∀ h, h ≠ d.nextHeld → t.dev.heldAt h = d.heldAt h) ∧
        (t.dev.path 0).attic = (d.path 0).attic + cellsOf f.flits
      let towards := fun (l : Nat) => ∃ t, Runs c s t parts ∧ stored t y ∧
        if d.waits.any (fun w => decide (w.holder = 0 ∧ w.egress = crateOf l ∧ w.vc = y.vc)) = true then
          t.dev.waits = d.waits ++ [⟨0, crateOf l, y.vc, d.nextHeld, some l, false, false⟩] ∧ t.dev.net = d.net
        else t.dev.net = d.net ++ [.desc d.nextHeld l false] ∧ t.dev.waits = d.waits
      let lost := fun (code : Nat) => ∃ t, Runs c s t parts ∧ t.dev.held = d.held ∧ t.dev.net = d.net ∧
        Counted s t code 0 1 ∧ Counted s t (0x5E01 + f.hdr.tc) 0 1
      let goes := fun (k : Option Nat) => match k with | some l => towards l | none => lost 0x5011
      let free := d.cfg 0x4000 4 - (d.path 0).attic
      (¬ runs ∨ f.hdr.tc = 6 → exec c s = .next s) ∧
      (runs → f.hdr.tc ≠ 6 → d.atticWaits ≠ [] ∨ free < cellsOf f.flits →
        ∃ t, Runs c s t [.atticWaits] ∧ t.dev.atticWaits = d.atticWaits ++ [⟨f, lane, stamp, ins⟩]) ∧
      (runs → f.hdr.tc ≠ 6 → d.atticWaits = [] → cellsOf f.flits ≤ free →
        match lane with
        | some l => towards l
        | none => match d.atticRoute f.hdr.dst with
          | .discard code => lost code
          | .port p => goes (d.pickLane 0 p).1
          | .ring dir grp _ => goes (d.pickRing 0 dir grp f.hdr.dst).1
          | .pair q =>
            let z := { y with mrec := some ⟨128, 0, 2 * q + 1, 0, some (2 * q), false⟩ }
            ∃ t, Runs c s t parts ∧ stored t z ∧ GoesToAll d d.nextHeld z t.dev)

/-- R306 to R309, R324 to R327, R350: the requests of the Inventory Access Protocol but for COMMIT and CANCEL. -/
def Obligations.RequestsAreServed : Prop :=
  ∀ s : State, On s →
    let d := s.dev
    let kept := fun (t : State) => t.dev.attic = { d.attic with sessions := t.dev.attic.sessions } ∧
      t.dev.inv = { d.inv with stored := t.dev.inv.stored, trans := t.dev.inv.trans, lastTrans := t.dev.inv.lastTrans }
    let answered := fun (c : Instr) (p : Peer) (m : Message) (t : State) =>
      Runs c s t (.inv :: mailParts) ∧ kept t ∧ Answers d p m t.dev
    let same := fun (t : State) => t.dev.inv.trans = d.inv.trans ∧ t.dev.inv.lastTrans = d.inv.lastTrans
    (∀ p c, Asks c p →
      (d.atticRuns = false → exec c s = .next s) ∧
      (d.atticRuns = true → d.sessionOpen p.session = false → ∃ t, Runs c s t [.attic, .log, .tele] ∧
        (∀ j, j ≠ p.session → t.dev.session j = d.session j) ∧ Counted s t 0xB004 0 1) ∧
      (d.atticRuns = true → d.sessionOpen p.session = true → p.version ≠ 1 → ∃ t, Runs c s t [.tele] ∧ Counted s t 0xBE01 0 1) ∧
      (d.atticRuns = true → d.sessionOpen p.session = true → p.version = 1 → p.target ≠ d.attic.nodeId →
        ∃ t, Runs c s t [.log, .tele] ∧ Counted s t 0xF011 (p.lane.getD 0) 1) ∧
      (d.atticRuns = true → d.sessionOpen p.session = true → p.version = 1 → p.target = d.attic.nodeId → ∀ r, d.storedFor p = some r →
        ∃ t, Runs c s t mailParts ∧ t.dev.out = .message p.src p.lane p.session r.resp (d.sealMessage p.src p.lane p.session r.resp) :: d.out ∧
          t.dev.attic = { d.attic with sessions := t.dev.attic.sessions } ∧
          (∀ j, j ≠ p.session → t.dev.session j = d.session j))) ∧
    (∀ p, Serves d p →
      (∀ items, ∃ t l, answered (.read p items) p ⟨0x81, p.tag, 0, l.length, .items l⟩ t ∧ same t ∧
        (∀ a ∈ l, a.status = 0xE ∨ ∃ r ∈ items, a = d.readItem s.nv r) ∧
        (((items.map (d.readItem s.nv)).map (fun a => 8 + a.len)).sum ≤ 4048 → l = items.map (d.readItem s.nv))) ∧
      (∀ tid items, tid ≠ 0 → ∃ t l, answered (.write p tid items) p ⟨0x82, p.tag, tid, l.length, .items l⟩ t ∧
        l.length = min items.length 1012 ∧ t.dev.inv.lastTrans = d.inv.lastTrans ∧
        (∀ j, j ≠ tid → t.dev.trans j = d.trans j) ∧
        (d.trans tid = none → t.dev.inv.trans = d.inv.trans ∧ ∀ a ∈ l, a.status = 9)) ∧
      (∀ tid w, tid ≠ 0 → ∃ t k, answered (.entryWrite p tid w) p
          ⟨0x82, p.tag, tid, 1, .items [⟨w.index, w.sub, k, 0, 0, none⟩]⟩ t ∧
        (∀ j, j ≠ tid → t.dev.trans j = d.trans j) ∧
        match d.trans tid with
        | none => k = 9 ∧ same t
        | some x => let st := d.writeStatus s.nv true w
          if st ≠ .ok then k = st.code ∧ same t
          else if x.bytesBut (ad w.index w.sub) + w.len + 6 > 2 ^ 20 then k = 0xB ∧ same t
          else k = 0 ∧ t.dev.trans tid = some { x with staged := x.staged.put none (ad w.index w.sub) (some (w.value, w.len)) }) ∧
      (∀ w, let st := d.writeStatus s.nv false w
        let c := Instr.entryWrite p 0 w
        let m := fun (k : Nat) => (⟨0x82, p.tag, 0, 1, .items [⟨w.index, w.sub, k, 0, 0, none⟩]⟩ : Message)
        let sent := Out.message p.src p.lane p.session (m 0) (d.sealMessage p.src p.lane p.session (m 0)) :: d.out
        (st ≠ .ok → ∃ t, answered c p (m st.code) t ∧ same t) ∧
        (st = .ok → w.index ∉ [0x2800, 0x4003, 0x8000, 0xA000, 0xAF00, 0xB100, 0xC000] → ¬ (0x6580 ≤ w.index ∧ w.index < 0x6600) →
          ∃ t, Runs c s t (.inv :: mailParts) ∧ Answers d p (m 0) t.dev ∧ t.dev.inv.base = d.inv.base ∧
            t.dev.imm w.index w.sub = w.value ∧ ∀ i j, ad i j ≠ ad w.index w.sub → t.dev.imm i j = d.imm i j) ∧
        (st = .ok → w.index = 0xC000 → w.sub = 3 → ∃ t, exec c s = .next t ∧ t.pending = s.pending ∧ t.nv = s.nv ∧
          t.dev.attic.state = .restarting ∧ t.dev.attic.sessions = [] ∧ t.dev.inv.trans = [] ∧ t.dev.out = sent) ∧
        (st = .ok → w.index = 0xC000 → w.sub = 12 → ∃ t, exec c s = .next t ∧
          ColdFrom (s.setDev { d with out := sent }) t)) ∧
      (d.inv.trans.length < 4 → ∃ t id, answered (.openTransaction p) p ⟨0x83, p.tag, id, 0, .status 0⟩ t ∧ 1 ≤ id ∧ id ≤ 65535 ∧
        d.trans id = none ∧ t.dev.inv.lastTrans = id ∧ t.dev.inv.trans = d.inv.trans ++ [{ id := id, session := p.session }]) ∧
      (4 ≤ d.inv.trans.length → ∃ t, answered (.openTransaction p) p ⟨0x83, p.tag, 0, 0, .status 0xA⟩ t ∧ same t) ∧
      (∀ tid, ∃ t, answered (.abort p tid) p ⟨0x85, p.tag, tid, 0, .status (if d.trans tid = none then 9 else 0)⟩ t ∧
        t.dev.trans tid = none ∧ ∀ j, j ≠ tid → t.dev.trans j = d.trans j) ∧
      (∃ t, answered (.status p) p ⟨0x87, p.tag, 0, 0, .state d.step d.time.clock d.inv.trans.length
        (d.inv.sealed.map (fun x => x.step)) (.deviceDigest d.inv.base d.mac)⟩ t ∧ same t) ∧
      ∀ n, ∃ t, answered (.unknownMessageType p n) p ⟨0xFF, p.tag, 0, 0, .status 4⟩ t ∧ same t) ∧
    ∀ tid, let c := Instr.transactionExpiry tid
      (d.atticRuns = false ∨ d.trans tid = none → exec c s = .next s) ∧
      (d.atticRuns = true → d.trans tid ≠ none → ∃ t, Runs c s t [.inv, .log, .tele] ∧
        t.dev.inv = { d.inv with trans := d.inv.trans.filter (fun x => decide (x.id ≠ tid)) } ∧
        t.dev.log = (d.raise 0xF005 0 tid).log ∧ Counted s t 0xF005 0 1)

/-- R306, R310 to R315, R321, R322, R333, R335, R370: a commit from its request to its values in force and in flash. -/
def Obligations.CommitsAreSealedCancelledAndApplied : Prop :=
  ∀ s : State, On s →
    let d := s.dev
    (∀ p tid x, Serves d p →
      let c := Instr.commit p tid x
      let m := fun (k i j y : Nat) (g : RVal) => (⟨0x84, p.tag, tid, 0, .commit k i j y g⟩ : Message)
      let logged := fun (t : State) (code a b : Nat) => Counted s t code 0 1 ∧ (isEndpoint p.src = false → t.dev.log = (d.raise code 0 a b).log)
      let shut := d.inv.trans.filter (fun t => decide (t.id ≠ tid))
      (d.trans tid = none →
        match d.inv.closed.find? (fun q => decide (q.1 = tid ∧ tid ≠ 0)) with
        | some q => ∃ t, Runs c s t (.inv :: mailParts) ∧ t.dev.inv = { d.inv with stored := t.dev.inv.stored } ∧
            Answers d p (m q.2.1.status q.2.1.index q.2.1.sub q.2.1.step q.2.2) t.dev
        | none => ∃ t, Runs c s t (.inv :: mailParts) ∧ Answers d p (m 9 0 0 x (.num 0)) t.dev ∧
            t.dev.inv = { d.inv with stored := t.dev.inv.stored, result := { status := 9, step := x } } ∧
            logged t 0xF002 tid x) ∧
      ∀ y, d.trans tid = some y →
        let refused := fun (f : Verdict) => ∃ t, Runs c s t (.inv :: mailParts) ∧
          Answers d p (m f.status.code (f.addr / 256) (f.addr % 256) x (.num 0)) t.dev ∧ t.dev.inv.trans = shut ∧
          t.dev.inv.sealed = d.inv.sealed ∧ t.dev.inv.base = d.inv.base ∧
          t.dev.inv.result = ⟨f.status.code, f.addr / 256, f.addr % 256, x⟩ ∧
          t.dev.inv.closed = ((tid, t.dev.inv.result, .num 0) :: d.inv.closed).take 16 ∧
          (let code := if f.status = .late then 0xF003 else 0xF002
           Counted s t code 0 1 ∧ (f.detail = none → logged t code tid x))
        match d.stampTest (stampOf y.values) with
        | .refuse => refused { status := .order }
        | .duplicate x0 g => ∃ t, Runs c s t (.inv :: mailParts) ∧ Answers d p (m 0 0 0 x0 g) t.dev ∧
            t.dev.inv.trans = shut ∧ t.dev.inv.sealed = d.inv.sealed ∧ logged t 0xF006 tid x0
        | .go =>
          let f := d.verdict s.nv p.session y.values x
          (x < d.step + d.cfg 0xF000 1 → f.status = .tooNear) ∧
          (d.step + d.cfg 0xF000 1 ≤ x → 16 ≤ d.inv.sealed.length → f.status = .busy) ∧
          (d.step + d.cfg 0xF000 1 ≤ x → d.inv.sealed.length < 16 → (∃ q ∈ d.inv.sealed, x ≤ q.step) → f.status = .order) ∧
          (f.status = .ok → (d.now : Int) ≤ d.crossing x - 16 * 65536000) ∧
          (f.status ≠ .ok → refused f) ∧
          (f.status = .ok → ∃ t q u, exec c s = .next t ∧ t.pending = s.pending ∧
            t.dev.without (.inv :: mailParts) = d.without (.inv :: mailParts) ∧
            exec .coldValueStore s = .next u ∧ t.nv = u.nv ∧ t.dev.inv.coldDue = u.dev.inv.coldDue ∧
            t.dev.inv.base = d.inv.base ∧ t.dev.inv.sealed = d.inv.sealed ++ [q] ∧ q.step = x ∧ q.trans = tid ∧
            q.session = p.session ∧ q.staged = y.values ∧ q.stamp = stampOf y.values ∧
            q.digest = .deviceDigest (d.putStaged d.baseBefore y.values) d.mac ∧
            t.dev.inv.trans = shut ∧ t.dev.inv.result = { step := x } ∧
            t.dev.inv.closed = ((tid, { step := x }, q.digest) :: d.inv.closed).take 16 ∧
            Answers d p (m 0 0 0 x q.digest) t.dev)) ∧
    (∀ p x, Serves d p →
      let c := Instr.cancel p x
      let logged := fun (t : State) (code a b : Nat) => Counted s t code 0 1 ∧ (isEndpoint p.src = false → t.dev.log = (d.raise code 0 a b).log)
      let no := fun (k : Nat) => ∃ t, Runs c s t (.inv :: mailParts) ∧ t.dev.inv = { d.inv with stored := t.dev.inv.stored } ∧
        Answers d p ⟨0x86, p.tag, 0, 0, .status k⟩ t.dev
      match d.inv.sealed.getLast? with
      | none => no 7
      | some q =>
        let before := { d.inv with sealed := d.inv.sealed.dropLast }
        if q.step ≠ x then no 7
        else if (d.now : Int) > ({ d with inv := before } : Dev).crossing x - 16 * 65536000 then no 8
        else ∃ t, Runs c s t (.inv :: mailParts) ∧ t.dev.inv = { before with stored := t.dev.inv.stored } ∧
          Answers d p ⟨0x86, p.tag, 0, 0, .status 0⟩ t.dev ∧ logged t 0xF004 q.trans x) ∧
    (∀ bad, let c := Instr.commitApply bad
      (d.due.all (fun w => decide (w ≠ .commit)) = true → d.crossed = false → exec c s = .next s) ∧
      ∀ rest q l, d.due = .commit :: rest → d.inv.sealed = q :: l →
        ∃ (v : Nv) (e0 : Dev), let e := e0.raise 0xF001 0 q.trans q.step
          (let r := settleDue v e; exec c s = .next (s.setAll (catchUp r.1 r.2))) ∧ e.due = rest ∧ e.step = d.step ∧
          e.inv.sealed = l ∧ e.inv.base = d.putStaged d.inv.base q.staged ∧ e.inv.changeStep = q.step ∧
          e.inv.fabricRec = e.fabricNow ∧ e.inv.prevRec = d.inv.fabricRec ∧ e.inv.result = d.inv.result ∧
          e.inv.trans = d.inv.trans ∧ e.inv.imm = d.inv.imm ∧ v.flash = s.nv.flash ∧ v.chutes = s.nv.chutes ∧
          v.fuses = { s.nv.fuses with security := v.fuses.security, revoked := v.fuses.revoked } ∧
          (∀ a ∈ e.inv.coldDue, a ∈ d.inv.coldDue ∨ a ∈ q.staged) ∧
          ∀ a ∈ q.staged, commitOf a.1 = some .cold → a ∈ e.inv.coldDue) ∧
    (∀ index sub crate, let c := Instr.quiesceEntryInForce index sub crate
      let r := d.quiesceSet (ad index sub) crate
      (r.1 = [] ∨ r.2 = false → exec c s = .next s) ∧
      (r.1 ≠ [] → r.2 = true → ∃ t, Runs c s t [.crates, .fences, .held, .inv, .lanes, .log, .net, .ports, .tele, .waits] ∧
        t.dev.inv = { d.inv with held := t.dev.inv.held, heldBy := t.dev.inv.heldBy, fabricRec := t.dev.inv.fabricRec } ∧
        ∀ k, t.dev.inv.held.get none k = if k ∈ r.1 then none else d.inv.held.get none k) ∧
      (index = 0x6000 → sub = 1 → d.inv.held.get none (unitKey (ad index sub) crate) ≠ none →
        ((∃ y ∈ d.holding, y.crate = crate) → exec c s = .next s) ∧
        ((∀ y ∈ d.holding, y.crate ≠ crate) → ∃ t, Runs c s t [.inv, .crates] ∧ t.dev.cfgAt crate 0x6000 1 = d.cfg 0x6000 1))) ∧
    (let c := Instr.coldValueStore
     (d.atticRuns = false ∨ d.inv.coldDue = [] → exec c s = .next s) ∧
     (d.atticRuns = true → d.inv.coldDue ≠ [] → ∃ t w, exec c s = .next t ∧ t.pending = s.pending ∧
       t.dev = { d with inv := { d.inv with coldDue := [] } } ∧ t.nv = { s.nv with flash := t.nv.flash } ∧
       t.nv.flash.config = some w ∧ w.tag = Config.configTag w.seq w.values ∧
       (t.nv.flash = { s.nv.flash with confA := some w } ∨ t.nv.flash = { s.nv.flash with confB := some w }) ∧
       (∀ z, s.nv.flash.confA = some z ∨ s.nv.flash.confB = some z → z.seq < w.seq) ∧
       w.values = (match s.nv.flash.config with | some z => z.values | none => []).filter
         (fun a => decide (a.1 ∉ d.inv.coldDue.map Prod.fst)) ++ d.inv.coldDue))

/-- R344 to R349: the life of a session, and attestation. -/
def Obligations.SessionsOpenCarryRecordsAndClose : Prop :=
  ∀ s : State, On s →
    let d := s.dev
    let runs := d.atticRuns = true
    let f := s.nv.fuses
    let others := fun (id : Nat) (t : State) => ∀ j, j ≠ id → t.dev.session j = d.session j
    let only := fun (t : State) => t.dev.attic = { d.attic with sessions := t.dev.attic.sessions }
    (∀ src lane key ra id target, let c := Instr.init src lane key ra id target
      let au := authorityOf f d key
      let g := keyDigest key
      (f.life = 0 ∨ f.life = 3 → au = some 0xFF) ∧
      (f.life ≠ 0 → f.life ≠ 3 →
        (g = f.recoveryKey → au = some 0) ∧
        (g ≠ f.recoveryKey → (∀ k, au = some k → 1 ≤ k ∧ k ≤ 8 ∧ d.cfg 0xB010 k = g ∧ g ≠ 0) ∧
          (au = none → ∀ k, 1 ≤ k → k ≤ 8 → d.cfg 0xB010 k = g → g = 0))) ∧
      (¬ runs → exec c s = .next s) ∧
      (runs → target ≠ d.attic.nodeId →
        ∃ t, Runs c s t [.log, .tele] ∧ Counted s t 0xF011 (lane.getD 0) 1) ∧
      (runs → target = d.attic.nodeId →
        let b := sm2Public d.exchangeSecret
        (8 ≤ d.attic.sessions.length ∨ au = none ∨ d.agree s.nv key ra id = none →
          ∃ t, Runs c s t [.log, .tele] ∧ Counted s t 0xB003 0 1) ∧
        ∀ k g, d.attic.sessions.length < 8 → au = some k → d.agree s.nv key ra id = some g → ∃ t x, Runs c s t mailParts ∧
          t.dev.attic = { d.attic with sessions := d.attic.sessions ++ [x], lastSession := x.id, inits := d.attic.inits + 1 } ∧
          x = { id := x.id, authority := k, key := key, ra := ra, rb := b, shared := g.key, sa := g.sa, peer := id, src := src, lane := lane } ∧
          1 ≤ x.id ∧ x.id ≤ 65535 ∧ d.session x.id = none ∧
          t.dev.out = .response src lane x.id b g.sb
            (d.mgmtFrame src lane x.id (plainRecord 2 x.id (toBytes 64 b ++ toBytes 32 g.sb))) :: d.out)) ∧
    (∀ id sa, let c := Instr.confirm id sa
      (¬ runs ∨ d.session id = none → exec c s = .next s) ∧
      ∀ x, runs → d.session id = some x →
        if x.isOpen = true then exec c s = .next s
        else if sa = x.sa then
          ∃ t, Runs c s t [.attic] ∧ only t ∧ others id t ∧ t.dev.session id = some { x with isOpen := true }
        else ∃ t, Runs c s t [.attic, .log, .tele] ∧ only t ∧ others id t ∧ t.dev.session id = none ∧ Counted s t 0xB003 0 1) ∧
    (∀ src lane head body wrote,
      let record := head ++ body
      let id := recordSession record
      let seq := recordSeq record
      let data := Instr.dataRecord src lane head body wrote
      let close := Instr.close lane head body
      let dropped := fun (c : Instr) => ∃ t, Runs c s t [.attic, .log, .tele] ∧ only t ∧ others id t ∧
        t.dev.session id = (d.session id).map (fun x => { x with dropped := (x.dropped + 1) % 2 ^ 32 }) ∧ Counted s t 0xB004 0 1
      (¬ runs → exec data s = .next s ∧ exec close s = .next s) ∧
      (runs → recordOk record = false → (∃ t, Runs data s t [.tele] ∧ Counted s t 0xBE01 0 1) ∧
        ∃ t, Runs close s t [.tele] ∧ Counted s t 0xBE01 0 1) ∧
      (runs → recordOk record = true → (recordType record ≠ 4 → exec data s = .next s) ∧ (recordType record ≠ 5 → exec close s = .next s) ∧
        let lost := fun (c : Instr) (type : Nat) => recordType record = type →
          (∀ x, d.session id = some x → x.isOpen = true → x.fresh seq = true → openRecord x.shared record = none) → dropped c
        lost data 4 ∧ lost close 5 ∧
        ∀ x b, d.session id = some x → x.isOpen = true → x.fresh seq = true → openRecord x.shared record = some b →
          (recordType record = 4 → ∃ e y, e.without [.attic] = d.without [.attic] ∧
            e.attic = { d.attic with sessions := e.attic.sessions } ∧ (∀ j, j ≠ id → e.session j = d.session j) ∧ e.session id = some y ∧
            y = { x with rxHigh := max x.rxHigh seq, rxSeen := y.rxSeen, received := (x.received + 1) % 2 ^ 64 } ∧
            y.fresh seq = false ∧ (∀ k, y.fresh k = true → k ≠ seq ∧ k ≤ 2 ^ 32) ∧
            exec data s = exec (asCommand (peerOf src lane id b) (requestOf b))
              (s.setAll ({ s.nv with flash := s.nv.flash.written wrote }, e))) ∧
          (recordType record = 5 → ∃ t, Runs close s t [.attic] ∧ only t ∧ others id t ∧ t.dev.session id = none))) ∧
    (∀ id, (¬ runs → exec (.sessionIdleTimeout id) s = .next s) ∧
      (runs → ∃ t, Runs (.sessionIdleTimeout id) s t [.attic] ∧ only t ∧ others id t ∧ t.dev.session id = none)) ∧
    (∀ n, (¬ runs → exec (.attestationRequest n) s = .next s) ∧
      (runs → ∃ t, Runs (.attestationRequest n) s t [.attic] ∧
        t.dev.attic = { d.attic with nonce := n % 2 ^ 256, reportStatus := 1 })) ∧
    let c := Instr.attestationReportReady
    (¬ runs ∨ d.attic.reportStatus ≠ 1 → exec c s = .next s) ∧
    (runs → d.attic.reportStatus = 1 → ∃ t r, Runs c s t [.attic] ∧
      t.dev.attic = { d.attic with report := some r, reportStatus := 2, reports := d.attic.reports + 1 } ∧
      r.base = d.inv.base ∧ r.mac = d.mac ∧ r.record = d.inv.fabricRec)

/-- R330 to R333, R337, R338: the Attic's restarts, their causes, and the image it comes back with. -/
def Obligations.TheAtticRestarts : Prop :=
  ∀ s : State, On s →
    let d := s.dev
    let a := d.attic
    let awake := a.state = .running ∨ a.state = .starting
    let restarts := fun (c : Instr) (cause : Nat) =>
      ∃ t, Runs c s t [.attic, .atticWaits, .inv, .log, .modules, .tele, .time] ∧ Restarted d cause t.dev
    let slot := ad 0xC000 6
    let trial := ad 0xC000 7
    (let c := Instr.watchdogService
     (¬ awake → exec c s = .next s) ∧
     (awake → ∃ t, Runs c s t [.attic] ∧ t.dev.attic = { a with dogBarked := false })) ∧
    (let c := Instr.watchdogFirstExpiry
     (¬ awake ∨ a.dogBarked = true → exec c s = .next s) ∧
     (awake → a.dogBarked = false → ∃ t, Runs c s t [.attic, .log, .tele] ∧ t.dev.attic = { a with dogBarked := true } ∧
       t.dev.log = (d.raise 0xC002 0 1).log ∧ Counted s t 0xC002 0 1)) ∧
    (¬ awake ∨ a.dogBarked = false → exec .watchdogSecondExpiry s = .next s) ∧
    (awake → a.dogBarked = true → restarts .watchdogSecondExpiry 1) ∧
    (∀ x, (a.state ≠ .running ∨ x ≠ a.nodeId % 2 ^ 32 → exec (.atticRestartRequest x) s = .next s) ∧
      (a.state = .running → x = a.nodeId % 2 ^ 32 → restarts (.atticRestartRequest x) 3)) ∧
    (¬ awake → exec .firmwareHalt s = .next s) ∧ (awake → restarts .firmwareHalt 4) ∧
    (¬ awake ∨ a.trial = false → exec .trialWindowExpiry s = .next s) ∧
    (awake → a.trial = true → restarts .trialWindowExpiry 5) ∧
    (let c := Instr.trialConfirm
     (a.state ≠ .running ∨ a.trial = false → exec c s = .next s) ∧
     (a.state = .running → a.trial = true → ∃ t, Runs c s t [.attic, .inv] ∧ t.dev.attic = { a with trial := false } ∧
       t.dev.cfg 0xC000 6 = a.slot ∧ t.dev.cfg 0xC000 7 = 0 ∧
       (∀ b, b ≠ slot → b ≠ trial → t.dev.baseIn t.dev.inv.base b = d.baseIn d.inv.base b) ∧
       (slot, a.slot) ∈ t.dev.inv.coldDue ∧ (trial, 0) ∈ t.dev.inv.coldDue)) ∧
    let c := Instr.atticMemoryWiped
    let flash := s.nv.flash
    let passes := fun (k : Nat) => (flash.slot k).headerCode s.nv.fuses = 0 ∧ (flash.slot k).bodyCode = 0
    let back := a.causeNow = 5
    let first := if back then 1 - a.slot else a.slot
    let second := if back then a.slot else 1 - a.slot
    let keeps := fun (t : State) (ps : List Part) => exec c s = .next t ∧ t.pending = s.pending ∧ t.dev.without ps = d.without ps ∧
      if back then t.dev.cfg 0xC000 6 = 1 - a.slot ∧ t.dev.cfg 0xC000 7 = 0 else t.dev.inv = d.inv
    let comes := fun (k : Nat) => ∃ t, keeps t [.attic, .inv, .log, .tele] ∧
      t.nv = { s.nv with fuses := { s.nv.fuses with changed := false } } ∧
      t.dev.attic.state = .starting ∧ t.dev.attic.slot = k ∧ t.dev.attic.trial = false ∧
      t.dev.attic.restarts = min 0xFFFFFFFF (a.restarts + 1) ∧ t.dev.attic.cause = a.causeNow ∧ t.dev.attic.causeNow = 0 ∧
      t.dev.attic.failover = (a.failover || decide (k ≠ first)) ∧
      t.dev.attic.dogBarked = false ∧ t.dev.attic.imageVersion = bytesAt 512 (flash.slot k).header 8 11 ∧
      t.dev.log.queued = [] ∧
      (d.log.queued = [] → Counted s t 0xC001 0 1 ∧ Counted s t 0xC004 0 (if back then 1 else 0) ∧
        Counted s t 0x1001 0 (if s.nv.fuses.changed = true then 1 else 0) ∧
        Counted s t 0xB002 0 (if k = first then 0 else 1) ∧ Counted s t 0xB001 0 (if k = first then 0 else 1))
    (a.state ≠ .restarting → exec c s = .next s) ∧
    (a.state = .restarting →
      (passes first → comes first) ∧ (¬ passes first → passes second → comes second) ∧
      (¬ passes first → ¬ passes second → ∃ t,
        keeps t [.attic, .crates, .hatches, .held, .inv, .lanes, .log, .modules, .net, .ports, .tele] ∧
        t.nv = s.nv ∧ t.dev.attic.state = .off ∧ t.dev.attic.bootFailed = true ∧
        ∀ m < 16, (t.dev.module m).enable = false))

/-- R340, R342, R343: what the fuses of the Strongbox come to hold. -/
def Obligations.FusesAreWrittenOnce : Prop :=
  ∀ s : State, On s →
    let d := s.dev
    let f := s.nv.fuses
    let runs := d.atticRuns = true
    let failed := fun (c : Instr) (cause : Nat) => ∃ t, Runs c s t [.attic, .log, .tele] ∧
      t.dev.attic = { d.attic with fuseFailures := d.attic.fuseFailures + 1 } ∧ t.dev.log = (d.raise 0x1002 0 cause).log ∧
      Counted s t 0x1002 0 1
    let fused := fun (c : Instr) (g : Fuses) => ∃ t, exec c s = .next t ∧ t = { s with nv := { s.nv with fuses := g } }
    (∀ session x step, let c := Instr.lifeCycleRequest session x step
      let r := d.verdict s.nv session [(ad 0x1000 5, x)] step
      (r.status = .ok → lifeAllowed f.life (lifeTarget x) = true ∧ bytesAt 72 x 4 7 = d.attic.nodeId % 2 ^ 32 ∧
        (d.mutual session = true ∨ lifeTarget x = 1) ∧ d.step + d.cfg 0xF000 1 ≤ step ∧ d.inv.sealed.length < 16) ∧
      (¬ runs → exec c s = .next s) ∧
      (runs → r.status ≠ .ok → ∃ t, exec c s = .next t ∧ t.pending = s.pending ∧ t.nv = s.nv ∧
        (let ps := [Part.inv, .log, .tele]; t.dev.without ps = d.without ps) ∧ t.dev.inv.sealed = d.inv.sealed ∧
        t.dev.inv.result = ⟨r.status.code, r.addr / 256, r.addr % 256, step⟩ ∧
        Counted s t (if r.status = .late then 0xF003 else 0xF002) 0 1) ∧
      (runs → r.status = .ok → ∃ t q u, exec c s = .next t ∧ t.pending = s.pending ∧ exec .coldValueStore s = .next u ∧
        t.nv = u.nv ∧ t.dev.without [.inv] = d.without [.inv] ∧ t.dev.inv.sealed = d.inv.sealed ++ [q] ∧ q.step = step ∧
        q.session = session ∧ q.staged = [(ad 0x1000 5, x)] ∧ q.stamp = none ∧ t.dev.inv.result = { step := step })) ∧
    (∀ bad, let c := Instr.lifeCycleTransition bad
      (d.attic.lifeDue = none → exec c s = .next s) ∧
      ∀ x, d.attic.lifeDue = some x →
        let k := lifeTarget x
        let begun := if bit bad 0 then f
          else { f with pending := some k, pendOwner := bytesAt 72 x 8 39, pendRecovery := bytesAt 72 x 40 71 }
        let g := (begun.finish bad).1
        (bad = 0 → g = { f with
          life := k, pending := none, pendOwner := 0, pendRecovery := 0
          ownerKey := if k = 1 then bytesAt 72 x 8 39 else f.ownerKey
          recoveryKey := if k = 1 then bytesAt 72 x 40 71 else f.recoveryKey }) ∧
        (bit bad 1 = true → g.life = f.life ∧ g.ownerKey = f.ownerKey ∧ g.recoveryKey = f.recoveryKey) ∧
        (bit bad 2 = true → g.pending = begun.pending) ∧
        ∃ t, exec c s = .next t ∧
          ColdFrom { s with nv := { s.nv with fuses := { g with changed := f.changed || decide (g.life ≠ f.life) }, flash := { s.nv.flash with confA := none, confB := none } } } t) ∧
    (∀ x fails, let c := Instr.advanceSecurityVersion x fails
      (x ≤ f.security ∨ d.attic.imageVersion < x ∨ 64 < x → exec c s = .next s) ∧
      (f.security < x → x ≤ d.attic.imageVersion → x ≤ 64 →
        (fails = true → failed c 4) ∧ (fails = false → fused c { f with security := x }))) ∧
    ∀ k fails, let c := Instr.revokeFerestumKeySlot k fails
      let other := ∃ j, j < 4 ∧ j ≠ k ∧ bit f.slots j = true ∧ bit f.revoked j = false
      let signed := d.attic.imageKeySlot = k ∧ 8 ≤ d.attic.bootStep
      (3 < k ∨ signed ∨ ¬ other → exec c s = .next s) ∧
      (k ≤ 3 → ¬ signed → other → (fails = true → failed c 5) ∧
        (fails = false → ∃ r, fused c { f with revoked := r } ∧ ∀ j, bit r j = (bit f.revoked j || decide (j = k))))

/-- R377 to R379, R381, R387, R389: telemetry records from their step to their subscribers. -/
def Obligations.TelemetryIsFrozenMappedAndSent : Prop :=
  ∀ s : State, On s →
    let d := s.dev
    let runs := d.atticRuns = true
    let sound := ∀ p ∈ d.stackTab.cells, p.2.status ≠ .failed
    let sent := fun (kind step : Nat) => if d.atticRuns then insertRecord (kind, step) d.tele.toSend else d.tele.toSend
    (d.attic.holding = false →
      let r := (runOpen s.nv d).2
      r.snapNamed r.step = true → r.tele.freeze = none → r.snapCapacity ≠ 0 →
      ∃ t f rest, exec .stepBoundary s = .next t ∧ t.dev.due = .snapshot r.step (some f) :: rest ∧ f.step = r.step ∧
        f.valid = true ∧ f.tally = r.tele.tally ∧ f.base = r.inv.base ∧ f.clock = r.time.clock ∧
        ∀ l vc, vc < 16 → (t.dev.egress l).peaks.get 0 vc = (t.dev.egress l).depth vc) ∧
    (let c := Instr.snapshot
     (d.due.all (fun w => match w with | .snapshot _ _ => false | _ => true) = true → d.crossed = false → exec c s = .next s) ∧
     ∀ k copy rest, d.due = .snapshot k copy :: rest → ∃ e : Dev,
       (let r := settleDue s.nv e; exec c s = .next (s.setAll (catchUp r.1 r.2))) ∧ e.due = rest ∧
       e.tele.named = d.tele.named.filter (fun j => decide (k < j)) ∧ e.tele.ring = d.tele.ring ∧
       match copy with
       | none => e.without [.due, .log, .tele] = d.without [.due, .log, .tele] ∧ e.tele.freeze = d.tele.freeze ∧
         e.tele.skipped = (d.tele.skipped + 1) % 2 ^ 64 ∧ e.tele.taken = d.tele.taken ∧ e.log = (d.raise 0xA001 0 0 k).log
       | some f => e.without [.due, .tele] = d.without [.due, .tele] ∧ e.tele.taken = (d.tele.taken + 1) % 2 ^ 64 ∧
         e.tele.skipped = d.tele.skipped ∧ e.tele.freeze = some f) ∧
    (let c := Instr.snapshotRecordComplete
     (d.tele.freeze = none → exec c s = .next s) ∧
     ∀ f, d.tele.freeze = some f → ∃ t, Runs c s t [.log, .tele] ∧ t.dev.tele.freeze = none ∧
       t.dev.tele.toSend = sent 1 f.step ∧
       (sound → t.dev.tele.ring = (f :: d.tele.ring).take d.snapCapacity ∧ t.dev.tele.latest = f.step ∧ t.dev.log = d.log) ∧
       (¬ sound → 0 < d.snapCapacity → Counted s t 0xA002 0 1 ∧ ∃ l, t.dev.tele.ring = { f with valid := false } :: l ∧
         l = d.tele.ring.take (d.snapCapacity - 1))) ∧
    (∀ y, let m := d.mapAt y
      m.endStep = y ∧ m.window = d.cfg 0xA000 5 ∧ m.valid = true ∧
      ∀ x, x ∈ m.steps ↔ x ∈ d.tele.mapSteps ∧ x.step ≤ y ∧ y < x.step + m.window) ∧
    (let c := Instr.congestionMap
     (d.due.all (fun w => match w with | .map _ => false | _ => true) = true → d.crossed = false → exec c s = .next s) ∧
     ∀ m rest, d.due = .map m :: rest → ∃ (e : Dev) (ok : Bool),
       (let r := settleDue s.nv e; exec c s = .next (s.setAll (catchUp r.1 r.2))) ∧ e.due = rest ∧
       e.without [.due, .log, .tele] = d.without [.due, .log, .tele] ∧
       e.tele.mapReqs = d.tele.mapReqs.filter (fun j => decide (m.endStep < j)) ∧ e.tele.toSend = sent 2 m.endStep ∧
       e.tele.maps = { m with valid := ok } :: d.tele.maps.take 3 ∧ ((∀ k < 12, (d.stack k).status ≠ .failed) → ok = m.valid)) ∧
    (∀ k, let c := Instr.namedSnapshotRequest k
      (k < d.step → exec c s = .next s) ∧
      (d.step ≤ k → ∃ t, Runs c s t [.tele] ∧
        t.dev.tele = { d.tele with named := if k ∈ d.tele.named then d.tele.named else d.tele.named ++ [k] })) ∧
    (∀ y, let c := Instr.congestionMapRequest y
      (y + 1 < d.step + d.cfg 0xA000 5 → exec c s = .next s) ∧
      (d.step + d.cfg 0xA000 5 ≤ y + 1 → ∃ t, Runs c s t [.tele] ∧
        t.dev.tele = { d.tele with mapReqs := if y ∈ d.tele.mapReqs then d.tele.mapReqs else d.tele.mapReqs ++ [y] })) ∧
    (∀ id v, let c := Instr.telemetrySubscription id v
      (¬ runs ∨ 3 < v → exec c s = .next s) ∧
      (runs → v ≤ 3 → ∃ t, Runs c s t [.attic] ∧ t.dev.attic = { d.attic with sessions := t.dev.attic.sessions } ∧
        (∀ j, j ≠ id → t.dev.session j = d.session j) ∧
        t.dev.session id = (d.session id).map (fun x => { x with telemetry := v }))) ∧
    let c := Instr.telemetry
    (¬ runs ∨ d.tele.toSend = [] → exec c s = .next s) ∧
    ∀ kind step rest, runs → d.tele.toSend = (kind, step) :: rest →
      let earlier := (∃ f, d.tele.freeze = some f ∧ f.step < step) ∨ ∃ k f, Due.snapshot k (some f) ∈ d.due ∧ k < step
      let b := d.exportBytes kind step
      let pieces := (b.length + 4031) / 4032
      let subs := d.attic.sessions.filter (fun x => x.isOpen && bit x.telemetry (kind - 1))
      (earlier → exec c s = .next s) ∧
      (¬ earlier → ∃ t ms, Runs c s t mailParts ∧ t.dev.tele.toSend = rest ∧ t.dev.tele.ring = d.tele.ring ∧
        t.dev.tele.maps = d.tele.maps ∧ t.dev.out = ms ++ d.out ∧
        t.dev.attic = { d.attic with sessions := t.dev.attic.sessions } ∧
        ((∀ x ∈ d.attic.sessions, x.rxHigh < 2 ^ 32 ∧ x.txNext + subs.length * pieces ≤ 2 ^ 32) → ms.length = subs.length * pieces) ∧
        ∀ o ∈ ms, ∃ x ∈ subs, ∃ y k q, k < pieces ∧ d.session x.id = some y ∧ y.txNext ≤ q ∧
          let m : Message := ⟨0x91, 0, 0, 0, .telemetry kind step (4032 * k) ((b.drop (4032 * k)).take 4032)⟩
          o = .message x.src x.lane x.id m
            (d.mgmtFrame x.src x.lane x.id (sealedRecord y.shared 4 x.id q (m.bytes d.attic.nodeId))))

/-- R327: while the Attic is halted, the device answers no request, sealed commits apply at their steps, and no new commit is
sealed. -/
def Obligations.AHaltedAtticAnswersAndSealsNothing : Prop :=
  ∀ s : State, On s → s.dev.atticRuns = false →
    let d := s.dev
    (∀ c p, Asks c p → exec c s = .next s) ∧
    (∀ src lane head body wrote, exec (.dataRecord src lane head body wrote) s = .next s) ∧
    (∀ c t, exec c s = .next t →
      (∀ q ∈ t.dev.inv.sealed, q ∈ d.inv.sealed) ∧
      ∀ o ∈ t.dev.out, (∀ src lane id m f, o = .message src lane id m f → o ∈ d.out) ∧
        ∀ src lane id rb sb f, o = .response src lane id rb sb f → o ∈ d.out) ∧
    (∀ q ∈ d.inv.sealed, ∀ k t, q.step = k + 1 → Due.commit ∈ dueAt s.nv d k t) ∧
    ∀ bad rest q l, d.due = .commit :: rest → d.inv.sealed = q :: l →
      ∃ (v : Nv) (e0 : Dev), let e := e0.raise 0xF001 0 q.trans q.step
        (let r := settleDue v e; exec (.commitApply bad) s = .next (s.setAll (catchUp r.1 r.2))) ∧
        e.inv.sealed = l ∧ e.inv.base = d.putStaged d.inv.base q.staged ∧ e.inv.changeStep = q.step

/-- R272, R276, R278: at no instant does a transmit fibre carry two sources, and no step leaves the cells otherwise. -/
def Obligations.NoTransmitFibreCarriesTwoSources : Prop :=
  ∀ s t : State, ChutesOneSource s.nv → step s = .next t → ChutesOneSource t.nv

/-- R342: states only advance, BLANK to PROVISIONED, PROVISIONED to DEPLOYED, and PROVISIONED or DEPLOYED to RETURNED. -/
def Obligations.TheLifeCycleOnlyAdvances : Prop :=
  ∀ s t : State, LifeAdvances s → step s = .next t →
    LifeAdvances t ∧
    let a := s.nv.fuses.life
    let b := t.nv.fuses.life
    b = a ∨ (a = 0 ∧ b = 1) ∨ (a = 1 ∧ b = 2) ∨ (a = 1 ∧ b = 3) ∨ (a = 2 ∧ b = 3)
end

