-- ==== Sys2Proof/Laws/FrameBase.lean ====
section
/-! SUPPORT. What each named operation leaves alone, one lemma for each: stored frames, the mesh, egress and the link layer.
Each names the parts that the operation may change, so a caller's frame follows by citing the lemmas of what it calls. -/

set_option Elab.async false
set_option linter.unusedSimpArgs false
set_option linter.unusedVariables false

namespace Sys2Proof.Machine

theorem without_set_arb {ps : List Part} (h0 : Part.arb ∈ ps) (d : Dev) a0 :
    Dev.without ps { d with arb := a0 } = d.without ps := by
  simp only [Dev.without, if_pos, h0]

theorem without_set_attic {ps : List Part} (h0 : Part.attic ∈ ps) (d : Dev) a0 :
    Dev.without ps { d with attic := a0 } = d.without ps := by
  simp only [Dev.without, if_pos, h0]

theorem without_set_atticWaits {ps : List Part} (h0 : Part.atticWaits ∈ ps) (d : Dev) a0 :
    Dev.without ps { d with atticWaits := a0 } = d.without ps := by
  simp only [Dev.without, if_pos, h0]

theorem without_set_board {ps : List Part} (h0 : Part.board ∈ ps) (d : Dev) a0 :
    Dev.without ps { d with board := a0 } = d.without ps := by
  simp only [Dev.without, if_pos, h0]

theorem without_set_chutes {ps : List Part} (h0 : Part.chutes ∈ ps) (d : Dev) a0 :
    Dev.without ps { d with chutes := a0 } = d.without ps := by
  simp only [Dev.without, if_pos, h0]

theorem without_set_consumed {ps : List Part} (h0 : Part.consumed ∈ ps) (d : Dev) a0 :
    Dev.without ps { d with consumed := a0 } = d.without ps := by
  simp only [Dev.without, if_pos, h0]

theorem without_set_contexts {ps : List Part} (h0 : Part.contexts ∈ ps) (d : Dev) a0 :
    Dev.without ps { d with contexts := a0 } = d.without ps := by
  simp only [Dev.without, if_pos, h0]

theorem without_set_crates {ps : List Part} (h0 : Part.crates ∈ ps) (d : Dev) a0 :
    Dev.without ps { d with crates := a0 } = d.without ps := by
  simp only [Dev.without, if_pos, h0]

theorem without_set_draws {ps : List Part} (h0 : Part.draws ∈ ps) (d : Dev) a0 :
    Dev.without ps { d with draws := a0 } = d.without ps := by
  simp only [Dev.without, if_pos, h0]

theorem without_set_due {ps : List Part} (h0 : Part.due ∈ ps) (d : Dev) a0 :
    Dev.without ps { d with due := a0 } = d.without ps := by
  simp only [Dev.without, if_pos, h0]

theorem without_set_fences {ps : List Part} (h0 : Part.fences ∈ ps) (d : Dev) a0 :
    Dev.without ps { d with fences := a0 } = d.without ps := by
  simp only [Dev.without, if_pos, h0]

theorem without_set_flows {ps : List Part} (h0 : Part.flows ∈ ps) (d : Dev) a0 :
    Dev.without ps { d with flows := a0 } = d.without ps := by
  simp only [Dev.without, if_pos, h0]

theorem without_set_hatches {ps : List Part} (h0 : Part.hatches ∈ ps) (d : Dev) a0 :
    Dev.without ps { d with hatches := a0 } = d.without ps := by
  simp only [Dev.without, if_pos, h0]

theorem without_set_held {ps : List Part} (h0 : Part.held ∈ ps) (d : Dev) a0 :
    Dev.without ps { d with held := a0 } = d.without ps := by
  simp only [Dev.without, if_pos, h0]

theorem without_set_holding {ps : List Part} (h0 : Part.holding ∈ ps) (d : Dev) a0 :
    Dev.without ps { d with holding := a0 } = d.without ps := by
  simp only [Dev.without, if_pos, h0]

theorem without_set_inv {ps : List Part} (h0 : Part.inv ∈ ps) (d : Dev) a0 :
    Dev.without ps { d with inv := a0 } = d.without ps := by
  simp only [Dev.without, if_pos, h0]

theorem without_set_lanes {ps : List Part} (h0 : Part.lanes ∈ ps) (d : Dev) a0 :
    Dev.without ps { d with lanes := a0 } = d.without ps := by
  simp only [Dev.without, if_pos, h0]

theorem without_set_log {ps : List Part} (h0 : Part.log ∈ ps) (d : Dev) a0 :
    Dev.without ps { d with log := a0 } = d.without ps := by
  simp only [Dev.without, if_pos, h0]

theorem without_set_modules {ps : List Part} (h0 : Part.modules ∈ ps) (d : Dev) a0 :
    Dev.without ps { d with modules := a0 } = d.without ps := by
  simp only [Dev.without, if_pos, h0]

theorem without_set_nacks {ps : List Part} (h0 : Part.nacks ∈ ps) (d : Dev) a0 :
    Dev.without ps { d with nacks := a0 } = d.without ps := by
  simp only [Dev.without, if_pos, h0]

theorem without_set_net {ps : List Part} (h0 : Part.net ∈ ps) (d : Dev) a0 :
    Dev.without ps { d with net := a0 } = d.without ps := by
  simp only [Dev.without, if_pos, h0]

theorem without_set_nextHeld {ps : List Part} (h0 : Part.nextHeld ∈ ps) (d : Dev) a0 :
    Dev.without ps { d with nextHeld := a0 } = d.without ps := by
  simp only [Dev.without, if_pos, h0]

theorem without_set_out {ps : List Part} (h0 : Part.out ∈ ps) (d : Dev) a0 :
    Dev.without ps { d with out := a0 } = d.without ps := by
  simp only [Dev.without, if_pos, h0]

theorem without_set_ports {ps : List Part} (h0 : Part.ports ∈ ps) (d : Dev) a0 :
    Dev.without ps { d with ports := a0 } = d.without ps := by
  simp only [Dev.without, if_pos, h0]

theorem without_set_power {ps : List Part} (h0 : Part.power ∈ ps) (d : Dev) a0 :
    Dev.without ps { d with power := a0 } = d.without ps := by
  simp only [Dev.without, if_pos, h0]

theorem without_set_shadowRecs {ps : List Part} (h0 : Part.shadowRecs ∈ ps) (d : Dev) a0 :
    Dev.without ps { d with shadowRecs := a0 } = d.without ps := by
  simp only [Dev.without, if_pos, h0]

theorem without_set_shadows {ps : List Part} (h0 : Part.shadows ∈ ps) (d : Dev) a0 :
    Dev.without ps { d with shadows := a0 } = d.without ps := by
  simp only [Dev.without, if_pos, h0]

theorem without_set_stackTab {ps : List Part} (h0 : Part.stackTab ∈ ps) (d : Dev) a0 :
    Dev.without ps { d with stackTab := a0 } = d.without ps := by
  simp only [Dev.without, if_pos, h0]

theorem without_set_tele {ps : List Part} (h0 : Part.tele ∈ ps) (d : Dev) a0 :
    Dev.without ps { d with tele := a0 } = d.without ps := by
  simp only [Dev.without, if_pos, h0]

theorem without_set_time {ps : List Part} (h0 : Part.time ∈ ps) (d : Dev) a0 :
    Dev.without ps { d with time := a0 } = d.without ps := by
  simp only [Dev.without, if_pos, h0]

theorem without_set_versions {ps : List Part} (h0 : Part.versions ∈ ps) (d : Dev) a0 :
    Dev.without ps { d with versions := a0 } = d.without ps := by
  simp only [Dev.without, if_pos, h0]

theorem without_set_waits {ps : List Part} (h0 : Part.waits ∈ ps) (d : Dev) a0 :
    Dev.without ps { d with waits := a0 } = d.without ps := by
  simp only [Dev.without, if_pos, h0]

theorem without_set_crates_board {ps : List Part} (h0 : Part.crates ∈ ps) (h1 : Part.board ∈ ps) (d : Dev) a0 a1 :
    Dev.without ps { d with crates := a0, board := a1 } = d.without ps := by
  simp only [Dev.without, if_pos, h0, h1]

theorem without_set_crates_flows {ps : List Part} (h0 : Part.crates ∈ ps) (h1 : Part.flows ∈ ps) (d : Dev) a0 a1 :
    Dev.without ps { d with crates := a0, flows := a1 } = d.without ps := by
  simp only [Dev.without, if_pos, h0, h1]

theorem without_set_inv_tele {ps : List Part} (h0 : Part.inv ∈ ps) (h1 : Part.tele ∈ ps) (d : Dev) a0 a1 :
    Dev.without ps { d with inv := a0, tele := a1 } = d.without ps := by
  simp only [Dev.without, if_pos, h0, h1]

theorem without_set_lanes_crates {ps : List Part} (h0 : Part.lanes ∈ ps) (h1 : Part.crates ∈ ps) (d : Dev) a0 a1 :
    Dev.without ps { d with lanes := a0, crates := a1 } = d.without ps := by
  simp only [Dev.without, if_pos, h0, h1]

theorem without_set_time_board {ps : List Part} (h0 : Part.time ∈ ps) (h1 : Part.board ∈ ps) (d : Dev) a0 a1 :
    Dev.without ps { d with time := a0, board := a1 } = d.without ps := by
  simp only [Dev.without, if_pos, h0, h1]

theorem without_set_held_nextHeld_contexts {ps : List Part} (h0 : Part.held ∈ ps) (h1 : Part.nextHeld ∈ ps) (h2 :
    Part.contexts ∈ ps) (d : Dev) a0 a1 a2 :
    Dev.without ps { d with held := a0, nextHeld := a1, contexts := a2 } = d.without ps := by
  simp only [Dev.without, if_pos, h0, h1, h2]

theorem without_set_inv_attic_board {ps : List Part} (h0 : Part.inv ∈ ps) (h1 : Part.attic ∈ ps) (h2 : Part.board ∈ ps) (d
    : Dev) a0 a1 a2 :
    Dev.without ps { d with inv := a0, attic := a1, board := a2 } = d.without ps := by
  simp only [Dev.without, if_pos, h0, h1, h2]

theorem without_set_lanes_crates_arb {ps : List Part} (h0 : Part.lanes ∈ ps) (h1 : Part.crates ∈ ps) (h2 : Part.arb ∈ ps)
    (d : Dev) a0 a1 a2 :
    Dev.without ps { d with lanes := a0, crates := a1, arb := a2 } = d.without ps := by
  simp only [Dev.without, if_pos, h0, h1, h2]

theorem without_set_lanes_crates_stackTab_arb {ps : List Part} (h0 : Part.lanes ∈ ps) (h1 : Part.crates ∈ ps) (h2 :
    Part.stackTab ∈ ps) (h3 : Part.arb ∈ ps) (d : Dev) a0 a1 a2 a3 :
    Dev.without ps { d with lanes := a0, crates := a1, stackTab := a2, arb := a3 } = d.without ps := by
  simp only [Dev.without, if_pos, h0, h1, h2, h3]

theorem foldl_without {α : Type} (ps : List Part) (f : Dev → α → Dev) (h : ∀ d x, (f d x).without ps = d.without ps)
    (l : List α) (d : Dev) : (l.foldl f d).without ps = d.without ps := by
  induction l generalizing d with
  | nil => rfl
  | cons x l ih => rw [List.foldl_cons, ih, h]

theorem foldl_without_fst {α β : Type} (ps : List Part) (f : Dev × β → α → Dev × β)
    (h : ∀ d x, (f d x).1.without ps = d.1.without ps) (l : List α) (d : Dev × β) :
    (l.foldl f d).1.without ps = d.1.without ps := by
  induction l generalizing d with
  | nil => rfl
  | cons x l ih => rw [List.foldl_cons, ih, h]

theorem foldl_without_snd {α β : Type} (ps : List Part) (f : β × Dev → α → β × Dev)
    (h : ∀ d x, (f d x).2.without ps = d.2.without ps) (l : List α) (d : β × Dev) :
    (l.foldl f d).2.without ps = d.2.without ps := by
  induction l generalizing d with
  | nil => rfl
  | cons x l ih => rw [List.foldl_cons, ih, h]

theorem Dev.modLane_without {ps : List Part} (h0 : Part.lanes ∈ ps) (d : Dev) (l : Nat) (f : Lane → Lane) :
    (Dev.modLane d l f).without ps = d.without ps := by
  unfold Dev.modLane
  repeat' first
    | with_reducible rfl
    | simp only [without_set_lanes, h0]
    | split

theorem Dev.modDisc_without {ps : List Part} (h0 : Part.lanes ∈ ps) (d : Dev) (l : Nat) (f : Disc → Disc) :
    (Dev.modDisc d l f).without ps = d.without ps := by
  unfold Dev.modDisc
  repeat' first
    | with_reducible rfl
    | simp only [Dev.modLane_without, h0]
    | split

theorem Dev.modTx_without {ps : List Part} (h0 : Part.lanes ∈ ps) (d : Dev) (l : Nat) (f : LinkTx → LinkTx) :
    (Dev.modTx d l f).without ps = d.without ps := by
  unfold Dev.modTx
  repeat' first
    | with_reducible rfl
    | simp only [Dev.modLane_without, h0]
    | split

theorem Dev.modRx_without {ps : List Part} (h0 : Part.lanes ∈ ps) (d : Dev) (l : Nat) (f : LinkRx → LinkRx) :
    (Dev.modRx d l f).without ps = d.without ps := by
  unfold Dev.modRx
  repeat' first
    | with_reducible rfl
    | simp only [Dev.modLane_without, h0]
    | split

theorem Dev.modLaneTime_without {ps : List Part} (h0 : Part.lanes ∈ ps) (d : Dev) (l : Nat) (f : LaneTime → LaneTime) :
    (Dev.modLaneTime d l f).without ps = d.without ps := by
  unfold Dev.modLaneTime
  repeat' first
    | with_reducible rfl
    | simp only [Dev.modLane_without, h0]
    | split

theorem Dev.modPort_without {ps : List Part} (h0 : Part.ports ∈ ps) (d : Dev) (p : Nat) (f : Port → Port) :
    (Dev.modPort d p f).without ps = d.without ps := by
  unfold Dev.modPort
  repeat' first
    | with_reducible rfl
    | simp only [without_set_ports, h0]
    | split

theorem Dev.modStack_without {ps : List Part} (h0 : Part.stackTab ∈ ps) (d : Dev) (k : Nat) (f : Stack → Stack) :
    (Dev.modStack d k f).without ps = d.without ps := by
  unfold Dev.modStack
  repeat' first
    | with_reducible rfl
    | simp only [without_set_stackTab, h0]
    | split

theorem Dev.modCrate_without {ps : List Part} (h0 : Part.crates ∈ ps) (d : Dev) (n : Nat) (f : Crate → Crate) :
    (Dev.modCrate d n f).without ps = d.without ps := by
  unfold Dev.modCrate
  repeat' first
    | with_reducible rfl
    | simp only [without_set_crates, h0]
    | split

theorem Dev.emit_without {ps : List Part} (h0 : Part.out ∈ ps) (d : Dev) (o : Out) :
    (Dev.emit d o).without ps = d.without ps := by
  unfold Dev.emit
  repeat' first
    | with_reducible rfl
    | simp only [without_set_out, h0]
    | split

theorem Dev.draw_without {ps : List Part} (h0 : Part.draws ∈ ps) (d : Dev) :
    (Dev.draw d).2.without ps = d.without ps := by
  unfold Dev.draw
  repeat' first
    | with_reducible rfl
    | simp only [without_set_draws, h0]
    | split

theorem Dev.draw_without_of {ps : List Part} (h0 : Part.draws ∈ ps) {d : Dev} {a9 : Nat} {e9 : Dev} (h : Dev.draw d = (a9,
    e9)) :
    e9.without ps = d.without ps := by
  have k := Dev.draw_without h0 d
  rw [h] at k
  exact k

theorem Dev.unhold_without {ps : List Part} (h0 : Part.inv ∈ ps) (h1 : Part.held ∈ ps) (d : Dev) (keys : List Nat) :
    (Dev.unhold d keys).without ps = d.without ps := by
  unfold Dev.unhold
  repeat' first
    | with_reducible rfl
    | simp only [without_set_held, without_set_inv, h0, h1]
    | split
    | with_reducible refine (foldl_without ps _ (fun e x => ?_) _ _).trans ?_
    | with_reducible refine (foldl_without_fst ps _ (fun e x => ?_) _ _).trans ?_
    | with_reducible refine (foldl_without_snd ps _ (fun e x => ?_) _ _).trans ?_

theorem Dev.setImm_without {ps : List Part} (h0 : Part.inv ∈ ps) (d : Dev) (index : Nat) (sub : Nat) (v : Nat) :
    (Dev.setImm d index sub v).without ps = d.without ps := by
  unfold Dev.setImm
  repeat' first
    | with_reducible rfl
    | simp only [without_set_inv, h0]
    | split

theorem Dev.setBase_without {ps : List Part} (h0 : Part.inv ∈ ps) (d : Dev) (a : Nat) (v : Nat) :
    (Dev.setBase d a v).without ps = d.without ps := by
  unfold Dev.setBase
  repeat' first
    | with_reducible rfl
    | simp only [without_set_inv, h0]
    | split

theorem Dev.countN_without {ps : List Part} (h0 : Part.tele ∈ ps) (d : Dev) (code : Nat) (src : Nat) (n : Nat) :
    (Dev.countN d code src n).without ps = d.without ps := by
  unfold Dev.countN
  repeat' first
    | with_reducible rfl
    | simp only [without_set_tele, h0]
    | split

theorem Dev.count_without {ps : List Part} (h0 : Part.tele ∈ ps) (d : Dev) (code : Nat) (src : Nat) :
    (Dev.count d code src).without ps = d.without ps := by
  unfold Dev.count
  repeat' first
    | with_reducible rfl
    | simp only [Dev.countN_without, h0]
    | split

theorem Dev.logEvent_without {ps : List Part} (h0 : Part.log ∈ ps) (d : Dev) (code : Nat) (kind : Nat) (src : Nat) (a :
    Nat) (b : Nat) (c : Nat) :
    (Dev.logEvent d code kind src a b c).without ps = d.without ps := by
  unfold Dev.logEvent
  repeat' first
    | with_reducible rfl
    | simp only [without_set_log, h0]
    | split

theorem Dev.raiseBy_without {ps : List Part} (h0 : Part.log ∈ ps) (h1 : Part.tele ∈ ps) (d : Dev) (code : Nat) (kind : Nat)
    (tallySrc : Nat) (key : Nat) (src : Nat) (a : Nat) (b : Nat) (c : Nat) :
    (Dev.raiseBy d code kind tallySrc key src a b c).without ps = d.without ps := by
  unfold Dev.raiseBy
  repeat' first
    | with_reducible rfl
    | simp only [Dev.count_without, Dev.logEvent_without, without_set_log, h0, h1]
    | split

theorem Dev.raise_without {ps : List Part} (h0 : Part.log ∈ ps) (h1 : Part.tele ∈ ps) (d : Dev) (code : Nat) (src : Nat) (a
    : Nat) (b : Nat) (c : Nat) :
    (Dev.raise d code src a b c).without ps = d.without ps := by
  unfold Dev.raise
  repeat' first
    | with_reducible rfl
    | simp only [Dev.raiseBy_without, h0, h1]
    | split

theorem Dev.raiseTime_without {ps : List Part} (h0 : Part.log ∈ ps) (h1 : Part.tele ∈ ps) (d : Dev) (code : Nat) (src :
    Nat) :
    (Dev.raiseTime d code src).without ps = d.without ps := by
  unfold Dev.raiseTime
  repeat' first
    | with_reducible rfl
    | simp only [Dev.raise_without, h0, h1]
    | split

theorem Dev.raiseCtx_without {ps : List Part} (h0 : Part.log ∈ ps) (h1 : Part.tele ∈ ps) (d : Dev) (code : Nat) (ctx : Nat)
    (gen : Nat) (b : Nat) (c : Nat) :
    (Dev.raiseCtx d code ctx gen b c).without ps = d.without ps := by
  unfold Dev.raiseCtx
  repeat' first
    | with_reducible rfl
    | simp only [Dev.raiseBy_without, h0, h1]
    | split

theorem Dev.raiseCell_without {ps : List Part} (h0 : Part.log ∈ ps) (h1 : Part.tele ∈ ps) (d : Dev) (code : Nat) (h : Nat)
    (cell : Nat) :
    (Dev.raiseCell d code h cell).without ps = d.without ps := by
  unfold Dev.raiseCell
  repeat' first
    | with_reducible rfl
    | simp only [Dev.raiseBy_without, h0, h1]
    | split

theorem Dev.grantHop_without {ps : List Part} (h0 : Part.crates ∈ ps) (h1 : Part.arb ∈ ps) (vn : Nat) (src : Nat) (d : Dev)
    (h : Hop) :
    (Dev.grantHop vn src d h).without ps = d.without ps := by
  unfold Dev.grantHop
  repeat' first
    | with_reducible rfl
    | simp only [Dev.modCrate_without, without_set_arb, h0, h1]
    | split

theorem Dev.trip_without {ps : List Part} (h0 : Part.crates ∈ ps) (h1 : Part.arb ∈ ps) (d : Dev) (vn : Nat) (a : Nat) (b :
    Nat) :
    (Dev.trip d vn a b).without ps = d.without ps := by
  unfold Dev.trip
  repeat' first
    | with_reducible rfl
    | simp only [Dev.grantHop_without, h0, h1]
    | split
    | with_reducible refine (foldl_without ps _ (fun e x => ?_) _ _).trans ?_
    | with_reducible refine (foldl_without_fst ps _ (fun e x => ?_) _ _).trans ?_
    | with_reducible refine (foldl_without_snd ps _ (fun e x => ?_) _ _).trans ?_

theorem Dev.tripLast_without {ps : List Part} (h0 : Part.crates ∈ ps) (h1 : Part.arb ∈ ps) (d : Dev) (vn : Nat) (a : Nat)
    (b : Nat) :
    (Dev.tripLast d vn a b).without ps = d.without ps := by
  unfold Dev.tripLast
  repeat' first
    | with_reducible rfl
    | simp only [Dev.grantHop_without, h0, h1]
    | split

theorem Dev.modPath_without {ps : List Part} (h0 : Part.crates ∈ ps) (d : Dev) (n : Nat) (f : CratePath → CratePath) :
    (Dev.modPath d n f).without ps = d.without ps := by
  unfold Dev.modPath
  repeat' first
    | with_reducible rfl
    | simp only [Dev.modCrate_without, h0]
    | split

theorem Dev.modEgress_without {ps : List Part} (h0 : Part.lanes ∈ ps) (d : Dev) (l : Nat) (f : Egress → Egress) :
    (Dev.modEgress d l f).without ps = d.without ps := by
  unfold Dev.modEgress
  repeat' first
    | with_reducible rfl
    | simp only [Dev.modLane_without, h0]
    | split

theorem Dev.putHeld_without {ps : List Part} (h0 : Part.held ∈ ps) (d : Dev) (h : Nat) (x : Held) :
    (Dev.putHeld d h x).without ps = d.without ps := by
  unfold Dev.putHeld
  repeat' first
    | with_reducible rfl
    | simp only [without_set_held, h0]
    | split

theorem Dev.modHeld_without {ps : List Part} (h0 : Part.held ∈ ps) (d : Dev) (h : Nat) (f : Held → Held) :
    (Dev.modHeld d h f).without ps = d.without ps := by
  unfold Dev.modHeld
  repeat' first
    | with_reducible rfl
    | simp only [Dev.putHeld_without, h0]
    | split

theorem Dev.send_without {ps : List Part} (h0 : Part.net ∈ ps) (d : Dev) (m : Msg) :
    (Dev.send d m).without ps = d.without ps := by
  unfold Dev.send
  repeat' first
    | with_reducible rfl
    | simp only [without_set_net, h0]
    | split

theorem Dev.setNet_without {ps : List Part} (h0 : Part.net ∈ ps) (d : Dev) (n : List Msg) :
    (Dev.setNet d n).without ps = d.without ps := by
  unfold Dev.setNet
  repeat' first
    | with_reducible rfl
    | simp only [without_set_net, h0]
    | split

theorem Dev.msgTrip_without {ps : List Part} (h0 : Part.crates ∈ ps) (h1 : Part.arb ∈ ps) (d : Dev) (c : Nat) (m : Msg) :
    (Dev.msgTrip d c m).without ps = d.without ps := by
  unfold Dev.msgTrip
  repeat' first
    | with_reducible rfl
    | simp only [Dev.trip_without, Dev.tripLast_without, h0, h1]
    | split

theorem Dev.deliver_without_of {ps : List Part} (h0 : Part.crates ∈ ps) (h1 : Part.arb ∈ ps) (h2 : Part.net ∈ ps) {d : Dev}
    {c : Nat} {p : Msg → Bool} {m : Msg} {e : Dev}
    (h : d.deliver c p = some (m, e)) : e.without ps = d.without ps := by
  unfold Dev.deliver at h
  obtain ⟨r, _, h⟩ := Option.map_eq_some_iff.mp h
  rw [← (Prod.mk.inj h).2, Dev.msgTrip_without h0 h1]
  exact without_set_net h2 d _

theorem Dev.mapItems_without {ps : List Part} (h0 : Part.tele ∈ ps) (d : Dev) (h : Nat) (f : Tagged → Tagged) :
    (Dev.mapItems d h f).without ps = d.without ps := by
  unfold Dev.mapItems
  repeat' first
    | with_reducible rfl
    | simp only [without_set_tele, h0]
    | split

theorem Dev.stage_without {ps : List Part} (h0 : Part.tele ∈ ps) (d : Dev) (h : Nat) (k : Nat) (t : FabricTime) :
    (Dev.stage d h k t).without ps = d.without ps := by
  unfold Dev.stage
  repeat' first
    | with_reducible rfl
    | simp only [Dev.mapItems_without, h0]
    | split

theorem Dev.stageLane_without {ps : List Part} (h0 : Part.tele ∈ ps) (d : Dev) (h : Nat) (l : Nat) :
    (Dev.stageLane d h l).without ps = d.without ps := by
  unfold Dev.stageLane
  repeat' first
    | with_reducible rfl
    | simp only [Dev.mapItems_without, h0]
    | split

theorem Dev.tagOutcome_without {ps : List Part} (h0 : Part.tele ∈ ps) (d : Dev) (h : Nat) (o : Nat) :
    (Dev.tagOutcome d h o).without ps = d.without ps := by
  unfold Dev.tagOutcome
  repeat' first
    | with_reducible rfl
    | simp only [Dev.mapItems_without, h0]
    | split

theorem Dev.writeSample_without {ps : List Part} (h0 : Part.log ∈ ps) (h1 : Part.tele ∈ ps) (d : Dev) (i : Tagged) :
    (Dev.writeSample d i).without ps = d.without ps := by
  unfold Dev.writeSample
  repeat' first
    | with_reducible rfl
    | simp only [Dev.raise_without, without_set_tele, h0, h1]
    | split

theorem Dev.finishFrame_without {ps : List Part} (h0 : Part.log ∈ ps) (h1 : Part.tele ∈ ps) (d : Dev) (h : Nat) :
    (Dev.finishFrame d h).without ps = d.without ps := by
  unfold Dev.finishFrame
  repeat' first
    | with_reducible rfl
    | simp only [Dev.writeSample_without, without_set_tele, h0, h1]
    | split

theorem Dev.modRing_without {ps : List Part} (h0 : Part.lanes ∈ ps) (d : Dev) (l : Nat) (vc : Nat) (f : Ring → Ring) :
    (Dev.modRing d l vc f).without ps = d.without ps := by
  unfold Dev.modRing
  repeat' first
    | with_reducible rfl
    | simp only [Dev.modRx_without, h0]
    | split

theorem Dev.takeRun_without {ps : List Part} (h0 : Part.lanes ∈ ps) (d : Dev) (l : Nat) (vc : Nat) (h : Nat) (flits : Nat) :
    (Dev.takeRun d l vc h flits).without ps = d.without ps := by
  unfold Dev.takeRun
  repeat' first
    | with_reducible rfl
    | simp only [Dev.modRing_without, h0]
    | split

theorem Dev.freeRun_without {ps : List Part} (h0 : Part.lanes ∈ ps) (d : Dev) (l : Nat) (vc : Nat) (h : Nat) (counts :
    Bool) :
    (Dev.freeRun d l vc h counts).without ps = d.without ps := by
  unfold Dev.freeRun
  repeat' first
    | with_reducible rfl
    | simp only [Dev.modRing_without, h0]
    | split

theorem Dev.passRun_without {ps : List Part} (h0 : Part.lanes ∈ ps) (d : Dev) (l : Nat) (vc : Nat) (flits : Nat) (counts :
    Bool) :
    (Dev.passRun d l vc flits counts).without ps = d.without ps := by
  unfold Dev.passRun
  repeat' first
    | with_reducible rfl
    | simp only [Dev.takeRun_without, Dev.freeRun_without, h0]
    | split

theorem Dev.uncount_without {ps : List Part} (h0 : Part.lanes ∈ ps) (d : Dev) (h : Nat) :
    (Dev.uncount d h).without ps = d.without ps := by
  unfold Dev.uncount
  repeat' first
    | with_reducible rfl
    | simp only [Dev.modRing_without, h0]
    | split

theorem Dev.freeStorage_without {ps : List Part} (h0 : Part.lanes ∈ ps) (h1 : Part.crates ∈ ps) (d : Dev) (h : Nat) (x :
    Held) (counts : Bool) :
    (Dev.freeStorage d h x counts).without ps = d.without ps := by
  unfold Dev.freeStorage
  repeat' first
    | with_reducible rfl
    | simp only [Dev.modPath_without, Dev.freeRun_without, h0, h1]
    | split

theorem Dev.dropHeld_without {ps : List Part} (h0 : Part.lanes ∈ ps) (h1 : Part.crates ∈ ps) (h2 : Part.log ∈ ps) (h3 :
    Part.tele ∈ ps) (h4 : Part.held ∈ ps) (d : Dev) (h : Nat) (counts : Bool) :
    (Dev.dropHeld d h counts).without ps = d.without ps := by
  unfold Dev.dropHeld
  repeat' first
    | with_reducible rfl
    | simp only [Dev.finishFrame_without, Dev.freeStorage_without, without_set_held, h0, h1, h2, h3, h4]
    | split

theorem Dev.notePool_without {ps : List Part} (h0 : Part.crates ∈ ps) (d : Dev) (n : Nat) :
    (Dev.notePool d n).without ps = d.without ps := by
  unfold Dev.notePool
  repeat' first
    | with_reducible rfl
    | simp only [Dev.modPath_without, h0]
    | split

theorem Dev.notePools_without {ps : List Part} (h0 : Part.crates ∈ ps) (d : Dev) (old : Dev) :
    (Dev.notePools d old).without ps = d.without ps := by
  unfold Dev.notePools
  repeat' first
    | with_reducible rfl
    | simp only [Dev.modPath_without, h0]
    | split
    | with_reducible refine (foldl_without ps _ (fun e x => ?_) _ _).trans ?_
    | with_reducible refine (foldl_without_fst ps _ (fun e x => ?_) _ _).trans ?_
    | with_reducible refine (foldl_without_snd ps _ (fun e x => ?_) _ _).trans ?_

theorem Dev.noteLeast_without {ps : List Part} (h0 : Part.crates ∈ ps) (d : Dev) (n : Nat) :
    (Dev.noteLeast d n).without ps = d.without ps := by
  unfold Dev.noteLeast
  repeat' first
    | with_reducible rfl
    | simp only [Dev.modPath_without, h0]
    | split

theorem Dev.refreshOpen_without {ps : List Part} (h0 : Part.lanes ∈ ps) (h1 : Part.net ∈ ps) (d : Dev) (l : Nat) :
    (Dev.refreshOpen d l).without ps = d.without ps := by
  unfold Dev.refreshOpen
  repeat' first
    | with_reducible rfl
    | simp only [Dev.modEgress_without, Dev.send_without, h0, h1]
    | split

theorem Dev.restTags_without {ps : List Part} (h0 : Part.lanes ∈ ps) (d : Dev) (l : Nat) :
    (Dev.restTags d l).without ps = d.without ps := by
  unfold Dev.restTags
  repeat' first
    | with_reducible rfl
    | simp only [Dev.modEgress_without, h0]
    | split

theorem Dev.tagHead_without {ps : List Part} (h0 : Part.lanes ∈ ps) (d : Dev) (l : Nat) (vc : Nat) :
    (Dev.tagHead d l vc).without ps = d.without ps := by
  unfold Dev.tagHead
  repeat' first
    | with_reducible rfl
    | simp only [Dev.modEgress_without, h0]
    | split

theorem Dev.markDecision_without {ps : List Part} (h0 : Part.lanes ∈ ps) (d : Dev) (l : Nat) (tc : Nat) (q : Nat) :
    (Dev.markDecision d l tc q).2.without ps = d.without ps := by
  unfold Dev.markDecision
  repeat' first
    | with_reducible rfl
    | simp only [Dev.modEgress_without, h0]
    | split

theorem Dev.markDecision_without_of {ps : List Part} (h0 : Part.lanes ∈ ps) {d : Dev} {l : Nat} {tc : Nat} {q : Nat} {a9 :
    Bool} {e9 : Dev} (h : Dev.markDecision d l tc q = (a9, e9)) :
    e9.without ps = d.without ps := by
  have k := Dev.markDecision_without h0 d l tc q
  rw [h] at k
  exact k

theorem Dev.enqueue_without {ps : List Part} (h0 : Part.lanes ∈ ps) (h1 : Part.crates ∈ ps) (h2 : Part.tele ∈ ps) (h3 :
    Part.net ∈ ps) (d : Dev) (l : Nat) (vc : Nat) (h : Nat) (flits : Nat) (multi : Bool) (mark : Bool) :
    (Dev.enqueue d l vc h flits multi mark).without ps = d.without ps := by
  unfold Dev.enqueue
  repeat' first
    | with_reducible rfl
    | simp only [Dev.modPath_without, Dev.modEgress_without, Dev.stage_without, Dev.noteLeast_without,
        Dev.refreshOpen_without, Dev.tagHead_without, Dev.markDecision_without, h0, h1, h2, h3]
    | split
    | with_reducible refine (foldl_without ps _ (fun e x => ?_) _ _).trans ?_
    | with_reducible refine (foldl_without_fst ps _ (fun e x => ?_) _ _).trans ?_
    | with_reducible refine (foldl_without_snd ps _ (fun e x => ?_) _ _).trans ?_
    | rw [Dev.markDecision_without_of h0 (by assumption)]
    | (rename_i k9; rw [Dev.markDecision_without_of h0 k9])
    | (rename_i k9 _; rw [Dev.markDecision_without_of h0 k9])
    | (rename_i k9 _ _; rw [Dev.markDecision_without_of h0 k9])
    | (rename_i k9 _ _ _; rw [Dev.markDecision_without_of h0 k9])

theorem Dev.announceFree_without {ps : List Part} (h0 : Part.crates ∈ ps) (h1 : Part.net ∈ ps) (d : Dev) (n : Nat) :
    (Dev.announceFree d n).without ps = d.without ps := by
  unfold Dev.announceFree
  repeat' first
    | with_reducible rfl
    | simp only [Dev.modPath_without, Dev.send_without, h0, h1]
    | split
    | with_reducible refine (foldl_without ps _ (fun e x => ?_) _ _).trans ?_
    | with_reducible refine (foldl_without_fst ps _ (fun e x => ?_) _ _).trans ?_
    | with_reducible refine (foldl_without_snd ps _ (fun e x => ?_) _ _).trans ?_

theorem Dev.freeEntry_without {ps : List Part} (h0 : Part.crates ∈ ps) (h1 : Part.net ∈ ps) (d : Dev) (l : Nat) (vc : Nat) :
    (Dev.freeEntry d l vc).without ps = d.without ps := by
  unfold Dev.freeEntry
  repeat' first
    | with_reducible rfl
    | simp only [Dev.modPath_without, Dev.announceFree_without, h0, h1]
    | split

theorem Dev.popHead_without {ps : List Part} (h0 : Part.lanes ∈ ps) (h1 : Part.crates ∈ ps) (h2 : Part.net ∈ ps) (d : Dev)
    (l : Nat) (vc : Nat) :
    (Dev.popHead d l vc).without ps = d.without ps := by
  unfold Dev.popHead
  repeat' first
    | with_reducible rfl
    | simp only [Dev.modEgress_without, Dev.tagHead_without, Dev.freeEntry_without, h0, h1, h2]
    | split

theorem Dev.skipReport_without {ps : List Part} (h0 : Part.log ∈ ps) (h1 : Part.tele ∈ ps) (h2 : Part.net ∈ ps) (d : Dev)
    (l : Nat) (h : Nat) :
    (Dev.skipReport d l h).without ps = d.without ps := by
  unfold Dev.skipReport
  repeat' first
    | with_reducible rfl
    | simp only [Dev.raise_without, Dev.send_without, h0, h1, h2]
    | split

theorem Dev.giveUp_without {ps : List Part} (h0 : Part.log ∈ ps) (h1 : Part.tele ∈ ps) (h2 : Part.net ∈ ps) (d : Dev) (l :
    Nat) (h : Nat) (multi : Bool) :
    (Dev.giveUp d l h multi).without ps = d.without ps := by
  unfold Dev.giveUp
  repeat' first
    | with_reducible rfl
    | simp only [Dev.send_without, Dev.tagOutcome_without, Dev.skipReport_without, h0, h1, h2]
    | split

theorem Dev.sendMulticast_without {ps : List Part} (h0 : Part.net ∈ ps) (h1 : Part.waits ∈ ps) (d : Dev) (h : Nat) :
    (Dev.sendMulticast d h).without ps = d.without ps := by
  unfold Dev.sendMulticast
  repeat' first
    | with_reducible rfl
    | simp only [Dev.send_without, without_set_waits, h0, h1]
    | split
    | with_reducible refine (foldl_without ps _ (fun e x => ?_) _ _).trans ?_
    | with_reducible refine (foldl_without_fst ps _ (fun e x => ?_) _ _).trans ?_
    | with_reducible refine (foldl_without_snd ps _ (fun e x => ?_) _ _).trans ?_

theorem Dev.settleRecord_without {ps : List Part} (h0 : Part.lanes ∈ ps) (h1 : Part.crates ∈ ps) (h2 : Part.log ∈ ps) (h3 :
    Part.tele ∈ ps) (h4 : Part.held ∈ ps) (h5 : Part.net ∈ ps) (h6 : Part.waits ∈ ps) (d : Dev) (h : Nat) :
    (Dev.settleRecord d h).without ps = d.without ps := by
  unfold Dev.settleRecord
  repeat' first
    | with_reducible rfl
    | simp only [Dev.count_without, Dev.putHeld_without, Dev.dropHeld_without, Dev.sendMulticast_without, h0, h1, h2, h3,
        h4, h5, h6]
    | split

theorem Dev.refillLane_without {ps : List Part} (h0 : Part.lanes ∈ ps) (d : Dev) (l : Nat) (t : FabricTime) (boundary :
    Bool) :
    (Dev.refillLane d l t boundary).without ps = d.without ps := by
  unfold Dev.refillLane
  repeat' first
    | with_reducible rfl
    | simp only [Dev.modEgress_without, h0]
    | split
    | with_reducible refine (foldl_without ps _ (fun e x => ?_) _ _).trans ?_
    | with_reducible refine (foldl_without_fst ps _ (fun e x => ?_) _ _).trans ?_
    | with_reducible refine (foldl_without_snd ps _ (fun e x => ?_) _ _).trans ?_

theorem Dev.flushEntries_without {ps : List Part} (h0 : Part.lanes ∈ ps) (h1 : Part.crates ∈ ps) (h2 : Part.log ∈ ps) (h3 :
    Part.tele ∈ ps) (h4 : Part.net ∈ ps) (n : Nat) (d : Dev) (l : Nat) :
    (Dev.flushEntries n d l).without ps = d.without ps := by
  induction n generalizing d with
  | zero => rfl
  | succ n ih =>
    unfold Dev.flushEntries
    split
    · rfl
    · split
      · rfl
      · dsimp only
        rw [ih]
        simp only [apply_ite (Dev.without ps), Dev.modPath_without, Dev.count_without, Dev.giveUp_without,
          Dev.modEgress_without, ite_self, h0, h1, h2, h3, h4]

theorem Dev.flushLane_without {ps : List Part} (h0 : Part.lanes ∈ ps) (h1 : Part.crates ∈ ps) (h2 : Part.log ∈ ps) (h3 :
    Part.tele ∈ ps) (h4 : Part.net ∈ ps) (d : Dev) (l : Nat) :
    (Dev.flushLane d l).1.without ps = d.without ps := by
  unfold Dev.flushLane
  repeat' first
    | with_reducible rfl
    | simp only [Dev.count_without, Dev.modEgress_without, Dev.send_without, Dev.restTags_without,
        Dev.announceFree_without, Dev.giveUp_without, Dev.flushEntries_without, h0, h1, h2, h3, h4]
    | split

theorem Dev.flushLane_without_of {ps : List Part} (h0 : Part.lanes ∈ ps) (h1 : Part.crates ∈ ps) (h2 : Part.log ∈ ps) (h3 :
    Part.tele ∈ ps) (h4 : Part.net ∈ ps) {d : Dev} {l : Nat} {a9 : Nat} {e9 : Dev} (h : Dev.flushLane d l = (e9, a9)) :
    e9.without ps = d.without ps := by
  have k := Dev.flushLane_without h0 h1 h2 h3 h4 d l
  rw [h] at k
  exact k

theorem Dev.flush_without {ps : List Part} (h0 : Part.lanes ∈ ps) (h1 : Part.crates ∈ ps) (h2 : Part.log ∈ ps) (h3 :
    Part.tele ∈ ps) (h4 : Part.net ∈ ps) (d : Dev) (ls : List Nat) :
    (Dev.flush d ls).without ps = d.without ps := by
  unfold Dev.flush
  repeat' first
    | with_reducible rfl
    | simp only [Dev.raise_without, Dev.flushLane_without, h0, h1, h2, h3, h4]
    | split
    | with_reducible refine (foldl_without ps _ (fun e x => ?_) _ _).trans ?_
    | with_reducible refine (foldl_without_fst ps _ (fun e x => ?_) _ _).trans ?_
    | with_reducible refine (foldl_without_snd ps _ (fun e x => ?_) _ _).trans ?_
    | rw [Dev.flushLane_without_of h0 h1 h2 h3 h4 (by assumption)]
    | (rename_i k9; rw [Dev.flushLane_without_of h0 h1 h2 h3 h4 k9])
    | (rename_i k9 _; rw [Dev.flushLane_without_of h0 h1 h2 h3 h4 k9])
    | (rename_i k9 _ _; rw [Dev.flushLane_without_of h0 h1 h2 h3 h4 k9])
    | (rename_i k9 _ _ _; rw [Dev.flushLane_without_of h0 h1 h2 h3 h4 k9])

theorem Dev.purge_without {ps : List Part} (h0 : Part.lanes ∈ ps) (h1 : Part.crates ∈ ps) (h2 : Part.net ∈ ps) (d : Dev) (h
    : Nat) :
    (Dev.purge d h).without ps = d.without ps := by
  unfold Dev.purge
  repeat' first
    | with_reducible rfl
    | simp only [Dev.modEgress_without, Dev.send_without, Dev.refreshOpen_without, Dev.restTags_without,
        Dev.tagHead_without, Dev.freeEntry_without, h0, h1, h2]
    | split
    | with_reducible refine (foldl_without ps _ (fun e x => ?_) _ _).trans ?_
    | with_reducible refine (foldl_without_fst ps _ (fun e x => ?_) _ _).trans ?_
    | with_reducible refine (foldl_without_snd ps _ (fun e x => ?_) _ _).trans ?_

theorem Dev.makeBad_without {ps : List Part} (h0 : Part.lanes ∈ ps) (h1 : Part.crates ∈ ps) (h2 : Part.tele ∈ ps) (h3 :
    Part.held ∈ ps) (h4 : Part.net ∈ ps) (d : Dev) (h : Nat) :
    (Dev.makeBad d h).without ps = d.without ps := by
  unfold Dev.makeBad
  repeat' first
    | with_reducible rfl
    | simp only [Dev.modHeld_without, Dev.tagOutcome_without, Dev.purge_without, h0, h1, h2, h3, h4]
    | split

theorem Dev.stageFlits_without {ps : List Part} (h0 : Part.lanes ∈ ps) (h1 : Part.crates ∈ ps) (h2 : Part.log ∈ ps) (h3 :
    Part.tele ∈ ps) (h4 : Part.held ∈ ps) (h5 : Part.net ∈ ps) (h6 : Part.draws ∈ ps) (d : Dev) (l : Nat) (h : Nat) (flits
    : Nat) :
    (Dev.stageFlits d l h flits).without ps = d.without ps := by
  unfold Dev.stageFlits
  repeat' first
    | with_reducible rfl
    | simp only [Dev.modRx_without, Dev.draw_without, Dev.raise_without, Dev.makeBad_without, h0, h1, h2, h3, h4, h5, h6]
    | split
    | with_reducible refine (foldl_without ps _ (fun e x => ?_) _ _).trans ?_
    | with_reducible refine (foldl_without_fst ps _ (fun e x => ?_) _ _).trans ?_
    | with_reducible refine (foldl_without_snd ps _ (fun e x => ?_) _ _).trans ?_
    | rw [Dev.draw_without_of h6 (by assumption)]
    | (rename_i k9; rw [Dev.draw_without_of h6 k9])
    | (rename_i k9 _; rw [Dev.draw_without_of h6 k9])
    | (rename_i k9 _ _; rw [Dev.draw_without_of h6 k9])
    | (rename_i k9 _ _ _; rw [Dev.draw_without_of h6 k9])

theorem Dev.accepted_without {ps : List Part} (h0 : Part.net ∈ ps) (h1 : Part.waits ∈ ps) (d : Dev) (h : Nat) (egress :
    Nat) (vc : Nat) :
    (Dev.accepted d h egress vc).without ps = d.without ps := by
  unfold Dev.accepted
  repeat' first
    | with_reducible rfl
    | simp only [Dev.send_without, without_set_waits, h0, h1]
    | split

theorem Dev.takeDescriptor_without {ps : List Part} (h0 : Part.lanes ∈ ps) (h1 : Part.crates ∈ ps) (h2 : Part.log ∈ ps) (h3
    : Part.tele ∈ ps) (h4 : Part.net ∈ ps) (h5 : Part.waits ∈ ps) (d : Dev) (l : Nat) (h : Nat) (mark : Bool) :
    (Dev.takeDescriptor d l h mark).without ps = d.without ps := by
  unfold Dev.takeDescriptor
  repeat' first
    | with_reducible rfl
    | simp only [Dev.count_without, Dev.raise_without, Dev.modPath_without, Dev.send_without, Dev.tagOutcome_without,
        Dev.enqueue_without, Dev.accepted_without, h0, h1, h2, h3, h4, h5]
    | split

theorem Dev.descriptor_without {ps : List Part} (h0 : Part.lanes ∈ ps) (h1 : Part.crates ∈ ps) (h2 : Part.arb ∈ ps) (h3 :
    Part.log ∈ ps) (h4 : Part.tele ∈ ps) (h5 : Part.net ∈ ps) (h6 : Part.waits ∈ ps) (d : Dev) (l : Nat) :
    (Dev.descriptor d l).without ps = d.without ps := by
  unfold Dev.descriptor
  repeat' first
    | with_reducible rfl
    | simp only [Dev.takeDescriptor_without, h0, h1, h2, h3, h4, h5, h6]
    | split
    | rw [Dev.deliver_without_of h1 h2 h5 (by assumption)]
    | (rename_i k9; rw [Dev.deliver_without_of h1 h2 h5 k9])
    | (rename_i k9 _; rw [Dev.deliver_without_of h1 h2 h5 k9])
    | (rename_i k9 _ _; rw [Dev.deliver_without_of h1 h2 h5 k9])
    | (rename_i k9 _ _ _; rw [Dev.deliver_without_of h1 h2 h5 k9])

theorem Dev.deferReply_without {ps : List Part} (h0 : Part.crates ∈ ps) (h1 : Part.arb ∈ ps) (h2 : Part.net ∈ ps) (h3 :
    Part.waits ∈ ps) (d : Dev) (c : Nat) :
    (Dev.deferReply d c).without ps = d.without ps := by
  unfold Dev.deferReply
  repeat' first
    | with_reducible rfl
    | simp only [without_set_waits, h0, h1, h2, h3]
    | split
    | rw [Dev.deliver_without_of h0 h1 h2 (by assumption)]
    | (rename_i k9; rw [Dev.deliver_without_of h0 h1 h2 k9])
    | (rename_i k9 _; rw [Dev.deliver_without_of h0 h1 h2 k9])
    | (rename_i k9 _ _; rw [Dev.deliver_without_of h0 h1 h2 k9])
    | (rename_i k9 _ _ _; rw [Dev.deliver_without_of h0 h1 h2 k9])

theorem Dev.freeEntryAnnouncement_without {ps : List Part} (h0 : Part.crates ∈ ps) (h1 : Part.arb ∈ ps) (h2 : Part.net ∈
    ps) (h3 : Part.waits ∈ ps) (d : Dev) (egress : Nat) (holder : Nat) :
    (Dev.freeEntryAnnouncement d egress holder).without ps = d.without ps := by
  unfold Dev.freeEntryAnnouncement
  repeat' first
    | with_reducible rfl
    | simp only [Dev.send_without, without_set_waits, h0, h1, h2, h3]
    | split
    | with_reducible refine (foldl_without ps _ (fun e x => ?_) _ _).trans ?_
    | with_reducible refine (foldl_without_fst ps _ (fun e x => ?_) _ _).trans ?_
    | with_reducible refine (foldl_without_snd ps _ (fun e x => ?_) _ _).trans ?_
    | rw [Dev.deliver_without_of h0 h1 h2 (by assumption)]
    | (rename_i k9; rw [Dev.deliver_without_of h0 h1 h2 k9])
    | (rename_i k9 _; rw [Dev.deliver_without_of h0 h1 h2 k9])
    | (rename_i k9 _ _; rw [Dev.deliver_without_of h0 h1 h2 k9])
    | (rename_i k9 _ _ _; rw [Dev.deliver_without_of h0 h1 h2 k9])

theorem Dev.pushArrival_without {ps : List Part} (h0 : Part.lanes ∈ ps) (h1 : Part.crates ∈ ps) (h2 : Part.arb ∈ ps) (h3 :
    Part.log ∈ ps) (h4 : Part.tele ∈ ps) (h5 : Part.net ∈ ps) (h6 : Part.waits ∈ ps) (d : Dev) (l : Nat) :
    (Dev.pushArrival d l).without ps = d.without ps := by
  unfold Dev.pushArrival
  repeat' first
    | with_reducible rfl
    | simp only [Dev.count_without, Dev.modEgress_without, Dev.send_without, Dev.stage_without, Dev.tagOutcome_without,
        Dev.refreshOpen_without, Dev.markDecision_without, Dev.takeDescriptor_without, h0, h1, h2, h3, h4, h5, h6]
    | split
    | rw [Dev.deliver_without_of h1 h2 h5 (by assumption)]
    | (rename_i k9; rw [Dev.deliver_without_of h1 h2 h5 k9])
    | (rename_i k9 _; rw [Dev.deliver_without_of h1 h2 h5 k9])
    | (rename_i k9 _ _; rw [Dev.deliver_without_of h1 h2 h5 k9])
    | (rename_i k9 _ _ _; rw [Dev.deliver_without_of h1 h2 h5 k9])
    | rw [Dev.markDecision_without_of h0 (by assumption)]
    | (rename_i k9; rw [Dev.markDecision_without_of h0 k9])
    | (rename_i k9 _; rw [Dev.markDecision_without_of h0 k9])
    | (rename_i k9 _ _; rw [Dev.markDecision_without_of h0 k9])
    | (rename_i k9 _ _ _; rw [Dev.markDecision_without_of h0 k9])

theorem Dev.schedulerSelection_without {ps : List Part} (h0 : Part.lanes ∈ ps) (h1 : Part.tele ∈ ps) (h2 : Part.net ∈ ps)
    (d : Dev) (l : Nat) :
    (Dev.schedulerSelection d l).without ps = d.without ps := by
  unfold Dev.schedulerSelection
  repeat' first
    | with_reducible rfl
    | simp only [Dev.modEgress_without, Dev.send_without, Dev.stage_without, Dev.refreshOpen_without, h0, h1, h2]
    | split

theorem Dev.pull_without {ps : List Part} (h0 : Part.lanes ∈ ps) (h1 : Part.crates ∈ ps) (h2 : Part.arb ∈ ps) (h3 :
    Part.net ∈ ps) (d : Dev) (l : Nat) :
    (Dev.pull d l).without ps = d.without ps := by
  unfold Dev.pull
  repeat' first
    | with_reducible rfl
    | simp only [Dev.trip_without, Dev.modPath_without, Dev.modEgress_without, h0, h1, h2, h3]
    | split
    | rw [Dev.deliver_without_of h1 h2 h3 (by assumption)]
    | (rename_i k9; rw [Dev.deliver_without_of h1 h2 h3 k9])
    | (rename_i k9 _; rw [Dev.deliver_without_of h1 h2 h3 k9])
    | (rename_i k9 _ _; rw [Dev.deliver_without_of h1 h2 h3 k9])
    | (rename_i k9 _ _ _; rw [Dev.deliver_without_of h1 h2 h3 k9])

theorem Dev.stampFor_without {ps : List Part} (h0 : Part.crates ∈ ps) (h1 : Part.log ∈ ps) (h2 : Part.tele ∈ ps) (d : Dev)
    (n : Nat) (tag : Nat) (l : Nat) (t : FabricTime) :
    (Dev.stampFor d n tag l t).without ps = d.without ps := by
  unfold Dev.stampFor
  repeat' first
    | with_reducible rfl
    | simp only [Dev.modCrate_without, Dev.raiseTime_without, h0, h1, h2]
    | split

theorem Dev.transmissionStart_without {ps : List Part} (h0 : Part.lanes ∈ ps) (h1 : Part.crates ∈ ps) (h2 : Part.log ∈ ps)
    (h3 : Part.tele ∈ ps) (h4 : Part.held ∈ ps) (h5 : Part.net ∈ ps) (d : Dev) (l : Nat) (t : FabricTime) :
    (Dev.transmissionStart d l t).without ps = d.without ps := by
  unfold Dev.transmissionStart
  repeat' first
    | with_reducible rfl
    | simp only [Dev.modTx_without, Dev.modEgress_without, Dev.modHeld_without, Dev.stage_without, Dev.stageLane_without,
        Dev.refreshOpen_without, Dev.popHead_without, Dev.stampFor_without, h0, h1, h2, h3, h4, h5]
    | split

theorem Dev.releaseOn_without {ps : List Part} (h0 : Part.lanes ∈ ps) (h1 : Part.tele ∈ ps) (h2 : Part.net ∈ ps) (d : Dev)
    (l : Nat) :
    (Dev.releaseOn d l).without ps = d.without ps := by
  unfold Dev.releaseOn
  repeat' first
    | with_reducible rfl
    | simp only [Dev.modEgress_without, Dev.send_without, Dev.stage_without, h0, h1, h2]
    | split

theorem Dev.release_without {ps : List Part} (h0 : Part.lanes ∈ ps) (h1 : Part.tele ∈ ps) (h2 : Part.net ∈ ps) (h3 :
    Part.consumed ∈ ps) (d : Dev) (lane : Option Nat) (h : Nat) :
    (Dev.release d lane h).without ps = d.without ps := by
  unfold Dev.release
  repeat' first
    | with_reducible rfl
    | simp only [Dev.modEgress_without, Dev.send_without, Dev.stage_without, Dev.releaseOn_without, without_set_consumed,
        h0, h1, h2, h3]
    | split

theorem Dev.transmissionEnd_without {ps : List Part} (h0 : Part.lanes ∈ ps) (h1 : Part.log ∈ ps) (h2 : Part.tele ∈ ps) (h3
    : Part.net ∈ ps) (h4 : Part.out ∈ ps) (d : Dev) (l : Nat) :
    (Dev.transmissionEnd d l).without ps = d.without ps := by
  unfold Dev.transmissionEnd
  repeat' first
    | with_reducible rfl
    | simp only [Dev.modTx_without, Dev.emit_without, Dev.raise_without, Dev.modEgress_without, Dev.tagOutcome_without,
        Dev.refreshOpen_without, Dev.restTags_without, Dev.releaseOn_without, h0, h1, h2, h3, h4]
    | split

theorem Dev.released_without {ps : List Part} (h0 : Part.lanes ∈ ps) (h1 : Part.crates ∈ ps) (h2 : Part.log ∈ ps) (h3 :
    Part.tele ∈ ps) (h4 : Part.held ∈ ps) (h5 : Part.net ∈ ps) (h6 : Part.waits ∈ ps) (d : Dev) (h : Nat) :
    (Dev.released d h).without ps = d.without ps := by
  unfold Dev.released
  repeat' first
    | with_reducible rfl
    | simp only [Dev.putHeld_without, Dev.finishFrame_without, Dev.dropHeld_without, Dev.settleRecord_without, h0, h1, h2,
        h3, h4, h5, h6]
    | split

theorem Dev.frameRecordRelease_without {ps : List Part} (h0 : Part.lanes ∈ ps) (h1 : Part.crates ∈ ps) (h2 : Part.arb ∈ ps)
    (h3 : Part.log ∈ ps) (h4 : Part.tele ∈ ps) (h5 : Part.held ∈ ps) (h6 : Part.net ∈ ps) (h7 : Part.waits ∈ ps) (h8 :
    Part.consumed ∈ ps) (d : Dev) (c : Nat) :
    (Dev.frameRecordRelease d c).without ps = d.without ps := by
  unfold Dev.frameRecordRelease
  repeat' first
    | with_reducible rfl
    | simp only [Dev.release_without, Dev.released_without, h0, h1, h2, h3, h4, h5, h6, h7, h8]
    | split
    | rw [Dev.deliver_without_of h1 h2 h6 (by assumption)]
    | (rename_i k9; rw [Dev.deliver_without_of h1 h2 h6 k9])
    | (rename_i k9 _; rw [Dev.deliver_without_of h1 h2 h6 k9])
    | (rename_i k9 _ _; rw [Dev.deliver_without_of h1 h2 h6 k9])
    | (rename_i k9 _ _ _; rw [Dev.deliver_without_of h1 h2 h6 k9])

theorem Dev.replyArrives_without {ps : List Part} (h0 : Part.lanes ∈ ps) (h1 : Part.crates ∈ ps) (h2 : Part.arb ∈ ps) (h3 :
    Part.log ∈ ps) (h4 : Part.tele ∈ ps) (h5 : Part.held ∈ ps) (h6 : Part.net ∈ ps) (h7 : Part.waits ∈ ps) (d : Dev) (c :
    Nat) :
    (Dev.replyArrives d c).without ps = d.without ps := by
  unfold Dev.replyArrives
  repeat' first
    | with_reducible rfl
    | simp only [Dev.modHeld_without, Dev.settleRecord_without, h0, h1, h2, h3, h4, h5, h6, h7]
    | split
    | rw [Dev.deliver_without_of h1 h2 h6 (by assumption)]
    | (rename_i k9; rw [Dev.deliver_without_of h1 h2 h6 k9])
    | (rename_i k9 _; rw [Dev.deliver_without_of h1 h2 h6 k9])
    | (rename_i k9 _ _; rw [Dev.deliver_without_of h1 h2 h6 k9])
    | (rename_i k9 _ _ _; rw [Dev.deliver_without_of h1 h2 h6 k9])

theorem Dev.testSlice_without {ps : List Part} (h0 : Part.lanes ∈ ps) (h1 : Part.crates ∈ ps) (h2 : Part.arb ∈ ps) (h3 :
    Part.log ∈ ps) (h4 : Part.tele ∈ ps) (h5 : Part.held ∈ ps) (h6 : Part.net ∈ ps) (h7 : Part.waits ∈ ps) (d : Dev) (c :
    Nat) (h : Nat) :
    (Dev.testSlice d c h).without ps = d.without ps := by
  unfold Dev.testSlice
  repeat' first
    | with_reducible rfl
    | simp only [Dev.count_without, Dev.raise_without, Dev.modPath_without, Dev.modHeld_without, Dev.send_without,
        Dev.enqueue_without, Dev.skipReport_without, Dev.accepted_without, Dev.deferReply_without, h0, h1, h2, h3, h4, h5,
        h6, h7]
    | split
    | with_reducible refine (foldl_without ps _ (fun e x => ?_) _ _).trans ?_
    | with_reducible refine (foldl_without_fst ps _ (fun e x => ?_) _ _).trans ?_
    | with_reducible refine (foldl_without_snd ps _ (fun e x => ?_) _ _).trans ?_

theorem Dev.multicastDescriptor_without {ps : List Part} (h0 : Part.lanes ∈ ps) (h1 : Part.crates ∈ ps) (h2 : Part.arb ∈
    ps) (h3 : Part.log ∈ ps) (h4 : Part.tele ∈ ps) (h5 : Part.held ∈ ps) (h6 : Part.net ∈ ps) (h7 : Part.waits ∈ ps) (d :
    Dev) (c : Nat) :
    (Dev.multicastDescriptor d c).without ps = d.without ps := by
  unfold Dev.multicastDescriptor
  repeat' first
    | with_reducible rfl
    | simp only [Dev.testSlice_without, h0, h1, h2, h3, h4, h5, h6, h7]
    | split
    | rw [Dev.deliver_without_of h1 h2 h6 (by assumption)]
    | (rename_i k9; rw [Dev.deliver_without_of h1 h2 h6 k9])
    | (rename_i k9 _; rw [Dev.deliver_without_of h1 h2 h6 k9])
    | (rename_i k9 _ _; rw [Dev.deliver_without_of h1 h2 h6 k9])
    | (rename_i k9 _ _ _; rw [Dev.deliver_without_of h1 h2 h6 k9])

theorem Dev.openMapChange_without {ps : List Part} (h0 : Part.crates ∈ ps) (h1 : Part.arb ∈ ps) (h2 : Part.net ∈ ps) (d :
    Dev) (c : Nat) (l : Nat) :
    (Dev.openMapChange d c l).without ps = d.without ps := by
  unfold Dev.openMapChange
  repeat' first
    | with_reducible rfl
    | simp only [Dev.modPath_without, h0, h1, h2]
    | split
    | rw [Dev.deliver_without_of h0 h1 h2 (by assumption)]
    | (rename_i k9; rw [Dev.deliver_without_of h0 h1 h2 k9])
    | (rename_i k9 _; rw [Dev.deliver_without_of h0 h1 h2 k9])
    | (rename_i k9 _ _; rw [Dev.deliver_without_of h0 h1 h2 k9])
    | (rename_i k9 _ _ _; rw [Dev.deliver_without_of h0 h1 h2 k9])

theorem Dev.sendDescriptor_without {ps : List Part} (h0 : Part.net ∈ ps) (h1 : Part.waits ∈ ps) (d : Dev) (h : Nat) (l :
    Nat) (x : Held) (mark : Bool) :
    (Dev.sendDescriptor d h l x mark).without ps = d.without ps := by
  unfold Dev.sendDescriptor
  repeat' first
    | with_reducible rfl
    | simp only [Dev.send_without, without_set_waits, h0, h1]
    | split

theorem Dev.linkAfresh_without {ps : List Part} (h0 : Part.lanes ∈ ps) (h1 : Part.crates ∈ ps) (h2 : Part.inv ∈ ps) (h3 :
    Part.held ∈ ps) (d : Dev) (l : Nat) :
    (Dev.linkAfresh d l).without ps = d.without ps := by
  unfold Dev.linkAfresh
  repeat' first
    | with_reducible rfl
    | simp only [Dev.modLane_without, Dev.unhold_without, Dev.notePool_without, h0, h1, h2, h3]
    | split

theorem Dev.ackLane_without {ps : List Part} (h0 : Part.lanes ∈ ps) (h1 : Part.net ∈ ps) (d : Dev) (l : Nat) (e : Nat) :
    (Dev.ackLane d l e).without ps = d.without ps := by
  unfold Dev.ackLane
  repeat' first
    | with_reducible rfl
    | simp only [Dev.modTx_without, Dev.refreshOpen_without, h0, h1]
    | split

theorem Dev.askNack_without {ps : List Part} (h0 : Part.lanes ∈ ps) (d : Dev) (l : Nat) (reason : Nat) (t : FabricTime) :
    (Dev.askNack d l reason t).without ps = d.without ps := by
  unfold Dev.askNack
  repeat' first
    | with_reducible rfl
    | simp only [Dev.modRx_without, h0]
    | split

theorem Dev.sawExpected_without {ps : List Part} (h0 : Part.lanes ∈ ps) (d : Dev) (l : Nat) :
    (Dev.sawExpected d l).without ps = d.without ps := by
  unfold Dev.sawExpected
  repeat' first
    | with_reducible rfl
    | simp only [Dev.modRx_without, h0]
    | split

theorem Dev.takeSeq_without {ps : List Part} (h0 : Part.lanes ∈ ps) (d : Dev) (l : Nat) :
    (Dev.takeSeq d l).without ps = d.without ps := by
  unfold Dev.takeSeq
  repeat' first
    | with_reducible rfl
    | simp only [Dev.modRx_without, h0]
    | split

theorem Dev.cutArrival_without {ps : List Part} (h0 : Part.lanes ∈ ps) (h1 : Part.crates ∈ ps) (h2 : Part.tele ∈ ps) (h3 :
    Part.held ∈ ps) (h4 : Part.net ∈ ps) (d : Dev) (l : Nat) :
    (Dev.cutArrival d l).without ps = d.without ps := by
  unfold Dev.cutArrival
  repeat' first
    | with_reducible rfl
    | simp only [Dev.modRx_without, Dev.freeRun_without, Dev.uncount_without, Dev.makeBad_without, h0, h1, h2, h3, h4]
    | split

theorem Dev.sendControl_without {ps : List Part} (h0 : Part.lanes ∈ ps) (h1 : Part.out ∈ ps) (d : Dev) (l : Nat) (opcode :
    Nat) (p : List Byte) (t : FabricTime) :
    (Dev.sendControl d l opcode p t).without ps = d.without ps := by
  unfold Dev.sendControl
  repeat' first
    | with_reducible rfl
    | simp only [Dev.emit_without, Dev.modEgress_without, h0, h1]
    | split

theorem Dev.linkSend_without {ps : List Part} (h0 : Part.lanes ∈ ps) (h1 : Part.out ∈ ps) (d : Dev) (l : Nat) (t :
    FabricTime) :
    (Dev.linkSend d l t).without ps = d.without ps := by
  unfold Dev.linkSend
  repeat' first
    | with_reducible rfl
    | simp only [Dev.modTx_without, Dev.sendControl_without, h0, h1]
    | split

theorem Dev.lnackSend_without {ps : List Part} (h0 : Part.lanes ∈ ps) (h1 : Part.log ∈ ps) (h2 : Part.tele ∈ ps) (h3 :
    Part.out ∈ ps) (d : Dev) (l : Nat) (t : FabricTime) :
    (Dev.lnackSend d l t).without ps = d.without ps := by
  unfold Dev.lnackSend
  repeat' first
    | with_reducible rfl
    | simp only [Dev.modRx_without, Dev.raise_without, Dev.sendControl_without, h0, h1, h2, h3]
    | split

theorem Dev.triggerReplay_without {ps : List Part} (h0 : Part.lanes ∈ ps) (d : Dev) (l : Nat) (e : Nat) :
    (Dev.triggerReplay d l e).1.without ps = d.without ps := by
  unfold Dev.triggerReplay
  repeat' first
    | with_reducible rfl
    | simp only [Dev.modTx_without, h0]
    | split

theorem Dev.triggerReplay_without_of {ps : List Part} (h0 : Part.lanes ∈ ps) {d : Dev} {l : Nat} {e : Nat} {a9 : Bool} {e9
    : Dev} (h : Dev.triggerReplay d l e = (e9, a9)) :
    e9.without ps = d.without ps := by
  have k := Dev.triggerReplay_without h0 d l e
  rw [h] at k
  exact k

theorem Dev.replay_without {ps : List Part} (h0 : Part.lanes ∈ ps) (h1 : Part.out ∈ ps) (d : Dev) (l : Nat) (t :
    FabricTime) :
    (Dev.replay d l t).without ps = d.without ps := by
  unfold Dev.replay
  repeat' first
    | with_reducible rfl
    | simp only [Dev.modTx_without, Dev.emit_without, Dev.modEgress_without, h0, h1]
    | split
    | with_reducible refine (foldl_without ps _ (fun e x => ?_) _ _).trans ?_
    | with_reducible refine (foldl_without_fst ps _ (fun e x => ?_) _ _).trans ?_
    | with_reducible refine (foldl_without_snd ps _ (fun e x => ?_) _ _).trans ?_

end Sys2Proof.Machine
end

