-- ==== Sys2Proof/Laws/FrameIngress.lean ====
section
/-! SUPPORT. What each named operation leaves alone, one lemma for each: discovery and arriving frames. Each names the parts
that the operation may change, so a caller's frame follows by citing the lemmas of what it calls. -/

set_option Elab.async false
set_option linter.unusedSimpArgs false
set_option linter.unusedVariables false

namespace Sys2Proof.Machine

theorem Dev.raiseOnLane_without {ps : List Part} (h0 : Part.log ∈ ps) (h1 : Part.tele ∈ ps) (d : Dev) (code : Nat) (l :
    Nat) :
    (Dev.raiseOnLane d code l).without ps = d.without ps := by
  unfold Dev.raiseOnLane
  repeat' first
    | with_reducible rfl
    | simp only [Dev.raise_without, h0, h1]
    | split

theorem Dev.startTimeout_without {ps : List Part} (h0 : Part.lanes ∈ ps) (h1 : Part.ports ∈ ps) (d : Dev) (p : Nat) :
    (Dev.startTimeout d p).without ps = d.without ps := by
  unfold Dev.startTimeout
  repeat' first
    | with_reducible rfl
    | simp only [Dev.modDisc_without, Dev.modPort_without, h0, h1]
    | split
    | with_reducible refine (foldl_without ps _ (fun e x => ?_) _ _).trans ?_
    | with_reducible refine (foldl_without_fst ps _ (fun e x => ?_) _ _).trans ?_
    | with_reducible refine (foldl_without_snd ps _ (fun e x => ?_) _ _).trans ?_

theorem Dev.restSpray_without {ps : List Part} (h0 : Part.crates ∈ ps) (d : Dev) (p : Nat) :
    (Dev.restSpray d p).without ps = d.without ps := by
  unfold Dev.restSpray
  repeat' first
    | with_reducible rfl
    | simp only [without_set_crates, h0]
    | split

theorem Dev.resetLane_without {ps : List Part} (h0 : Part.lanes ∈ ps) (d : Dev) (l : Nat) (locked : Bool) (keep : Bool) :
    (Dev.resetLane d l locked keep).without ps = d.without ps := by
  unfold Dev.resetLane
  repeat' first
    | with_reducible rfl
    | simp only [Dev.modDisc_without, h0]
    | split

theorem Dev.dropLock_without {ps : List Part} (h0 : Part.lanes ∈ ps) (h1 : Part.crates ∈ ps) (h2 : Part.tele ∈ ps) (h3 :
    Part.held ∈ ps) (h4 : Part.net ∈ ps) (d : Dev) (l : Nat) :
    (Dev.dropLock d l).without ps = d.without ps := by
  unfold Dev.dropLock
  repeat' first
    | with_reducible rfl
    | simp only [Dev.modLane_without, Dev.modRx_without, Dev.cutArrival_without, Dev.resetLane_without, h0, h1, h2, h3, h4]
    | split

theorem Dev.reviewSpray_without {ps : List Part} (h0 : Part.lanes ∈ ps) (h1 : Part.crates ∈ ps) (h2 : Part.log ∈ ps) (h3 :
    Part.tele ∈ ps) (h4 : Part.net ∈ ps) (d : Dev) (p : Nat) (wasUp : Bool) (isUp : Bool) :
    (Dev.reviewSpray d p wasUp isUp).without ps = d.without ps := by
  unfold Dev.reviewSpray
  repeat' first
    | with_reducible rfl
    | simp only [Dev.modDisc_without, Dev.raise_without, Dev.refreshOpen_without, Dev.flush_without, Dev.restSpray_without,
        h0, h1, h2, h3, h4]
    | split
    | with_reducible refine (foldl_without ps _ (fun e x => ?_) _ _).trans ?_
    | with_reducible refine (foldl_without_fst ps _ (fun e x => ?_) _ _).trans ?_
    | with_reducible refine (foldl_without_snd ps _ (fun e x => ?_) _ _).trans ?_

theorem Dev.evalPort_without {ps : List Part} (h0 : Part.lanes ∈ ps) (h1 : Part.ports ∈ ps) (h2 : Part.crates ∈ ps) (h3 :
    Part.log ∈ ps) (h4 : Part.tele ∈ ps) (h5 : Part.held ∈ ps) (h6 : Part.net ∈ ps) (d : Dev) (p : Nat) :
    (Dev.evalPort d p).without ps = d.without ps := by
  unfold Dev.evalPort
  repeat' first
    | with_reducible rfl
    | simp only [Dev.modDisc_without, Dev.modPort_without, Dev.raise_without, Dev.startTimeout_without,
        Dev.dropLock_without, Dev.reviewSpray_without, h0, h1, h2, h3, h4, h5, h6]
    | split
    | with_reducible refine (foldl_without ps _ (fun e x => ?_) _ _).trans ?_
    | with_reducible refine (foldl_without_fst ps _ (fun e x => ?_) _ _).trans ?_
    | with_reducible refine (foldl_without_snd ps _ (fun e x => ?_) _ _).trans ?_

theorem Dev.evalLane_without {ps : List Part} (h0 : Part.lanes ∈ ps) (h1 : Part.ports ∈ ps) (h2 : Part.crates ∈ ps) (h3 :
    Part.log ∈ ps) (h4 : Part.tele ∈ ps) (h5 : Part.held ∈ ps) (h6 : Part.net ∈ ps) (d : Dev) (l : Nat) :
    (Dev.evalLane d l).without ps = d.without ps := by
  unfold Dev.evalLane
  repeat' first
    | with_reducible rfl
    | simp only [Dev.evalPort_without, h0, h1, h2, h3, h4, h5, h6]
    | split

theorem Dev.evalCrate_without {ps : List Part} (h0 : Part.lanes ∈ ps) (h1 : Part.ports ∈ ps) (h2 : Part.crates ∈ ps) (h3 :
    Part.log ∈ ps) (h4 : Part.tele ∈ ps) (h5 : Part.held ∈ ps) (h6 : Part.net ∈ ps) (d : Dev) (n : Nat) :
    (Dev.evalCrate d n).without ps = d.without ps := by
  unfold Dev.evalCrate
  repeat' first
    | with_reducible rfl
    | simp only [Dev.evalPort_without, h0, h1, h2, h3, h4, h5, h6]
    | split
    | with_reducible refine (foldl_without ps _ (fun e x => ?_) _ _).trans ?_
    | with_reducible refine (foldl_without_fst ps _ (fun e x => ?_) _ _).trans ?_
    | with_reducible refine (foldl_without_snd ps _ (fun e x => ?_) _ _).trans ?_

theorem Dev.decideFence_without {ps : List Part} (h0 : Part.ports ∈ ps) (h1 : Part.log ∈ ps) (h2 : Part.tele ∈ ps) (h3 :
    Part.net ∈ ps) (h4 : Part.waits ∈ ps) (h5 : Part.fences ∈ ps) (d : Dev) (p : Nat) :
    (Dev.decideFence d p).without ps = d.without ps := by
  unfold Dev.decideFence
  repeat' first
    | with_reducible rfl
    | simp only [Dev.modPort_without, Dev.raise_without, Dev.accepted_without, without_set_fences, h0, h1, h2, h3, h4, h5]
    | split

theorem Dev.raiseMismatch_without {ps : List Part} (h0 : Part.log ∈ ps) (h1 : Part.tele ∈ ps) (d : Dev) (l : Nat) (reason :
    Nat) :
    (Dev.raiseMismatch d l reason).without ps = d.without ps := by
  unfold Dev.raiseMismatch
  repeat' first
    | with_reducible rfl
    | simp only [Dev.raise_without, h0, h1]
    | split

theorem Dev.moveLane_without {ps : List Part} (h0 : Part.lanes ∈ ps) (h1 : Part.log ∈ ps) (h2 : Part.tele ∈ ps) (d : Dev)
    (l : Nat) (o : HelloOutcome) :
    (Dev.moveLane d l o).without ps = d.without ps := by
  unfold Dev.moveLane
  repeat' first
    | with_reducible rfl
    | simp only [Dev.modDisc_without, Dev.count_without, Dev.raise_without, Dev.raiseMismatch_without, h0, h1, h2]
    | split

theorem Dev.compareDigest_without {ps : List Part} (h0 : Part.lanes ∈ ps) (h1 : Part.log ∈ ps) (h2 : Part.tele ∈ ps) (d :
    Dev) (l : Nat) (h : Hello) :
    (Dev.compareDigest d l h).without ps = d.without ps := by
  unfold Dev.compareDigest
  repeat' first
    | with_reducible rfl
    | simp only [Dev.modDisc_without, Dev.raise_without, h0, h1, h2]
    | split

theorem Dev.compareStep_without {ps : List Part} (h0 : Part.lanes ∈ ps) (h1 : Part.log ∈ ps) (h2 : Part.tele ∈ ps) (d :
    Dev) (l : Nat) (h : Hello) (t : FabricTime) :
    (Dev.compareStep d l h t).without ps = d.without ps := by
  unfold Dev.compareStep
  repeat' first
    | with_reducible rfl
    | simp only [Dev.modLaneTime_without, Dev.raiseTime_without, h0, h1, h2]
    | split

theorem Dev.takeHello_without {ps : List Part} (h0 : Part.lanes ∈ ps) (h1 : Part.ports ∈ ps) (h2 : Part.crates ∈ ps) (h3 :
    Part.log ∈ ps) (h4 : Part.tele ∈ ps) (h5 : Part.held ∈ ps) (h6 : Part.net ∈ ps) (d : Dev) (l : Nat) (p : List Byte) (t
    : FabricTime) :
    (Dev.takeHello d l p t).without ps = d.without ps := by
  unfold Dev.takeHello
  repeat' first
    | with_reducible rfl
    | simp only [Dev.modDisc_without, Dev.raiseOnLane_without, Dev.evalLane_without, Dev.moveLane_without,
        Dev.compareDigest_without, Dev.compareStep_without, h0, h1, h2, h3, h4, h5, h6]
    | split

theorem Dev.controlArrives_without {ps : List Part} (h0 : Part.lanes ∈ ps) (h1 : Part.log ∈ ps) (h2 : Part.tele ∈ ps) (h3 :
    Part.net ∈ ps) (d : Dev) (l : Nat) (f : Frame) (fcs : Fcs) (t : FabricTime) :
    (Dev.controlArrives d l f fcs t).1.without ps = d.without ps := by
  unfold Dev.controlArrives
  repeat' first
    | with_reducible rfl
    | simp only [Dev.count_without, Dev.raise_without, Dev.modEgress_without, Dev.ackLane_without, Dev.askNack_without, h0,
        h1, h2, h3]
    | split

theorem Dev.controlArrives_without_of {ps : List Part} (h0 : Part.lanes ∈ ps) (h1 : Part.log ∈ ps) (h2 : Part.tele ∈ ps)
    (h3 : Part.net ∈ ps) {d : Dev} {l : Nat} {f : Frame} {fcs : Fcs} {t : FabricTime} {a9 : Bool} {e9 : Dev} (h :
    Dev.controlArrives d l f fcs t = (e9, a9)) :
    e9.without ps = d.without ps := by
  have k := Dev.controlArrives_without h0 h1 h2 h3 d l f fcs t
  rw [h] at k
  exact k

theorem Dev.helloSend_without {ps : List Part} (h0 : Part.lanes ∈ ps) (h1 : Part.out ∈ ps) (d : Dev) (t : FabricTime) :
    (Dev.helloSend d t).without ps = d.without ps := by
  unfold Dev.helloSend
  repeat' first
    | with_reducible rfl
    | simp only [Dev.modDisc_without, Dev.sendControl_without, h0, h1]
    | split
    | with_reducible refine (foldl_without ps _ (fun e x => ?_) _ _).trans ?_
    | with_reducible refine (foldl_without_fst ps _ (fun e x => ?_) _ _).trans ?_
    | with_reducible refine (foldl_without_snd ps _ (fun e x => ?_) _ _).trans ?_

theorem Dev.lockGained_without {ps : List Part} (h0 : Part.lanes ∈ ps) (h1 : Part.ports ∈ ps) (h2 : Part.crates ∈ ps) (h3 :
    Part.log ∈ ps) (h4 : Part.inv ∈ ps) (h5 : Part.tele ∈ ps) (h6 : Part.held ∈ ps) (h7 : Part.net ∈ ps) (d : Dev) (l :
    Nat) :
    (Dev.lockGained d l).without ps = d.without ps := by
  unfold Dev.lockGained
  repeat' first
    | with_reducible rfl
    | simp only [Dev.modLane_without, Dev.modDisc_without, Dev.linkAfresh_without, Dev.resetLane_without,
        Dev.evalLane_without, h0, h1, h2, h3, h4, h5, h6, h7]
    | split

theorem Dev.lockLost_without {ps : List Part} (h0 : Part.lanes ∈ ps) (h1 : Part.ports ∈ ps) (h2 : Part.crates ∈ ps) (h3 :
    Part.log ∈ ps) (h4 : Part.tele ∈ ps) (h5 : Part.held ∈ ps) (h6 : Part.net ∈ ps) (d : Dev) (l : Nat) :
    (Dev.lockLost d l).without ps = d.without ps := by
  unfold Dev.lockLost
  repeat' first
    | with_reducible rfl
    | simp only [Dev.dropLock_without, Dev.evalLane_without, h0, h1, h2, h3, h4, h5, h6]
    | split

theorem Dev.laneLost_without {ps : List Part} (h0 : Part.lanes ∈ ps) (h1 : Part.ports ∈ ps) (h2 : Part.crates ∈ ps) (h3 :
    Part.log ∈ ps) (h4 : Part.tele ∈ ps) (h5 : Part.held ∈ ps) (h6 : Part.net ∈ ps) (d : Dev) (l : Nat) :
    (Dev.laneLost d l).without ps = d.without ps := by
  unfold Dev.laneLost
  repeat' first
    | with_reducible rfl
    | simp only [Dev.modDisc_without, Dev.evalLane_without, h0, h1, h2, h3, h4, h5, h6]
    | split

theorem Dev.absenceTimeout_without {ps : List Part} (h0 : Part.lanes ∈ ps) (h1 : Part.ports ∈ ps) (h2 : Part.crates ∈ ps)
    (h3 : Part.log ∈ ps) (h4 : Part.tele ∈ ps) (h5 : Part.held ∈ ps) (h6 : Part.net ∈ ps) (d : Dev) (p : Nat) :
    (Dev.absenceTimeout d p).without ps = d.without ps := by
  unfold Dev.absenceTimeout
  repeat' first
    | with_reducible rfl
    | simp only [Dev.modDisc_without, Dev.modPort_without, Dev.raise_without, Dev.evalPort_without, h0, h1, h2, h3, h4, h5,
        h6]
    | split
    | with_reducible refine (foldl_without ps _ (fun e x => ?_) _ _).trans ?_
    | with_reducible refine (foldl_without_fst ps _ (fun e x => ?_) _ _).trans ?_
    | with_reducible refine (foldl_without_snd ps _ (fun e x => ?_) _ _).trans ?_

theorem Dev.portsChanged_without {ps : List Part} (h0 : Part.lanes ∈ ps) (h1 : Part.ports ∈ ps) (h2 : Part.crates ∈ ps) (h3
    : Part.log ∈ ps) (h4 : Part.tele ∈ ps) (h5 : Part.held ∈ ps) (h6 : Part.net ∈ ps) (h7 : Part.waits ∈ ps) (h8 :
    Part.fences ∈ ps) (d : Dev) (lanes : List Nat) (crates : List (Nat × Nat)) :
    (Dev.portsChanged d lanes crates).without ps = d.without ps := by
  unfold Dev.portsChanged
  repeat' first
    | with_reducible rfl
    | simp only [Dev.modPort_without, Dev.startTimeout_without, Dev.resetLane_without, Dev.evalLane_without,
        Dev.evalCrate_without, Dev.decideFence_without, h0, h1, h2, h3, h4, h5, h6, h7, h8]
    | split
    | with_reducible refine (foldl_without ps _ (fun e x => ?_) _ _).trans ?_
    | with_reducible refine (foldl_without_fst ps _ (fun e x => ?_) _ _).trans ?_
    | with_reducible refine (foldl_without_snd ps _ (fun e x => ?_) _ _).trans ?_

theorem Dev.frameHead_without {ps : List Part} (h0 : Part.lanes ∈ ps) (h1 : Part.log ∈ ps) (h2 : Part.tele ∈ ps) (h3 :
    Part.net ∈ ps) (d : Dev) (l : Nat) (f : Frame) (t : FabricTime) :
    (Dev.frameHead d l f t).1.without ps = d.without ps := by
  unfold Dev.frameHead
  repeat' first
    | with_reducible rfl
    | simp only [Dev.count_without, Dev.raise_without, Dev.ackLane_without, Dev.askNack_without, Dev.sawExpected_without,
        h0, h1, h2, h3]
    | split

theorem Dev.frameHead_without_of {ps : List Part} (h0 : Part.lanes ∈ ps) (h1 : Part.log ∈ ps) (h2 : Part.tele ∈ ps) (h3 :
    Part.net ∈ ps) {d : Dev} {l : Nat} {f : Frame} {t : FabricTime} {a9 : Bool} {e9 : Dev} (h : Dev.frameHead d l f t =
    (e9, a9)) :
    e9.without ps = d.without ps := by
  have k := Dev.frameHead_without h0 h1 h2 h3 d l f t
  rw [h] at k
  exact k

theorem Dev.startRx_without {ps : List Part} (h0 : Part.lanes ∈ ps) (d : Dev) (l : Nat) (f : Frame) (t : FabricTime) (held
    : Option Nat) (freeVc : Option Nat) :
    (Dev.startRx d l f t held freeVc).without ps = d.without ps := by
  unfold Dev.startRx
  repeat' first
    | with_reducible rfl
    | simp only [Dev.modRx_without, h0]
    | split

theorem Dev.discardHead_without {ps : List Part} (h0 : Part.lanes ∈ ps) (h1 : Part.crates ∈ ps) (h2 : Part.log ∈ ps) (h3 :
    Part.tele ∈ ps) (h4 : Part.held ∈ ps) (h5 : Part.net ∈ ps) (h6 : Part.draws ∈ ps) (d : Dev) (l : Nat) (f : Frame) (t :
    FabricTime) :
    (Dev.discardHead d l f t).without ps = d.without ps := by
  unfold Dev.discardHead
  repeat' first
    | with_reducible rfl
    | simp only [Dev.takeRun_without, Dev.stageFlits_without, Dev.startRx_without, h0, h1, h2, h3, h4, h5, h6]
    | split

theorem Dev.admitHead_without {ps : List Part} (h0 : Part.lanes ∈ ps) (h1 : Part.crates ∈ ps) (h2 : Part.log ∈ ps) (h3 :
    Part.tele ∈ ps) (h4 : Part.held ∈ ps) (h5 : Part.net ∈ ps) (h6 : Part.draws ∈ ps) (d : Dev) (l : Nat) (f : Frame) (t :
    FabricTime) :
    (Dev.admitHead d l f t).1.without ps = d.without ps := by
  unfold Dev.admitHead
  repeat' first
    | with_reducible rfl
    | simp only [Dev.raise_without, Dev.raiseOnLane_without, Dev.startRx_without, Dev.discardHead_without, h0, h1, h2, h3,
        h4, h5, h6]
    | split

theorem Dev.admitHead_without_of {ps : List Part} (h0 : Part.lanes ∈ ps) (h1 : Part.crates ∈ ps) (h2 : Part.log ∈ ps) (h3 :
    Part.tele ∈ ps) (h4 : Part.held ∈ ps) (h5 : Part.net ∈ ps) (h6 : Part.draws ∈ ps) {d : Dev} {l : Nat} {f : Frame} {t :
    FabricTime} {a9 : Bool} {e9 : Dev} (h : Dev.admitHead d l f t = (e9, a9)) :
    e9.without ps = d.without ps := by
  have k := Dev.admitHead_without h0 h1 h2 h3 h4 h5 h6 d l f t
  rw [h] at k
  exact k

theorem Dev.pickLane_without {ps : List Part} (h0 : Part.crates ∈ ps) (d : Dev) (n : Nat) (p : Nat) :
    (Dev.pickLane d n p).2.without ps = d.without ps := by
  unfold Dev.pickLane
  repeat' first
    | with_reducible rfl
    | simp only [Dev.modPath_without, h0]
    | split

theorem Dev.pickLane_without_of {ps : List Part} (h0 : Part.crates ∈ ps) {d : Dev} {n : Nat} {p : Nat} {a9 : Option Nat}
    {e9 : Dev} (h : Dev.pickLane d n p = (a9, e9)) :
    e9.without ps = d.without ps := by
  have k := Dev.pickLane_without h0 d n p
  rw [h] at k
  exact k

theorem Dev.pickRing_without {ps : List Part} (h0 : Part.crates ∈ ps) (h1 : Part.log ∈ ps) (h2 : Part.tele ∈ ps) (d : Dev)
    (n : Nat) (dir : Nat) (group : Nat) (dst : Nat) :
    (Dev.pickRing d n dir group dst).2.without ps = d.without ps := by
  unfold Dev.pickRing
  repeat' first
    | with_reducible rfl
    | simp only [Dev.raise_without, Dev.modPath_without, Dev.pickLane_without, h0, h1, h2]
    | split
    | rw [Dev.pickLane_without_of h0 (by assumption)]
    | (rename_i k9; rw [Dev.pickLane_without_of h0 k9])
    | (rename_i k9 _; rw [Dev.pickLane_without_of h0 k9])
    | (rename_i k9 _ _; rw [Dev.pickLane_without_of h0 k9])
    | (rename_i k9 _ _ _; rw [Dev.pickLane_without_of h0 k9])

theorem Dev.pickRing_without_of {ps : List Part} (h0 : Part.crates ∈ ps) (h1 : Part.log ∈ ps) (h2 : Part.tele ∈ ps) {d :
    Dev} {n : Nat} {dir : Nat} {group : Nat} {dst : Nat} {a9 : Option Nat} {e9 : Dev} (h : Dev.pickRing d n dir group dst =
    (a9, e9)) :
    e9.without ps = d.without ps := by
  have k := Dev.pickRing_without h0 h1 h2 d n dir group dst
  rw [h] at k
  exact k

theorem Dev.cacheFlow_without {ps : List Part} (h0 : Part.crates ∈ ps) (h1 : Part.flows ∈ ps) (d : Dev) (n : Nat) (index :
    Nat) (f : Flow) :
    (Dev.cacheFlow d n index f).without ps = d.without ps := by
  unfold Dev.cacheFlow
  repeat' first
    | with_reducible rfl
    | simp only [Dev.modPath_without, without_set_flows, h0, h1]
    | split

theorem Dev.raisePoison_without {ps : List Part} (h0 : Part.log ∈ ps) (h1 : Part.tele ∈ ps) (d : Dev) (index : Nat) :
    (Dev.raisePoison d index).without ps = d.without ps := by
  unfold Dev.raisePoison
  repeat' first
    | with_reducible rfl
    | simp only [Dev.raise_without, h0, h1]
    | split

theorem Dev.police_without {ps : List Part} (h0 : Part.crates ∈ ps) (h1 : Part.log ∈ ps) (h2 : Part.tele ∈ ps) (h3 :
    Part.flows ∈ ps) (d : Dev) (l : Nat) (f : Frame) :
    (Dev.police d l f).2.without ps = d.without ps := by
  unfold Dev.police
  repeat' first
    | with_reducible rfl
    | simp only [Dev.raise_without, Dev.modPath_without, Dev.cacheFlow_without, Dev.raisePoison_without, h0, h1, h2, h3]
    | split

theorem Dev.police_without_of {ps : List Part} (h0 : Part.crates ∈ ps) (h1 : Part.log ∈ ps) (h2 : Part.tele ∈ ps) (h3 :
    Part.flows ∈ ps) {d : Dev} {l : Nat} {f : Frame} {a9 : Nat} {e9 : Dev} (h : Dev.police d l f = (a9, e9)) :
    e9.without ps = d.without ps := by
  have k := Dev.police_without h0 h1 h2 h3 d l f
  rw [h] at k
  exact k

theorem Dev.fetchDone_without {ps : List Part} (h0 : Part.crates ∈ ps) (h1 : Part.log ∈ ps) (h2 : Part.tele ∈ ps) (h3 :
    Part.flows ∈ ps) (d : Dev) (n : Nat) (index : Nat) :
    (Dev.fetchDone d n index).without ps = d.without ps := by
  unfold Dev.fetchDone
  repeat' first
    | with_reducible rfl
    | simp only [Dev.modPath_without, Dev.cacheFlow_without, Dev.raisePoison_without, h0, h1, h2, h3]
    | split
    | with_reducible refine (foldl_without ps _ (fun e x => ?_) _ _).trans ?_
    | with_reducible refine (foldl_without_fst ps _ (fun e x => ?_) _ _).trans ?_
    | with_reducible refine (foldl_without_snd ps _ (fun e x => ?_) _ _).trans ?_

theorem Dev.flowWrite_without {ps : List Part} (h0 : Part.crates ∈ ps) (h1 : Part.flows ∈ ps) (d : Dev) (index value : Nat)
    :
    (d.flowWrite index value).without ps = d.without ps := by
  simp only [Dev.flowWrite, Dev.without, if_pos, h0, h1]

theorem Dev.tagDraw_without {ps : List Part} (h0 : Part.crates ∈ ps) (d : Dev) (l : Nat) :
    (Dev.tagDraw d l).2.without ps = d.without ps := by
  unfold Dev.tagDraw
  repeat' first
    | with_reducible rfl
    | simp only [Dev.modPath_without, h0]
    | split

theorem Dev.tagDraw_without_of {ps : List Part} (h0 : Part.crates ∈ ps) {d : Dev} {l : Nat} {a9 : Bool} {e9 : Dev} (h :
    Dev.tagDraw d l = (a9, e9)) :
    e9.without ps = d.without ps := by
  have k := Dev.tagDraw_without h0 d l
  rw [h] at k
  exact k

theorem Dev.followFrame_without {ps : List Part} (h0 : Part.tele ∈ ps) (d : Dev) (l : Nat) (h : Nat) (f : Frame) (t :
    FabricTime) :
    (Dev.followFrame d l h f t).without ps = d.without ps := by
  unfold Dev.followFrame
  repeat' first
    | with_reducible rfl
    | simp only [without_set_tele, h0]
    | split

theorem Dev.store_without {ps : List Part} (h0 : Part.held ∈ ps) (h1 : Part.nextHeld ∈ ps) (d : Dev) (x : Held) :
    (Dev.store d x).2.without ps = d.without ps := by
  unfold Dev.store
  repeat' first
    | with_reducible rfl
    | simp only [Dev.putHeld_without, without_set_nextHeld, h0, h1]
    | split

theorem Dev.store_without_of {ps : List Part} (h0 : Part.held ∈ ps) (h1 : Part.nextHeld ∈ ps) {d : Dev} {x : Held} {a9 :
    Nat} {e9 : Dev} (h : Dev.store d x = (a9, e9)) :
    e9.without ps = d.without ps := by
  have k := Dev.store_without h0 h1 d x
  rw [h] at k
  exact k

theorem Dev.dispatch_without {ps : List Part} (h0 : Part.tele ∈ ps) (h1 : Part.net ∈ ps) (h2 : Part.waits ∈ ps) (d : Dev)
    (h : Nat) (l : Nat) (x : Held) (mark : Bool) :
    (Dev.dispatch d h l x mark).without ps = d.without ps := by
  unfold Dev.dispatch
  repeat' first
    | with_reducible rfl
    | simp only [Dev.send_without, Dev.stage_without, Dev.sendDescriptor_without, h0, h1, h2]
    | split

theorem Dev.broadcast_without {ps : List Part} (h0 : Part.tele ∈ ps) (h1 : Part.net ∈ ps) (h2 : Part.waits ∈ ps) (d : Dev)
    (h : Nat) :
    (Dev.broadcast d h).without ps = d.without ps := by
  unfold Dev.broadcast
  repeat' first
    | with_reducible rfl
    | simp only [Dev.stage_without, Dev.sendMulticast_without, h0, h1, h2]
    | split

theorem Dev.overrun_without {ps : List Part} (h0 : Part.draws ∈ ps) (d : Dev) (n : Nat) (vc : Nat) :
    (Dev.overrun d n vc).2.without ps = d.without ps := by
  unfold Dev.overrun
  repeat' first
    | with_reducible rfl
    | simp only [Dev.draw_without, h0]
    | split
    | rw [Dev.draw_without_of h0 (by assumption)]
    | (rename_i k9; rw [Dev.draw_without_of h0 k9])
    | (rename_i k9 _; rw [Dev.draw_without_of h0 k9])
    | (rename_i k9 _ _; rw [Dev.draw_without_of h0 k9])
    | (rename_i k9 _ _ _; rw [Dev.draw_without_of h0 k9])

theorem Dev.overrun_without_of {ps : List Part} (h0 : Part.draws ∈ ps) {d : Dev} {n : Nat} {vc : Nat} {a9 : Bool} {e9 :
    Dev} (h : Dev.overrun d n vc = (a9, e9)) :
    e9.without ps = d.without ps := by
  have k := Dev.overrun_without h0 d n vc
  rw [h] at k
  exact k

theorem Dev.larderWrites_without {ps : List Part} (h0 : Part.crates ∈ ps) (d : Dev) (l : Nat) (vc : Nat) (flits : Nat) :
    (Dev.larderWrites d l vc flits).without ps = d.without ps := by
  unfold Dev.larderWrites
  repeat' first
    | with_reducible rfl
    | simp only [Dev.modPath_without, h0]
    | split

theorem Dev.admitFrame_without {ps : List Part} (h0 : Part.lanes ∈ ps) (h1 : Part.crates ∈ ps) (h2 : Part.log ∈ ps) (h3 :
    Part.tele ∈ ps) (h4 : Part.held ∈ ps) (h5 : Part.nextHeld ∈ ps) (h6 : Part.net ∈ ps) (h7 : Part.draws ∈ ps) (d : Dev)
    (l : Nat) (f : Frame) (t : FabricTime) (x : Held) :
    (Dev.admitFrame d l f t x).2.without ps = d.without ps := by
  unfold Dev.admitFrame
  repeat' first
    | with_reducible rfl
    | simp only [Dev.count_without, Dev.raise_without, Dev.modPath_without, Dev.takeRun_without, Dev.notePool_without,
        Dev.noteLeast_without, Dev.stageFlits_without, Dev.startRx_without, Dev.store_without, Dev.overrun_without,
        Dev.larderWrites_without, h0, h1, h2, h3, h4, h5, h6, h7]
    | split
    | rw [Dev.store_without_of h4 h5 (by assumption)]
    | (rename_i k9; rw [Dev.store_without_of h4 h5 k9])
    | (rename_i k9 _; rw [Dev.store_without_of h4 h5 k9])
    | (rename_i k9 _ _; rw [Dev.store_without_of h4 h5 k9])
    | (rename_i k9 _ _ _; rw [Dev.store_without_of h4 h5 k9])
    | rw [Dev.overrun_without_of h7 (by assumption)]
    | (rename_i k9; rw [Dev.overrun_without_of h7 k9])
    | (rename_i k9 _; rw [Dev.overrun_without_of h7 k9])
    | (rename_i k9 _ _; rw [Dev.overrun_without_of h7 k9])
    | (rename_i k9 _ _ _; rw [Dev.overrun_without_of h7 k9])

theorem Dev.admitFrame_without_of {ps : List Part} (h0 : Part.lanes ∈ ps) (h1 : Part.crates ∈ ps) (h2 : Part.log ∈ ps) (h3
    : Part.tele ∈ ps) (h4 : Part.held ∈ ps) (h5 : Part.nextHeld ∈ ps) (h6 : Part.net ∈ ps) (h7 : Part.draws ∈ ps) {d : Dev}
    {l : Nat} {f : Frame} {t : FabricTime} {x : Held} {a9 : Option Nat} {e9 : Dev} (h : Dev.admitFrame d l f t x = (a9,
    e9)) :
    e9.without ps = d.without ps := by
  have k := Dev.admitFrame_without h0 h1 h2 h3 h4 h5 h6 h7 d l f t x
  rw [h] at k
  exact k

theorem Dev.larderError_without {ps : List Part} (h0 : Part.lanes ∈ ps) (h1 : Part.crates ∈ ps) (h2 : Part.log ∈ ps) (h3 :
    Part.tele ∈ ps) (h4 : Part.held ∈ ps) (h5 : Part.net ∈ ps) (d : Dev) (h : Nat) (ecc : Nat) :
    (Dev.larderError d h ecc).without ps = d.without ps := by
  unfold Dev.larderError
  repeat' first
    | with_reducible rfl
    | simp only [Dev.raise_without, Dev.makeBad_without, h0, h1, h2, h3, h4, h5]
    | split

theorem Dev.sampleLost_without {ps : List Part} (h0 : Part.log ∈ ps) (h1 : Part.tele ∈ ps) (d : Dev) (tagged : Bool) (l :
    Nat) (f : Frame) (t : FabricTime) :
    (Dev.sampleLost d tagged l f t).without ps = d.without ps := by
  unfold Dev.sampleLost
  repeat' first
    | with_reducible rfl
    | simp only [Dev.writeSample_without, without_set_tele, h0, h1]
    | split

theorem Dev.lostHead_without {ps : List Part} (h0 : Part.lanes ∈ ps) (h1 : Part.crates ∈ ps) (h2 : Part.log ∈ ps) (h3 :
    Part.tele ∈ ps) (h4 : Part.held ∈ ps) (h5 : Part.net ∈ ps) (h6 : Part.draws ∈ ps) (d : Dev) (l : Nat) (f : Frame) (t :
    FabricTime) (tagged : Bool) (code : Nat) :
    (Dev.lostHead d l f t tagged code).without ps = d.without ps := by
  unfold Dev.lostHead
  repeat' first
    | with_reducible rfl
    | simp only [Dev.count_without, Dev.raise_without, Dev.discardHead_without, Dev.sampleLost_without, h0, h1, h2, h3, h4,
        h5, h6]
    | split

theorem Dev.followIf_without {ps : List Part} (h0 : Part.tele ∈ ps) (d : Dev) (tagged : Bool) (l : Nat) (h : Nat) (f :
    Frame) (t : FabricTime) :
    (Dev.followIf d tagged l h f t).without ps = d.without ps := by
  unfold Dev.followIf
  repeat' first
    | with_reducible rfl
    | simp only [Dev.followFrame_without, h0]
    | split

theorem Dev.goTowards_without {ps : List Part} (h0 : Part.lanes ∈ ps) (h1 : Part.crates ∈ ps) (h2 : Part.log ∈ ps) (h3 :
    Part.tele ∈ ps) (h4 : Part.held ∈ ps) (h5 : Part.nextHeld ∈ ps) (h6 : Part.net ∈ ps) (h7 : Part.waits ∈ ps) (h8 :
    Part.draws ∈ ps) (d : Dev) (l : Nat) (f : Frame) (t : FabricTime) (tagged : Bool) (mark : Bool) (k : Option Nat) :
    (Dev.goTowards d l f t tagged mark k).without ps = d.without ps := by
  unfold Dev.goTowards
  repeat' first
    | with_reducible rfl
    | simp only [Dev.dispatch_without, Dev.admitFrame_without, Dev.sampleLost_without, Dev.lostHead_without,
        Dev.followIf_without, h0, h1, h2, h3, h4, h5, h6, h7, h8]
    | split
    | rw [Dev.admitFrame_without_of h0 h1 h2 h3 h4 h5 h6 h8 (by assumption)]
    | (rename_i k9; rw [Dev.admitFrame_without_of h0 h1 h2 h3 h4 h5 h6 h8 k9])
    | (rename_i k9 _; rw [Dev.admitFrame_without_of h0 h1 h2 h3 h4 h5 h6 h8 k9])
    | (rename_i k9 _ _; rw [Dev.admitFrame_without_of h0 h1 h2 h3 h4 h5 h6 h8 k9])
    | (rename_i k9 _ _ _; rw [Dev.admitFrame_without_of h0 h1 h2 h3 h4 h5 h6 h8 k9])

theorem Dev.goMulticast_without {ps : List Part} (h0 : Part.lanes ∈ ps) (h1 : Part.crates ∈ ps) (h2 : Part.log ∈ ps) (h3 :
    Part.tele ∈ ps) (h4 : Part.held ∈ ps) (h5 : Part.nextHeld ∈ ps) (h6 : Part.net ∈ ps) (h7 : Part.waits ∈ ps) (h8 :
    Part.draws ∈ ps) (d : Dev) (l : Nat) (f : Frame) (t : FabricTime) (tagged : Bool) (mark : Bool) (q : Nat) :
    (Dev.goMulticast d l f t tagged mark q).without ps = d.without ps := by
  unfold Dev.goMulticast
  repeat' first
    | with_reducible rfl
    | simp only [Dev.broadcast_without, Dev.admitFrame_without, Dev.sampleLost_without, Dev.followIf_without, h0, h1, h2,
        h3, h4, h5, h6, h7, h8]
    | split
    | rw [Dev.admitFrame_without_of h0 h1 h2 h3 h4 h5 h6 h8 (by assumption)]
    | (rename_i k9; rw [Dev.admitFrame_without_of h0 h1 h2 h3 h4 h5 h6 h8 k9])
    | (rename_i k9 _; rw [Dev.admitFrame_without_of h0 h1 h2 h3 h4 h5 h6 h8 k9])
    | (rename_i k9 _ _; rw [Dev.admitFrame_without_of h0 h1 h2 h3 h4 h5 h6 h8 k9])
    | (rename_i k9 _ _ _; rw [Dev.admitFrame_without_of h0 h1 h2 h3 h4 h5 h6 h8 k9])

theorem Dev.routeHead_without {ps : List Part} (h0 : Part.lanes ∈ ps) (h1 : Part.crates ∈ ps) (h2 : Part.log ∈ ps) (h3 :
    Part.tele ∈ ps) (h4 : Part.held ∈ ps) (h5 : Part.nextHeld ∈ ps) (h6 : Part.net ∈ ps) (h7 : Part.waits ∈ ps) (h8 :
    Part.draws ∈ ps) (d : Dev) (l : Nat) (f : Frame) (t : FabricTime) (tagged : Bool) (mark : Bool) (look : Look) :
    (Dev.routeHead d l f t tagged mark look).without ps = d.without ps := by
  unfold Dev.routeHead
  repeat' first
    | with_reducible rfl
    | simp only [Dev.raise_without, Dev.pickLane_without, Dev.pickRing_without, Dev.lostHead_without,
        Dev.goTowards_without, Dev.goMulticast_without, h0, h1, h2, h3, h4, h5, h6, h7, h8]
    | split
    | rw [Dev.pickLane_without_of h1 (by assumption)]
    | (rename_i k9; rw [Dev.pickLane_without_of h1 k9])
    | (rename_i k9 _; rw [Dev.pickLane_without_of h1 k9])
    | (rename_i k9 _ _; rw [Dev.pickLane_without_of h1 k9])
    | (rename_i k9 _ _ _; rw [Dev.pickLane_without_of h1 k9])
    | rw [Dev.pickRing_without_of h1 h2 h3 (by assumption)]
    | (rename_i k9; rw [Dev.pickRing_without_of h1 h2 h3 k9])
    | (rename_i k9 _; rw [Dev.pickRing_without_of h1 h2 h3 k9])
    | (rename_i k9 _ _; rw [Dev.pickRing_without_of h1 h2 h3 k9])
    | (rename_i k9 _ _ _; rw [Dev.pickRing_without_of h1 h2 h3 k9])

theorem Dev.forward_without {ps : List Part} (h0 : Part.lanes ∈ ps) (h1 : Part.crates ∈ ps) (h2 : Part.log ∈ ps) (h3 :
    Part.tele ∈ ps) (h4 : Part.held ∈ ps) (h5 : Part.nextHeld ∈ ps) (h6 : Part.net ∈ ps) (h7 : Part.waits ∈ ps) (h8 :
    Part.flows ∈ ps) (h9 : Part.draws ∈ ps) (d : Dev) (l : Nat) (f : Frame) (t : FabricTime) (tagged : Bool) :
    (Dev.forward d l f t tagged).without ps = d.without ps := by
  unfold Dev.forward
  repeat' first
    | with_reducible rfl
    | simp only [Dev.discardHead_without, Dev.police_without, Dev.sampleLost_without, Dev.lostHead_without,
        Dev.routeHead_without, h0, h1, h2, h3, h4, h5, h6, h7, h8, h9]
    | split
    | rw [Dev.police_without_of h1 h2 h3 h8 (by assumption)]
    | (rename_i k9; rw [Dev.police_without_of h1 h2 h3 h8 k9])
    | (rename_i k9 _; rw [Dev.police_without_of h1 h2 h3 h8 k9])
    | (rename_i k9 _ _; rw [Dev.police_without_of h1 h2 h3 h8 k9])
    | (rename_i k9 _ _ _; rw [Dev.police_without_of h1 h2 h3 h8 k9])

theorem Dev.data_without {ps : List Part} (h0 : Part.lanes ∈ ps) (h1 : Part.crates ∈ ps) (h2 : Part.log ∈ ps) (h3 :
    Part.tele ∈ ps) (h4 : Part.held ∈ ps) (h5 : Part.nextHeld ∈ ps) (h6 : Part.net ∈ ps) (h7 : Part.waits ∈ ps) (h8 :
    Part.flows ∈ ps) (h9 : Part.draws ∈ ps) (d : Dev) (l : Nat) (f : Frame) (t : FabricTime) :
    (Dev.data d l f t).without ps = d.without ps := by
  unfold Dev.data
  repeat' first
    | with_reducible rfl
    | simp only [Dev.frameHead_without, Dev.admitHead_without, Dev.tagDraw_without, Dev.sampleLost_without,
        Dev.forward_without, h0, h1, h2, h3, h4, h5, h6, h7, h8, h9]
    | split
    | rw [Dev.frameHead_without_of h0 h2 h3 h6 (by assumption)]
    | (rename_i k9; rw [Dev.frameHead_without_of h0 h2 h3 h6 k9])
    | (rename_i k9 _; rw [Dev.frameHead_without_of h0 h2 h3 h6 k9])
    | (rename_i k9 _ _; rw [Dev.frameHead_without_of h0 h2 h3 h6 k9])
    | (rename_i k9 _ _ _; rw [Dev.frameHead_without_of h0 h2 h3 h6 k9])
    | rw [Dev.admitHead_without_of h0 h1 h2 h3 h4 h6 h9 (by assumption)]
    | (rename_i k9; rw [Dev.admitHead_without_of h0 h1 h2 h3 h4 h6 h9 k9])
    | (rename_i k9 _; rw [Dev.admitHead_without_of h0 h1 h2 h3 h4 h6 h9 k9])
    | (rename_i k9 _ _; rw [Dev.admitHead_without_of h0 h1 h2 h3 h4 h6 h9 k9])
    | (rename_i k9 _ _ _; rw [Dev.admitHead_without_of h0 h1 h2 h3 h4 h6 h9 k9])
    | rw [Dev.tagDraw_without_of h1 (by assumption)]
    | (rename_i k9; rw [Dev.tagDraw_without_of h1 k9])
    | (rename_i k9 _; rw [Dev.tagDraw_without_of h1 k9])
    | (rename_i k9 _ _; rw [Dev.tagDraw_without_of h1 k9])
    | (rename_i k9 _ _ _; rw [Dev.tagDraw_without_of h1 k9])

theorem Dev.dataEcc_without {ps : List Part} (h0 : Part.lanes ∈ ps) (h1 : Part.crates ∈ ps) (h2 : Part.log ∈ ps) (h3 :
    Part.tele ∈ ps) (h4 : Part.held ∈ ps) (h5 : Part.nextHeld ∈ ps) (h6 : Part.net ∈ ps) (h7 : Part.waits ∈ ps) (h8 :
    Part.flows ∈ ps) (h9 : Part.draws ∈ ps) (d : Dev) (l : Nat) (f : Frame) (t : FabricTime) (ecc : Nat) :
    (Dev.dataEcc d l f t ecc).without ps = d.without ps := by
  unfold Dev.dataEcc
  repeat' first
    | with_reducible rfl
    | simp only [Dev.larderError_without, Dev.data_without, h0, h1, h2, h3, h4, h5, h6, h7, h8, h9]
    | split

theorem Dev.pullEcc_without {ps : List Part} (h0 : Part.lanes ∈ ps) (h1 : Part.crates ∈ ps) (h2 : Part.arb ∈ ps) (h3 :
    Part.log ∈ ps) (h4 : Part.tele ∈ ps) (h5 : Part.held ∈ ps) (h6 : Part.net ∈ ps) (d : Dev) (l : Nat) (ecc : Nat) :
    (Dev.pullEcc d l ecc).without ps = d.without ps := by
  unfold Dev.pullEcc
  repeat' first
    | with_reducible rfl
    | simp only [Dev.pull_without, Dev.larderError_without, h0, h1, h2, h3, h4, h5, h6]
    | split

theorem Dev.countTaken_without {ps : List Part} (h0 : Part.lanes ∈ ps) (d : Dev) (l : Nat) (f : Frame) :
    (Dev.countTaken d l f).without ps = d.without ps := by
  unfold Dev.countTaken
  repeat' first
    | with_reducible rfl
    | simp only [Dev.modEgress_without, h0]
    | split

theorem Dev.freeAtOnce_without {ps : List Part} (h0 : Part.lanes ∈ ps) (d : Dev) (h : Nat) :
    (Dev.freeAtOnce d h).without ps = d.without ps := by
  unfold Dev.freeAtOnce
  repeat' first
    | with_reducible rfl
    | simp only [Dev.freeRun_without, h0]
    | split

theorem Dev.frameTail_without {ps : List Part} (h0 : Part.lanes ∈ ps) (h1 : Part.crates ∈ ps) (h2 : Part.log ∈ ps) (h3 :
    Part.tele ∈ ps) (h4 : Part.held ∈ ps) (h5 : Part.net ∈ ps) (d : Dev) (l : Nat) (fcs : Fcs) (t : FabricTime) :
    (Dev.frameTail d l fcs t).1.without ps = d.without ps := by
  unfold Dev.frameTail
  repeat' first
    | with_reducible rfl
    | simp only [Dev.modRx_without, Dev.count_without, Dev.raise_without, Dev.modHeld_without, Dev.freeRun_without,
        Dev.uncount_without, Dev.makeBad_without, Dev.askNack_without, Dev.takeSeq_without, Dev.countTaken_without,
        Dev.freeAtOnce_without, h0, h1, h2, h3, h4, h5]
    | split

theorem Dev.frameTail_without_of {ps : List Part} (h0 : Part.lanes ∈ ps) (h1 : Part.crates ∈ ps) (h2 : Part.log ∈ ps) (h3 :
    Part.tele ∈ ps) (h4 : Part.held ∈ ps) (h5 : Part.net ∈ ps) {d : Dev} {l : Nat} {fcs : Fcs} {t : FabricTime} {a9 :
    Option Nat} {e9 : Dev} (h : Dev.frameTail d l fcs t = (e9, a9)) :
    e9.without ps = d.without ps := by
  have k := Dev.frameTail_without h0 h1 h2 h3 h4 h5 d l fcs t
  rw [h] at k
  exact k

theorem Dev.passFlits_without {ps : List Part} (h0 : Part.lanes ∈ ps) (h1 : Part.crates ∈ ps) (h2 : Part.log ∈ ps) (h3 :
    Part.tele ∈ ps) (h4 : Part.held ∈ ps) (h5 : Part.net ∈ ps) (h6 : Part.draws ∈ ps) (d : Dev) (l : Nat) (vc : Nat) (flits
    : Nat) (counts : Bool) :
    (Dev.passFlits d l vc flits counts).without ps = d.without ps := by
  unfold Dev.passFlits
  repeat' first
    | with_reducible rfl
    | simp only [Dev.passRun_without, Dev.stageFlits_without, h0, h1, h2, h3, h4, h5, h6]
    | split

theorem Dev.wholeFrame_without {ps : List Part} (h0 : Part.lanes ∈ ps) (h1 : Part.crates ∈ ps) (h2 : Part.log ∈ ps) (h3 :
    Part.tele ∈ ps) (h4 : Part.held ∈ ps) (h5 : Part.net ∈ ps) (h6 : Part.draws ∈ ps) (d : Dev) (l : Nat) (f : Frame) (fcs
    : Fcs) (t : FabricTime) :
    (Dev.wholeFrame d l f fcs t).1.without ps = d.without ps := by
  unfold Dev.wholeFrame
  repeat' first
    | with_reducible rfl
    | simp only [Dev.frameHead_without, Dev.startRx_without, Dev.admitHead_without, Dev.tagDraw_without,
        Dev.frameTail_without, Dev.passFlits_without, h0, h1, h2, h3, h4, h5, h6]
    | split
    | rw [Dev.frameHead_without_of h0 h2 h3 h5 (by assumption)]
    | (rename_i k9; rw [Dev.frameHead_without_of h0 h2 h3 h5 k9])
    | (rename_i k9 _; rw [Dev.frameHead_without_of h0 h2 h3 h5 k9])
    | (rename_i k9 _ _; rw [Dev.frameHead_without_of h0 h2 h3 h5 k9])
    | (rename_i k9 _ _ _; rw [Dev.frameHead_without_of h0 h2 h3 h5 k9])
    | rw [Dev.admitHead_without_of h0 h1 h2 h3 h4 h5 h6 (by assumption)]
    | (rename_i k9; rw [Dev.admitHead_without_of h0 h1 h2 h3 h4 h5 h6 k9])
    | (rename_i k9 _; rw [Dev.admitHead_without_of h0 h1 h2 h3 h4 h5 h6 k9])
    | (rename_i k9 _ _; rw [Dev.admitHead_without_of h0 h1 h2 h3 h4 h5 h6 k9])
    | (rename_i k9 _ _ _; rw [Dev.admitHead_without_of h0 h1 h2 h3 h4 h5 h6 k9])
    | rw [Dev.tagDraw_without_of h1 (by assumption)]
    | (rename_i k9; rw [Dev.tagDraw_without_of h1 k9])
    | (rename_i k9 _; rw [Dev.tagDraw_without_of h1 k9])
    | (rename_i k9 _ _; rw [Dev.tagDraw_without_of h1 k9])
    | (rename_i k9 _ _ _; rw [Dev.tagDraw_without_of h1 k9])
    | rw [Dev.frameTail_without_of h0 h1 h2 h3 h4 h5 (by assumption)]
    | (rename_i k9; rw [Dev.frameTail_without_of h0 h1 h2 h3 h4 h5 k9])
    | (rename_i k9 _; rw [Dev.frameTail_without_of h0 h1 h2 h3 h4 h5 k9])
    | (rename_i k9 _ _; rw [Dev.frameTail_without_of h0 h1 h2 h3 h4 h5 k9])
    | (rename_i k9 _ _ _; rw [Dev.frameTail_without_of h0 h1 h2 h3 h4 h5 k9])

theorem Dev.wholeFrame_without_of {ps : List Part} (h0 : Part.lanes ∈ ps) (h1 : Part.crates ∈ ps) (h2 : Part.log ∈ ps) (h3
    : Part.tele ∈ ps) (h4 : Part.held ∈ ps) (h5 : Part.net ∈ ps) (h6 : Part.draws ∈ ps) {d : Dev} {l : Nat} {f : Frame}
    {fcs : Fcs} {t : FabricTime} {a9 : Bool} {e9 : Dev} (h : Dev.wholeFrame d l f fcs t = (e9, a9)) :
    e9.without ps = d.without ps := by
  have k := Dev.wholeFrame_without h0 h1 h2 h3 h4 h5 h6 d l f fcs t
  rw [h] at k
  exact k

theorem Dev.mgmt_without {ps : List Part} (h0 : Part.lanes ∈ ps) (h1 : Part.crates ∈ ps) (h2 : Part.log ∈ ps) (h3 :
    Part.tele ∈ ps) (h4 : Part.held ∈ ps) (h5 : Part.nextHeld ∈ ps) (h6 : Part.net ∈ ps) (h7 : Part.waits ∈ ps) (h8 :
    Part.flows ∈ ps) (h9 : Part.out ∈ ps) (h10 : Part.draws ∈ ps) (d : Dev) (l : Nat) (f : Frame) (fcs : Fcs) (t :
    FabricTime) :
    (Dev.mgmt d l f fcs t).without ps = d.without ps := by
  unfold Dev.mgmt
  repeat' first
    | with_reducible rfl
    | simp only [Dev.emit_without, Dev.count_without, Dev.frameHead_without, Dev.admitHead_without, Dev.tagDraw_without,
        Dev.larderWrites_without, Dev.sampleLost_without, Dev.forward_without, Dev.passFlits_without,
        Dev.wholeFrame_without, h0, h1, h2, h3, h4, h5, h6, h7, h8, h9, h10]
    | split
    | rw [Dev.frameHead_without_of h0 h2 h3 h6 (by assumption)]
    | (rename_i k9; rw [Dev.frameHead_without_of h0 h2 h3 h6 k9])
    | (rename_i k9 _; rw [Dev.frameHead_without_of h0 h2 h3 h6 k9])
    | (rename_i k9 _ _; rw [Dev.frameHead_without_of h0 h2 h3 h6 k9])
    | (rename_i k9 _ _ _; rw [Dev.frameHead_without_of h0 h2 h3 h6 k9])
    | rw [Dev.admitHead_without_of h0 h1 h2 h3 h4 h6 h10 (by assumption)]
    | (rename_i k9; rw [Dev.admitHead_without_of h0 h1 h2 h3 h4 h6 h10 k9])
    | (rename_i k9 _; rw [Dev.admitHead_without_of h0 h1 h2 h3 h4 h6 h10 k9])
    | (rename_i k9 _ _; rw [Dev.admitHead_without_of h0 h1 h2 h3 h4 h6 h10 k9])
    | (rename_i k9 _ _ _; rw [Dev.admitHead_without_of h0 h1 h2 h3 h4 h6 h10 k9])
    | rw [Dev.tagDraw_without_of h1 (by assumption)]
    | (rename_i k9; rw [Dev.tagDraw_without_of h1 k9])
    | (rename_i k9 _; rw [Dev.tagDraw_without_of h1 k9])
    | (rename_i k9 _ _; rw [Dev.tagDraw_without_of h1 k9])
    | (rename_i k9 _ _ _; rw [Dev.tagDraw_without_of h1 k9])
    | rw [Dev.wholeFrame_without_of h0 h1 h2 h3 h4 h6 h10 (by assumption)]
    | (rename_i k9; rw [Dev.wholeFrame_without_of h0 h1 h2 h3 h4 h6 h10 k9])
    | (rename_i k9 _; rw [Dev.wholeFrame_without_of h0 h1 h2 h3 h4 h6 h10 k9])
    | (rename_i k9 _ _; rw [Dev.wholeFrame_without_of h0 h1 h2 h3 h4 h6 h10 k9])
    | (rename_i k9 _ _ _; rw [Dev.wholeFrame_without_of h0 h1 h2 h3 h4 h6 h10 k9])

theorem Dev.otherFrame_without {ps : List Part} (h0 : Part.lanes ∈ ps) (h1 : Part.log ∈ ps) (h2 : Part.tele ∈ ps) (h3 :
    Part.net ∈ ps) (h4 : Part.out ∈ ps) (d : Dev) (l : Nat) (f : Frame) (fcs : Fcs) (t : FabricTime) :
    (Dev.otherFrame d l f fcs t).without ps = d.without ps := by
  unfold Dev.otherFrame
  repeat' first
    | with_reducible rfl
    | simp only [Dev.emit_without, Dev.count_without, Dev.raise_without, Dev.frameHead_without, h0, h1, h2, h3, h4]
    | split
    | rw [Dev.frameHead_without_of h0 h1 h2 h3 (by assumption)]
    | (rename_i k9; rw [Dev.frameHead_without_of h0 h1 h2 h3 k9])
    | (rename_i k9 _; rw [Dev.frameHead_without_of h0 h1 h2 h3 k9])
    | (rename_i k9 _ _; rw [Dev.frameHead_without_of h0 h1 h2 h3 k9])
    | (rename_i k9 _ _ _; rw [Dev.frameHead_without_of h0 h1 h2 h3 k9])

theorem Dev.ptpFrame_without {ps : List Part} (h0 : Part.lanes ∈ ps) (h1 : Part.log ∈ ps) (h2 : Part.tele ∈ ps) (h3 :
    Part.net ∈ ps) (h4 : Part.out ∈ ps) (d : Dev) (l : Nat) (f : Frame) (fcs : Fcs) (t : FabricTime) :
    (Dev.ptpFrame d l f fcs t).without ps = d.without ps := by
  unfold Dev.ptpFrame
  repeat' first
    | with_reducible rfl
    | simp only [Dev.otherFrame_without, h0, h1, h2, h3, h4]
    | split

theorem Dev.foreignFrame_without {ps : List Part} (h0 : Part.lanes ∈ ps) (h1 : Part.log ∈ ps) (h2 : Part.tele ∈ ps) (h3 :
    Part.net ∈ ps) (h4 : Part.out ∈ ps) (d : Dev) (l : Nat) (f : Frame) (fcs : Fcs) (t : FabricTime) :
    (Dev.foreignFrame d l f fcs t).without ps = d.without ps := by
  unfold Dev.foreignFrame
  repeat' first
    | with_reducible rfl
    | simp only [Dev.otherFrame_without, h0, h1, h2, h3, h4]
    | split

theorem Dev.controlFrameArrives_without {ps : List Part} (h0 : Part.lanes ∈ ps) (h1 : Part.crates ∈ ps) (h2 : Part.log ∈
    ps) (h3 : Part.tele ∈ ps) (h4 : Part.held ∈ ps) (h5 : Part.net ∈ ps) (h6 : Part.draws ∈ ps) (d : Dev) (opcode : Nat) (l
    : Nat) (f : Frame) (fcs : Fcs) (t : FabricTime) :
    (Dev.controlFrameArrives d opcode l f fcs t).1.without ps = d.without ps := by
  unfold Dev.controlFrameArrives
  repeat' first
    | with_reducible rfl
    | simp only [Dev.controlArrives_without, Dev.wholeFrame_without, h0, h1, h2, h3, h4, h5, h6]
    | split
    | rw [Dev.controlArrives_without_of h0 h2 h3 h5 (by assumption)]
    | (rename_i k9; rw [Dev.controlArrives_without_of h0 h2 h3 h5 k9])
    | (rename_i k9 _; rw [Dev.controlArrives_without_of h0 h2 h3 h5 k9])
    | (rename_i k9 _ _; rw [Dev.controlArrives_without_of h0 h2 h3 h5 k9])
    | (rename_i k9 _ _ _; rw [Dev.controlArrives_without_of h0 h2 h3 h5 k9])
    | rw [Dev.wholeFrame_without_of h0 h1 h2 h3 h4 h5 h6 (by assumption)]
    | (rename_i k9; rw [Dev.wholeFrame_without_of h0 h1 h2 h3 h4 h5 h6 k9])
    | (rename_i k9 _; rw [Dev.wholeFrame_without_of h0 h1 h2 h3 h4 h5 h6 k9])
    | (rename_i k9 _ _; rw [Dev.wholeFrame_without_of h0 h1 h2 h3 h4 h5 h6 k9])
    | (rename_i k9 _ _ _; rw [Dev.wholeFrame_without_of h0 h1 h2 h3 h4 h5 h6 k9])

theorem Dev.controlFrameArrives_without_of {ps : List Part} (h0 : Part.lanes ∈ ps) (h1 : Part.crates ∈ ps) (h2 : Part.log ∈
    ps) (h3 : Part.tele ∈ ps) (h4 : Part.held ∈ ps) (h5 : Part.net ∈ ps) (h6 : Part.draws ∈ ps) {d : Dev} {opcode : Nat} {l
    : Nat} {f : Frame} {fcs : Fcs} {t : FabricTime} {a9 : Bool} {e9 : Dev} (h : Dev.controlFrameArrives d opcode l f fcs t
    = (e9, a9)) :
    e9.without ps = d.without ps := by
  have k := Dev.controlFrameArrives_without h0 h1 h2 h3 h4 h5 h6 d opcode l f fcs t
  rw [h] at k
  exact k

theorem Dev.helloArrives_without {ps : List Part} (h0 : Part.lanes ∈ ps) (h1 : Part.ports ∈ ps) (h2 : Part.crates ∈ ps) (h3
    : Part.log ∈ ps) (h4 : Part.tele ∈ ps) (h5 : Part.held ∈ ps) (h6 : Part.net ∈ ps) (h7 : Part.draws ∈ ps) (d : Dev) (l :
    Nat) (f : Frame) (fcs : Fcs) (t : FabricTime) :
    (Dev.helloArrives d l f fcs t).without ps = d.without ps := by
  unfold Dev.helloArrives
  repeat' first
    | with_reducible rfl
    | simp only [Dev.raiseOnLane_without, Dev.takeHello_without, Dev.controlFrameArrives_without, h0, h1, h2, h3, h4, h5,
        h6, h7]
    | split
    | rw [Dev.controlFrameArrives_without_of h0 h2 h3 h4 h5 h6 h7 (by assumption)]
    | (rename_i k9; rw [Dev.controlFrameArrives_without_of h0 h2 h3 h4 h5 h6 h7 k9])
    | (rename_i k9 _; rw [Dev.controlFrameArrives_without_of h0 h2 h3 h4 h5 h6 h7 k9])
    | (rename_i k9 _ _; rw [Dev.controlFrameArrives_without_of h0 h2 h3 h4 h5 h6 h7 k9])
    | (rename_i k9 _ _ _; rw [Dev.controlFrameArrives_without_of h0 h2 h3 h4 h5 h6 h7 k9])

theorem Dev.link_without {ps : List Part} (h0 : Part.lanes ∈ ps) (h1 : Part.crates ∈ ps) (h2 : Part.log ∈ ps) (h3 :
    Part.tele ∈ ps) (h4 : Part.held ∈ ps) (h5 : Part.net ∈ ps) (h6 : Part.draws ∈ ps) (d : Dev) (l : Nat) (f : Frame) (fcs
    : Fcs) (t : FabricTime) :
    (Dev.link d l f fcs t).without ps = d.without ps := by
  unfold Dev.link
  repeat' first
    | with_reducible rfl
    | simp only [Dev.modTx_without, Dev.raise_without, Dev.ackLane_without, Dev.controlFrameArrives_without, h0, h1, h2,
        h3, h4, h5, h6]
    | split
    | with_reducible refine (foldl_without ps _ (fun e x => ?_) _ _).trans ?_
    | with_reducible refine (foldl_without_fst ps _ (fun e x => ?_) _ _).trans ?_
    | with_reducible refine (foldl_without_snd ps _ (fun e x => ?_) _ _).trans ?_
    | rw [Dev.controlFrameArrives_without_of h0 h1 h2 h3 h4 h5 h6 (by assumption)]
    | (rename_i k9; rw [Dev.controlFrameArrives_without_of h0 h1 h2 h3 h4 h5 h6 k9])
    | (rename_i k9 _; rw [Dev.controlFrameArrives_without_of h0 h1 h2 h3 h4 h5 h6 k9])
    | (rename_i k9 _ _; rw [Dev.controlFrameArrives_without_of h0 h1 h2 h3 h4 h5 h6 k9])
    | (rename_i k9 _ _ _; rw [Dev.controlFrameArrives_without_of h0 h1 h2 h3 h4 h5 h6 k9])

theorem Dev.laneReset_without {ps : List Part} (h0 : Part.lanes ∈ ps) (h1 : Part.ports ∈ ps) (h2 : Part.crates ∈ ps) (h3 :
    Part.log ∈ ps) (h4 : Part.tele ∈ ps) (h5 : Part.held ∈ ps) (h6 : Part.net ∈ ps) (h7 : Part.out ∈ ps) (d : Dev) (l :
    Nat) :
    (Dev.laneReset d l).without ps = d.without ps := by
  unfold Dev.laneReset
  repeat' first
    | with_reducible rfl
    | simp only [Dev.modTx_without, Dev.countN_without, Dev.raise_without, Dev.replay_without, Dev.dropLock_without,
        Dev.evalLane_without, h0, h1, h2, h3, h4, h5, h6, h7]
    | split

theorem Dev.lnack_without {ps : List Part} (h0 : Part.lanes ∈ ps) (h1 : Part.ports ∈ ps) (h2 : Part.crates ∈ ps) (h3 :
    Part.log ∈ ps) (h4 : Part.tele ∈ ps) (h5 : Part.held ∈ ps) (h6 : Part.net ∈ ps) (h7 : Part.out ∈ ps) (h8 : Part.draws ∈
    ps) (d : Dev) (l : Nat) (f : Frame) (fcs : Fcs) (t : FabricTime) :
    (Dev.lnack d l f fcs t).without ps = d.without ps := by
  unfold Dev.lnack
  repeat' first
    | with_reducible rfl
    | simp only [Dev.count_without, Dev.raise_without, Dev.ackLane_without, Dev.triggerReplay_without,
        Dev.controlFrameArrives_without, Dev.laneReset_without, h0, h1, h2, h3, h4, h5, h6, h7, h8]
    | split
    | rw [Dev.triggerReplay_without_of h0 (by assumption)]
    | (rename_i k9; rw [Dev.triggerReplay_without_of h0 k9])
    | (rename_i k9 _; rw [Dev.triggerReplay_without_of h0 k9])
    | (rename_i k9 _ _; rw [Dev.triggerReplay_without_of h0 k9])
    | (rename_i k9 _ _ _; rw [Dev.triggerReplay_without_of h0 k9])
    | rw [Dev.controlFrameArrives_without_of h0 h2 h3 h4 h5 h6 h8 (by assumption)]
    | (rename_i k9; rw [Dev.controlFrameArrives_without_of h0 h2 h3 h4 h5 h6 h8 k9])
    | (rename_i k9 _; rw [Dev.controlFrameArrives_without_of h0 h2 h3 h4 h5 h6 h8 k9])
    | (rename_i k9 _ _; rw [Dev.controlFrameArrives_without_of h0 h2 h3 h4 h5 h6 h8 k9])
    | (rename_i k9 _ _ _; rw [Dev.controlFrameArrives_without_of h0 h2 h3 h4 h5 h6 h8 k9])

theorem Dev.ackDeadlinePassed_without {ps : List Part} (h0 : Part.lanes ∈ ps) (h1 : Part.ports ∈ ps) (h2 : Part.crates ∈
    ps) (h3 : Part.log ∈ ps) (h4 : Part.tele ∈ ps) (h5 : Part.held ∈ ps) (h6 : Part.net ∈ ps) (h7 : Part.out ∈ ps) (d :
    Dev) (l : Nat) :
    (Dev.ackDeadlinePassed d l).without ps = d.without ps := by
  unfold Dev.ackDeadlinePassed
  repeat' first
    | with_reducible rfl
    | simp only [Dev.raise_without, Dev.triggerReplay_without, Dev.replay_without, Dev.laneReset_without, h0, h1, h2, h3,
        h4, h5, h6, h7]
    | split
    | rw [Dev.triggerReplay_without_of h0 (by assumption)]
    | (rename_i k9; rw [Dev.triggerReplay_without_of h0 k9])
    | (rename_i k9 _; rw [Dev.triggerReplay_without_of h0 k9])
    | (rename_i k9 _ _; rw [Dev.triggerReplay_without_of h0 k9])
    | (rename_i k9 _ _ _; rw [Dev.triggerReplay_without_of h0 k9])

theorem Dev.creditLate_without {ps : List Part} (h0 : Part.lanes ∈ ps) (h1 : Part.log ∈ ps) (h2 : Part.tele ∈ ps) (d : Dev)
    (l : Nat) :
    (Dev.creditLate d l).without ps = d.without ps := by
  unfold Dev.creditLate
  repeat' first
    | with_reducible rfl
    | simp only [Dev.modTx_without, Dev.raise_without, h0, h1, h2]
    | split

theorem Dev.setStalled_without {ps : List Part} (h0 : Part.lanes ∈ ps) (h1 : Part.crates ∈ ps) (h2 : Part.stackTab ∈ ps)
    (h3 : Part.arb ∈ ps) (d : Dev) (a : Arbiter) : (d.setStalled a).without ps = d.without ps := by
  cases a <;> simp only [Dev.setStalled, Dev.modEgress_without, Dev.modPath_without, without_set_arb,
    without_set_stackTab, h0, h1, h2, h3]

theorem Dev.wormCut_without {ps : List Part} (h0 : Part.lanes ∈ ps) (h1 : Part.crates ∈ ps) (h2 : Part.stackTab ∈ ps) (h3 :
    Part.arb ∈ ps) (h4 : Part.log ∈ ps) (h5 : Part.tele ∈ ps) (h6 : Part.held ∈ ps) (h7 : Part.net ∈ ps) (d : Dev) (a :
    Arbiter) (h : Nat) :
    (Dev.wormCut d a h).without ps = d.without ps := by
  unfold Dev.wormCut
  repeat' first
    | with_reducible rfl
    | simp only [Dev.raise_without, Dev.makeBad_without, Dev.setStalled_without, h0, h1, h2, h3, h4, h5, h6, h7]
    | split

theorem Dev.prepare_without {ps : List Part} (h0 : Part.versions ∈ ps) (d : Dev) (v : Nat) :
    (Dev.prepare d v).without ps = d.without ps := by
  unfold Dev.prepare
  repeat' first
    | with_reducible rfl
    | simp only [without_set_versions, h0]
    | split

theorem Dev.flip_without {ps : List Part} (h0 : Part.log ∈ ps) (h1 : Part.tele ∈ ps) (h2 : Part.versions ∈ ps) (d : Dev) (v
    : Nat) :
    (Dev.flip d v).without ps = d.without ps := by
  unfold Dev.flip
  repeat' first
    | with_reducible rfl
    | simp only [Dev.raise_without, without_set_versions, h0, h1, h2]
    | split

theorem Dev.retire_without {ps : List Part} (h0 : Part.log ∈ ps) (h1 : Part.tele ∈ ps) (h2 : Part.versions ∈ ps) (d : Dev) :
    (Dev.retire d).without ps = d.without ps := by
  unfold Dev.retire
  repeat' first
    | with_reducible rfl
    | simp only [Dev.raise_without, without_set_versions, h0, h1, h2]
    | split

end Sys2Proof.Machine
end

