-- ==== Sys2Proof/Laws/FrameContexts.lean ====
section
/-! SUPPORT. What each named operation leaves alone, one lemma for each: the collective contexts. Each names the parts that
the operation may change, so a caller's frame follows by citing the lemmas of what it calls. -/

set_option Elab.async false
set_option linter.unusedSimpArgs false
set_option linter.unusedVariables false

namespace Sys2Proof.Machine

theorem Dev.putCtx_without {ps : List Part} (h0 : Part.contexts ∈ ps) (d : Dev) (c : Nat) (x : Option Context) :
    (Dev.putCtx d c x).without ps = d.without ps := by
  unfold Dev.putCtx
  repeat' first
    | with_reducible rfl
    | simp only [without_set_contexts, h0]
    | split

theorem Dev.modCtx_without {ps : List Part} (h0 : Part.contexts ∈ ps) (d : Dev) (c : Nat) (f : Context → Context) :
    (Dev.modCtx d c f).without ps = d.without ps := by
  unfold Dev.modCtx
  repeat' first
    | with_reducible rfl
    | simp only [Dev.putCtx_without, h0]
    | split

theorem Dev.modGroup_without {ps : List Part} (h0 : Part.contexts ∈ ps) (d : Dev) (c : Nat) (key : Nat) (f : Group → Group)
    :
    (Dev.modGroup d c key f).without ps = d.without ps := by
  unfold Dev.modGroup
  repeat' first
    | with_reducible rfl
    | simp only [Dev.modCtx_without, h0]
    | split

theorem Dev.raiseCtxN_without {ps : List Part} (h0 : Part.log ∈ ps) (h1 : Part.tele ∈ ps) (d : Dev) (code : Nat) (ctx :
    Nat) (gen : Nat) (n : Nat) (b : Nat) :
    (Dev.raiseCtxN d code ctx gen n b).without ps = d.without ps := by
  unfold Dev.raiseCtxN
  repeat' first
    | with_reducible rfl
    | simp only [Dev.countN_without, Dev.raiseCtx_without, h0, h1]
    | split

theorem Dev.dropUpward_without {ps : List Part} (h0 : Part.lanes ∈ ps) (h1 : Part.crates ∈ ps) (h2 : Part.log ∈ ps) (h3 :
    Part.tele ∈ ps) (h4 : Part.held ∈ ps) (d : Dev) (h : Nat) :
    (Dev.dropUpward d h).without ps = d.without ps := by
  unfold Dev.dropUpward
  repeat' first
    | with_reducible rfl
    | simp only [Dev.putHeld_without, Dev.dropHeld_without, h0, h1, h2, h3, h4]
    | split

theorem Dev.abandonUpward_without {ps : List Part} (h0 : Part.lanes ∈ ps) (h1 : Part.crates ∈ ps) (h2 : Part.log ∈ ps) (h3
    : Part.tele ∈ ps) (h4 : Part.held ∈ ps) (d : Dev) (ctx : Nat) (h : Nat) :
    (Dev.abandonUpward d ctx h).without ps = d.without ps := by
  unfold Dev.abandonUpward
  repeat' first
    | with_reducible rfl
    | simp only [Dev.raiseCtx_without, Dev.dropUpward_without, h0, h1, h2, h3, h4]
    | split

theorem Dev.consume_without {ps : List Part} (h0 : Part.consumed ∈ ps) (d : Dev) (c : Contrib) :
    (Dev.consume d c).without ps = d.without ps := by
  unfold Dev.consume
  repeat' first
    | with_reducible rfl
    | simp only [without_set_consumed, h0]
    | split

theorem Dev.dropWaiting_without {ps : List Part} (h0 : Part.consumed ∈ ps) (h1 : Part.contexts ∈ ps) (d : Dev) (ctx : Nat) :
    (Dev.dropWaiting d ctx).without ps = d.without ps := by
  unfold Dev.dropWaiting
  repeat' first
    | with_reducible rfl
    | simp only [Dev.putCtx_without, Dev.consume_without, h0, h1]
    | split
    | with_reducible refine (foldl_without ps _ (fun e x => ?_) _ _).trans ?_
    | with_reducible refine (foldl_without_fst ps _ (fun e x => ?_) _ _).trans ?_
    | with_reducible refine (foldl_without_snd ps _ (fun e x => ?_) _ _).trans ?_

theorem Dev.remapDone_without {ps : List Part} (h0 : Part.log ∈ ps) (h1 : Part.tele ∈ ps) (d : Dev) (n : Nat) :
    (Dev.remapDone d n).without ps = d.without ps := by
  unfold Dev.remapDone
  repeat' first
    | with_reducible rfl
    | simp only [Dev.raise_without, h0, h1]
    | split

theorem Dev.finishMoves_without {ps : List Part} (h0 : Part.log ∈ ps) (h1 : Part.tele ∈ ps) (h2 : Part.contexts ∈ ps) (d :
    Dev) (ctx : Nat) :
    (Dev.finishMoves d ctx).without ps = d.without ps := by
  unfold Dev.finishMoves
  repeat' first
    | with_reducible rfl
    | simp only [Dev.modCtx_without, Dev.remapDone_without, h0, h1, h2]
    | split
    | with_reducible refine (foldl_without ps _ (fun e x => ?_) _ _).trans ?_
    | with_reducible refine (foldl_without_fst ps _ (fun e x => ?_) _ _).trans ?_
    | with_reducible refine (foldl_without_snd ps _ (fun e x => ?_) _ _).trans ?_

theorem Dev.moveGroup_without {ps : List Part} (h0 : Part.log ∈ ps) (h1 : Part.tele ∈ ps) (h2 : Part.contexts ∈ ps) (d :
    Dev) (ctx : Nat) (key : Nat) :
    (Dev.moveGroup d ctx key).without ps = d.without ps := by
  unfold Dev.moveGroup
  repeat' first
    | with_reducible rfl
    | simp only [Dev.modCtx_without, Dev.finishMoves_without, h0, h1, h2]
    | split

theorem Dev.endDrain_without {ps : List Part} (h0 : Part.lanes ∈ ps) (h1 : Part.crates ∈ ps) (h2 : Part.log ∈ ps) (h3 :
    Part.tele ∈ ps) (h4 : Part.held ∈ ps) (h5 : Part.contexts ∈ ps) (d : Dev) (ctx : Nat) (x : Context) :
    (Dev.endDrain d ctx x).without ps = d.without ps := by
  unfold Dev.endDrain
  repeat' first
    | with_reducible rfl
    | simp only [Dev.raise_without, Dev.putCtx_without, Dev.abandonUpward_without, Dev.remapDone_without,
        without_set_crates, h0, h1, h2, h3, h4, h5]
    | split
    | with_reducible refine (foldl_without ps _ (fun e x => ?_) _ _).trans ?_
    | with_reducible refine (foldl_without_fst ps _ (fun e x => ?_) _ _).trans ?_
    | with_reducible refine (foldl_without_snd ps _ (fun e x => ?_) _ _).trans ?_

theorem Dev.settleCtx_without {ps : List Part} (h0 : Part.lanes ∈ ps) (h1 : Part.crates ∈ ps) (h2 : Part.log ∈ ps) (h3 :
    Part.tele ∈ ps) (h4 : Part.held ∈ ps) (h5 : Part.contexts ∈ ps) (d : Dev) (ctx : Nat) :
    (Dev.settleCtx d ctx).without ps = d.without ps := by
  unfold Dev.settleCtx
  repeat' first
    | with_reducible rfl
    | simp only [Dev.putCtx_without, Dev.endDrain_without, h0, h1, h2, h3, h4, h5]
    | split

theorem Dev.mapRound_without {ps : List Part} (h0 : Part.tele ∈ ps) (d : Dev) (ctx : Nat) (key : Nat) (f : Tagged → Tagged)
    :
    (Dev.mapRound d ctx key f).without ps = d.without ps := by
  unfold Dev.mapRound
  repeat' first
    | with_reducible rfl
    | simp only [without_set_tele, h0]
    | split

theorem Dev.followRound_without {ps : List Part} (h0 : Part.tele ∈ ps) (d : Dev) (ctx : Nat) (key : Nat) (crate : Nat) (gen
    : Nat) (chunk : Nat) (phase : Nat) (tc : Nat) (c : Contrib) :
    (Dev.followRound d ctx key crate gen chunk phase tc c).without ps = d.without ps := by
  unfold Dev.followRound
  repeat' first
    | with_reducible rfl
    | simp only [without_set_tele, h0]
    | split

theorem Dev.touchRound_without {ps : List Part} (h0 : Part.tele ∈ ps) (d : Dev) (ctx : Nat) (key : Nat) (c : Contrib) :
    (Dev.touchRound d ctx key c).without ps = d.without ps := by
  unfold Dev.touchRound
  repeat' first
    | with_reducible rfl
    | simp only [Dev.mapRound_without, h0]
    | split

theorem Dev.abandonRound_without {ps : List Part} (h0 : Part.log ∈ ps) (h1 : Part.tele ∈ ps) (d : Dev) (ctx : Nat) (key :
    Nat) :
    (Dev.abandonRound d ctx key).without ps = d.without ps := by
  unfold Dev.abandonRound
  repeat' first
    | with_reducible rfl
    | simp only [Dev.writeSample_without, without_set_tele, h0, h1]
    | split

theorem Dev.setHealth_without {ps : List Part} (h0 : Part.log ∈ ps) (h1 : Part.inv ∈ ps) (h2 : Part.tele ∈ ps) (d : Dev) (n
    : Nat) (v : Nat) :
    (Dev.setHealth d n v).without ps = d.without ps := by
  unfold Dev.setHealth
  repeat' first
    | with_reducible rfl
    | simp only [Dev.setImm_without, Dev.raise_without, h0, h1, h2]
    | split

theorem Dev.openShadow_without {ps : List Part} (h0 : Part.crates ∈ ps) (h1 : Part.shadows ∈ ps) (d : Dev) (ctx : Nat) (x :
    Context) (key : Nat) (gen : Nat) (chunk : Nat) (planB : Bool) :
    (Dev.openShadow d ctx x key gen chunk planB).without ps = d.without ps := by
  unfold Dev.openShadow
  repeat' first
    | with_reducible rfl
    | simp only [Dev.modCrate_without, without_set_shadows, h0, h1]
    | split

theorem Dev.modShadow_without {ps : List Part} (h0 : Part.shadows ∈ ps) (d : Dev) (ctx : Nat) (key : Nat) (f : Shadow →
    Shadow) :
    (Dev.modShadow d ctx key f).without ps = d.without ps := by
  unfold Dev.modShadow
  repeat' first
    | with_reducible rfl
    | simp only [without_set_shadows, h0]
    | split

theorem Dev.dropShadow_without {ps : List Part} (h0 : Part.shadows ∈ ps) (d : Dev) (ctx : Nat) (key : Nat) :
    (Dev.dropShadow d ctx key).without ps = d.without ps := by
  unfold Dev.dropShadow
  repeat' first
    | with_reducible rfl
    | simp only [Dev.modShadow_without, without_set_shadows, h0]
    | split

theorem Dev.releaseGroup_without {ps : List Part} (h0 : Part.lanes ∈ ps) (h1 : Part.crates ∈ ps) (h2 : Part.log ∈ ps) (h3 :
    Part.tele ∈ ps) (h4 : Part.held ∈ ps) (h5 : Part.contexts ∈ ps) (d : Dev) (ctx : Nat) (key : Nat) :
    (Dev.releaseGroup d ctx key).without ps = d.without ps := by
  unfold Dev.releaseGroup
  repeat' first
    | with_reducible rfl
    | simp only [Dev.modCtx_without, Dev.settleCtx_without, h0, h1, h2, h3, h4, h5]
    | split

theorem Dev.abandonGroup_without {ps : List Part} (h0 : Part.lanes ∈ ps) (h1 : Part.crates ∈ ps) (h2 : Part.log ∈ ps) (h3 :
    Part.tele ∈ ps) (h4 : Part.held ∈ ps) (h5 : Part.contexts ∈ ps) (h6 : Part.shadows ∈ ps) (d : Dev) (ctx : Nat) (key :
    Nat) :
    (Dev.abandonGroup d ctx key).without ps = d.without ps := by
  unfold Dev.abandonGroup
  repeat' first
    | with_reducible rfl
    | simp only [Dev.modGroup_without, Dev.abandonRound_without, Dev.dropShadow_without, Dev.releaseGroup_without, h0, h1,
        h2, h3, h4, h5, h6]
    | split

theorem Dev.faultCtx_without {ps : List Part} (h0 : Part.lanes ∈ ps) (h1 : Part.crates ∈ ps) (h2 : Part.log ∈ ps) (h3 :
    Part.tele ∈ ps) (h4 : Part.held ∈ ps) (h5 : Part.consumed ∈ ps) (h6 : Part.contexts ∈ ps) (h7 : Part.shadows ∈ ps) (d :
    Dev) (ctx : Nat) (reason : Nat) (gen : Nat) (chunk : Option Nat) :
    (Dev.faultCtx d ctx reason gen chunk).without ps = d.without ps := by
  unfold Dev.faultCtx
  repeat' first
    | with_reducible rfl
    | simp only [Dev.raiseCtx_without, Dev.modCtx_without, Dev.dropWaiting_without, Dev.abandonGroup_without, h0, h1, h2,
        h3, h4, h5, h6, h7]
    | split
    | with_reducible refine (foldl_without ps _ (fun e x => ?_) _ _).trans ?_
    | with_reducible refine (foldl_without_fst ps _ (fun e x => ?_) _ _).trans ?_
    | with_reducible refine (foldl_without_snd ps _ (fun e x => ?_) _ _).trans ?_

theorem Dev.faultGroup_without {ps : List Part} (h0 : Part.lanes ∈ ps) (h1 : Part.crates ∈ ps) (h2 : Part.log ∈ ps) (h3 :
    Part.tele ∈ ps) (h4 : Part.held ∈ ps) (h5 : Part.consumed ∈ ps) (h6 : Part.contexts ∈ ps) (h7 : Part.shadows ∈ ps) (d :
    Dev) (ctx : Nat) (key : Nat) (reason : Nat) :
    (Dev.faultGroup d ctx key reason).without ps = d.without ps := by
  unfold Dev.faultGroup
  repeat' first
    | with_reducible rfl
    | simp only [Dev.abandonGroup_without, Dev.faultCtx_without, h0, h1, h2, h3, h4, h5, h6, h7]
    | split

theorem Dev.complete_without {ps : List Part} (h0 : Part.tele ∈ ps) (h1 : Part.contexts ∈ ps) (h2 : Part.shadows ∈ ps) (d :
    Dev) (ctx : Nat) (key : Nat) (stamp : Stamped) :
    (Dev.complete d ctx key stamp).without ps = d.without ps := by
  unfold Dev.complete
  repeat' first
    | with_reducible rfl
    | simp only [Dev.modGroup_without, Dev.mapRound_without, Dev.modShadow_without, h0, h1, h2]
    | split

theorem Dev.encode_without {ps : List Part} (h0 : Part.stackTab ∈ ps) (h1 : Part.log ∈ ps) (h2 : Part.tele ∈ ps) (h3 :
    Part.contexts ∈ ps) (h4 : Part.shadows ∈ ps) (d : Dev) (ctx : Nat) (key : Nat) :
    (Dev.encode d ctx key).without ps = d.without ps := by
  unfold Dev.encode
  repeat' first
    | with_reducible rfl
    | simp only [Dev.putCtx_without, Dev.raiseCtxN_without, Dev.mapRound_without, Dev.modShadow_without,
        without_set_stackTab, h0, h1, h2, h3, h4]
    | split
    | with_reducible refine (foldl_without ps _ (fun e x => ?_) _ _).trans ?_
    | with_reducible refine (foldl_without_fst ps _ (fun e x => ?_) _ _).trans ?_
    | with_reducible refine (foldl_without_snd ps _ (fun e x => ?_) _ _).trans ?_

theorem Dev.openGroup_without {ps : List Part} (h0 : Part.lanes ∈ ps) (h1 : Part.crates ∈ ps) (h2 : Part.log ∈ ps) (h3 :
    Part.tele ∈ ps) (h4 : Part.held ∈ ps) (h5 : Part.contexts ∈ ps) (h6 : Part.shadows ∈ ps) (d : Dev) (ctx : Nat) (key :
    Nat) (gen : Nat) (chunk : Nat) :
    (Dev.openGroup d ctx key gen chunk).without ps = d.without ps := by
  unfold Dev.openGroup
  repeat' first
    | with_reducible rfl
    | simp only [Dev.modGroup_without, Dev.moveGroup_without, Dev.settleCtx_without, Dev.openShadow_without, h0, h1, h2,
        h3, h4, h5, h6]
    | split

theorem Dev.addToGroup_without {ps : List Part} (h0 : Part.stackTab ∈ ps) (h1 : Part.log ∈ ps) (h2 : Part.tele ∈ ps) (h3 :
    Part.consumed ∈ ps) (h4 : Part.contexts ∈ ps) (h5 : Part.shadows ∈ ps) (d : Dev) (ctx : Nat) (key : Nat) (c : Contrib) :
    (Dev.addToGroup d ctx key c).without ps = d.without ps := by
  unfold Dev.addToGroup
  repeat' first
    | with_reducible rfl
    | simp only [Dev.count_without, Dev.putCtx_without, Dev.raiseCtxN_without, Dev.consume_without,
        Dev.followRound_without, Dev.touchRound_without, Dev.modShadow_without, Dev.complete_without, without_set_stackTab,
        h0, h1, h2, h3, h4, h5]
    | split

theorem Dev.upwardLane_without {ps : List Part} (h0 : Part.log ∈ ps) (h1 : Part.tele ∈ ps) (d : Dev) (r : Nat) (group :
    Nat) :
    (Dev.upwardLane d r group).2.without ps = d.without ps := by
  unfold Dev.upwardLane
  repeat' first
    | with_reducible rfl
    | simp only [Dev.raise_without, h0, h1]
    | split

theorem Dev.upwardLane_without_of {ps : List Part} (h0 : Part.log ∈ ps) (h1 : Part.tele ∈ ps) {d : Dev} {r : Nat} {group :
    Nat} {a9 : Option Nat} {e9 : Dev} (h : Dev.upwardLane d r group = (a9, e9)) :
    e9.without ps = d.without ps := by
  have k := Dev.upwardLane_without h0 h1 d r group
  rw [h] at k
  exact k

theorem Dev.sendUpward_without {ps : List Part} (h0 : Part.log ∈ ps) (h1 : Part.tele ∈ ps) (h2 : Part.held ∈ ps) (h3 :
    Part.net ∈ ps) (h4 : Part.waits ∈ ps) (d : Dev) (h : Nat) (r : Nat) (group : Nat) :
    (Dev.sendUpward d h r group).without ps = d.without ps := by
  unfold Dev.sendUpward
  repeat' first
    | with_reducible rfl
    | simp only [Dev.putHeld_without, Dev.modHeld_without, Dev.stage_without, Dev.sendDescriptor_without,
        Dev.upwardLane_without, h0, h1, h2, h3, h4]
    | split
    | rw [Dev.upwardLane_without_of h0 h1 (by assumption)]
    | (rename_i k9; rw [Dev.upwardLane_without_of h0 h1 k9])
    | (rename_i k9 _; rw [Dev.upwardLane_without_of h0 h1 k9])
    | (rename_i k9 _ _; rw [Dev.upwardLane_without_of h0 h1 k9])
    | (rename_i k9 _ _ _; rw [Dev.upwardLane_without_of h0 h1 k9])

theorem Dev.storeResult_without {ps : List Part} (h0 : Part.crates ∈ ps) (h1 : Part.held ∈ ps) (h2 : Part.nextHeld ∈ ps) (d
    : Dev) (n : Nat) (x : Held) :
    (Dev.storeResult d n x).2.without ps = d.without ps := by
  unfold Dev.storeResult
  repeat' first
    | with_reducible rfl
    | simp only [Dev.modPath_without, Dev.noteLeast_without, Dev.store_without, h0, h1, h2]
    | split
    | rw [Dev.store_without_of h1 h2 (by assumption)]
    | (rename_i k9; rw [Dev.store_without_of h1 h2 k9])
    | (rename_i k9 _; rw [Dev.store_without_of h1 h2 k9])
    | (rename_i k9 _ _; rw [Dev.store_without_of h1 h2 k9])
    | (rename_i k9 _ _ _; rw [Dev.store_without_of h1 h2 k9])

theorem Dev.storeResult_without_of {ps : List Part} (h0 : Part.crates ∈ ps) (h1 : Part.held ∈ ps) (h2 : Part.nextHeld ∈ ps)
    {d : Dev} {n : Nat} {x : Held} {a9 : Nat} {e9 : Dev} (h : Dev.storeResult d n x = (a9, e9)) :
    e9.without ps = d.without ps := by
  have k := Dev.storeResult_without h0 h1 h2 d n x
  rw [h] at k
  exact k

theorem Dev.writeEmit_without {ps : List Part} (h0 : Part.lanes ∈ ps) (h1 : Part.crates ∈ ps) (h2 : Part.log ∈ ps) (h3 :
    Part.tele ∈ ps) (h4 : Part.held ∈ ps) (h5 : Part.nextHeld ∈ ps) (h6 : Part.net ∈ ps) (h7 : Part.waits ∈ ps) (h8 :
    Part.draws ∈ ps) (d : Dev) (ctx : Nat) (x : Context) (key : Nat) (g : Group) (e : Emit) :
    (Dev.writeEmit d ctx x key g e).2.without ps = d.without ps := by
  unfold Dev.writeEmit
  repeat' first
    | with_reducible rfl
    | simp only [Dev.broadcast_without, Dev.link_without, Dev.sendUpward_without, Dev.storeResult_without, h0, h1, h2, h3,
        h4, h5, h6, h7, h8]
    | split
    | rw [Dev.storeResult_without_of h1 h4 h5 (by assumption)]
    | (rename_i k9; rw [Dev.storeResult_without_of h1 h4 h5 k9])
    | (rename_i k9 _; rw [Dev.storeResult_without_of h1 h4 h5 k9])
    | (rename_i k9 _ _; rw [Dev.storeResult_without_of h1 h4 h5 k9])
    | (rename_i k9 _ _ _; rw [Dev.storeResult_without_of h1 h4 h5 k9])

theorem Dev.writeEmit_without_of {ps : List Part} (h0 : Part.lanes ∈ ps) (h1 : Part.crates ∈ ps) (h2 : Part.log ∈ ps) (h3 :
    Part.tele ∈ ps) (h4 : Part.held ∈ ps) (h5 : Part.nextHeld ∈ ps) (h6 : Part.net ∈ ps) (h7 : Part.waits ∈ ps) (h8 :
    Part.draws ∈ ps) {d : Dev} {ctx : Nat} {x : Context} {key : Nat} {g : Group} {e : Emit} {a9 : Option Nat} {e9 : Dev} (h
    : Dev.writeEmit d ctx x key g e = (a9, e9)) :
    e9.without ps = d.without ps := by
  have k := Dev.writeEmit_without h0 h1 h2 h3 h4 h5 h6 h7 h8 d ctx x key g e
  rw [h] at k
  exact k

theorem Dev.writeEmits_without {ps : List Part} (h0 : Part.lanes ∈ ps) (h1 : Part.crates ∈ ps) (h2 : Part.log ∈ ps) (h3 :
    Part.tele ∈ ps) (h4 : Part.held ∈ ps) (h5 : Part.nextHeld ∈ ps) (h6 : Part.net ∈ ps) (h7 : Part.waits ∈ ps) (h8 :
    Part.draws ∈ ps) (ctx : Nat) (x : Context) (key : Nat) (g : Group)
    (l : List Emit) (last : Option Nat) (d : Dev) : (Dev.writeEmits ctx x key g l last d).2.2.without ps = d.without ps :=
        by
  induction l generalizing last d with
  | nil => rfl
  | cons e t ih =>
    unfold Dev.writeEmits
    have k := Dev.writeEmit_without h0 h1 h2 h3 h4 h5 h6 h7 h8 d ctx x key g e
    split
    · rename_i q; rw [q] at k; exact k
    · rename_i q; rw [q] at k; exact (ih _ _).trans k

theorem Dev.roundWritten_without {ps : List Part} (h0 : Part.lanes ∈ ps) (h1 : Part.crates ∈ ps) (h2 : Part.log ∈ ps) (h3 :
    Part.tele ∈ ps) (h4 : Part.held ∈ ps) (h5 : Part.contexts ∈ ps) (h6 : Part.shadows ∈ ps) (d : Dev) (ctx : Nat) (key :
    Nat) :
    (Dev.roundWritten d ctx key).without ps = d.without ps := by
  unfold Dev.roundWritten
  repeat' first
    | with_reducible rfl
    | simp only [Dev.modCtx_without, Dev.modGroup_without, Dev.dropShadow_without, Dev.releaseGroup_without,
        Dev.complete_without, h0, h1, h2, h3, h4, h5, h6]
    | split

theorem Dev.beginEmit_without {ps : List Part} (h0 : Part.lanes ∈ ps) (h1 : Part.crates ∈ ps) (h2 : Part.stackTab ∈ ps) (h3
    : Part.log ∈ ps) (h4 : Part.tele ∈ ps) (h5 : Part.held ∈ ps) (h6 : Part.consumed ∈ ps) (h7 : Part.contexts ∈ ps) (h8 :
    Part.shadows ∈ ps) (d : Dev) (ctx : Nat) (key : Nat) (shelf : Bool) :
    (Dev.beginEmit d ctx key shelf).without ps = d.without ps := by
  unfold Dev.beginEmit
  repeat' first
    | with_reducible rfl
    | simp only [Dev.faultGroup_without, Dev.complete_without, Dev.encode_without, h0, h1, h2, h3, h4, h5, h6, h7, h8]
    | split

theorem Dev.resultWritten_without {ps : List Part} (h0 : Part.lanes ∈ ps) (h1 : Part.crates ∈ ps) (h2 : Part.stackTab ∈ ps)
    (h3 : Part.log ∈ ps) (h4 : Part.tele ∈ ps) (h5 : Part.held ∈ ps) (h6 : Part.nextHeld ∈ ps) (h7 : Part.net ∈ ps) (h8 :
    Part.waits ∈ ps) (h9 : Part.consumed ∈ ps) (h10 : Part.contexts ∈ ps) (h11 : Part.out ∈ ps) (h12 : Part.draws ∈ ps)
    (h13 : Part.shadows ∈ ps) (d : Dev) (ctx : Nat) (key : Nat) (shelf : Bool) :
    (Dev.resultWritten d ctx key shelf).without ps = d.without ps := by
  unfold Dev.resultWritten
  repeat' first
    | with_reducible rfl
    | simp only [Dev.emit_without, Dev.modGroup_without, Dev.mapRound_without, Dev.writeEmits_without,
        Dev.roundWritten_without, Dev.beginEmit_without, h0, h1, h2, h3, h4, h5, h6, h7, h8, h9, h10, h11, h12, h13]
    | split

theorem Dev.writeNack_without {ps : List Part} (h0 : Part.lanes ∈ ps) (h1 : Part.crates ∈ ps) (h2 : Part.log ∈ ps) (h3 :
    Part.tele ∈ ps) (h4 : Part.held ∈ ps) (h5 : Part.nextHeld ∈ ps) (h6 : Part.net ∈ ps) (h7 : Part.waits ∈ ps) (d : Dev)
    (w : NackWait) :
    (Dev.writeNack d w).2.without ps = d.without ps := by
  unfold Dev.writeNack
  repeat' first
    | with_reducible rfl
    | simp only [Dev.takeDescriptor_without, Dev.storeResult_without, h0, h1, h2, h3, h4, h5, h6, h7]
    | split
    | rw [Dev.storeResult_without_of h1 h4 h5 (by assumption)]
    | (rename_i k9; rw [Dev.storeResult_without_of h1 h4 h5 k9])
    | (rename_i k9 _; rw [Dev.storeResult_without_of h1 h4 h5 k9])
    | (rename_i k9 _ _; rw [Dev.storeResult_without_of h1 h4 h5 k9])
    | (rename_i k9 _ _ _; rw [Dev.storeResult_without_of h1 h4 h5 k9])

theorem Dev.writeNack_without_of {ps : List Part} (h0 : Part.lanes ∈ ps) (h1 : Part.crates ∈ ps) (h2 : Part.log ∈ ps) (h3 :
    Part.tele ∈ ps) (h4 : Part.held ∈ ps) (h5 : Part.nextHeld ∈ ps) (h6 : Part.net ∈ ps) (h7 : Part.waits ∈ ps) {d : Dev}
    {w : NackWait} {a9 : Bool} {e9 : Dev} (h : Dev.writeNack d w = (a9, e9)) :
    e9.without ps = d.without ps := by
  have k := Dev.writeNack_without h0 h1 h2 h3 h4 h5 h6 h7 d w
  rw [h] at k
  exact k

theorem Dev.nack_without {ps : List Part} (h0 : Part.lanes ∈ ps) (h1 : Part.crates ∈ ps) (h2 : Part.log ∈ ps) (h3 :
    Part.tele ∈ ps) (h4 : Part.held ∈ ps) (h5 : Part.nextHeld ∈ ps) (h6 : Part.net ∈ ps) (h7 : Part.waits ∈ ps) (h8 :
    Part.nacks ∈ ps) (d : Dev) (l : Nat) (f : Frame) (e : Ext) (t : FabricTime) (reason : NackReason) :
    (Dev.nack d l f e t reason).without ps = d.without ps := by
  unfold Dev.nack
  repeat' first
    | with_reducible rfl
    | simp only [Dev.writeNack_without, without_set_nacks, h0, h1, h2, h3, h4, h5, h6, h7, h8]
    | split
    | rw [Dev.writeNack_without_of h0 h1 h2 h3 h4 h5 h6 h7 (by assumption)]
    | (rename_i k9; rw [Dev.writeNack_without_of h0 h1 h2 h3 h4 h5 h6 h7 k9])
    | (rename_i k9 _; rw [Dev.writeNack_without_of h0 h1 h2 h3 h4 h5 h6 h7 k9])
    | (rename_i k9 _ _; rw [Dev.writeNack_without_of h0 h1 h2 h3 h4 h5 h6 h7 k9])
    | (rename_i k9 _ _ _; rw [Dev.writeNack_without_of h0 h1 h2 h3 h4 h5 h6 h7 k9])

theorem Dev.retryNacks_without {ps : List Part} (h0 : Part.lanes ∈ ps) (h1 : Part.crates ∈ ps) (h2 : Part.log ∈ ps) (h3 :
    Part.tele ∈ ps) (h4 : Part.held ∈ ps) (h5 : Part.nextHeld ∈ ps) (h6 : Part.net ∈ ps) (h7 : Part.waits ∈ ps) (h8 :
    Part.nacks ∈ ps) (d : Dev) :
    (Dev.retryNacks d).without ps = d.without ps := by
  unfold Dev.retryNacks
  repeat' first
    | with_reducible rfl
    | simp only [Dev.writeNack_without, without_set_nacks, h0, h1, h2, h3, h4, h5, h6, h7, h8]
    | split
    | with_reducible refine (foldl_without ps _ (fun e x => ?_) _ _).trans ?_
    | with_reducible refine (foldl_without_fst ps _ (fun e x => ?_) _ _).trans ?_
    | with_reducible refine (foldl_without_snd ps _ (fun e x => ?_) _ _).trans ?_
    | rw [Dev.writeNack_without_of h0 h1 h2 h3 h4 h5 h6 h7 (by assumption)]
    | (rename_i k9; rw [Dev.writeNack_without_of h0 h1 h2 h3 h4 h5 h6 h7 k9])
    | (rename_i k9 _; rw [Dev.writeNack_without_of h0 h1 h2 h3 h4 h5 h6 h7 k9])
    | (rename_i k9 _ _; rw [Dev.writeNack_without_of h0 h1 h2 h3 h4 h5 h6 h7 k9])
    | (rename_i k9 _ _ _; rw [Dev.writeNack_without_of h0 h1 h2 h3 h4 h5 h6 h7 k9])

theorem Dev.putMismatch_without {ps : List Part} (h0 : Part.crates ∈ ps) (d : Dev) (n : Nat) (m : Mismatch) :
    (Dev.putMismatch d n m).without ps = d.without ps := by
  unfold Dev.putMismatch
  repeat' first
    | with_reducible rfl
    | simp only [Dev.modCrate_without, h0]
    | split

theorem Dev.freeMismatch_without {ps : List Part} (h0 : Part.crates ∈ ps) (d : Dev) (n : Nat) (ctx : Nat) (member : Nat)
    (unresolved : Bool) :
    (Dev.freeMismatch d n ctx member unresolved).without ps = d.without ps := by
  unfold Dev.freeMismatch
  repeat' first
    | with_reducible rfl
    | simp only [Dev.modCrate_without, h0]
    | split

theorem Dev.raiseCheck_without {ps : List Part} (h0 : Part.log ∈ ps) (h1 : Part.tele ∈ ps) (d : Dev) (code : Nat) (l : Nat)
    (e : Ext) (run : Nat) (same : Bool) :
    (Dev.raiseCheck d code l e run same).without ps = d.without ps := by
  unfold Dev.raiseCheck
  repeat' first
    | with_reducible rfl
    | simp only [Dev.raiseBy_without, Dev.raise_without, h0, h1]
    | split

theorem Dev.check9_without {ps : List Part} (h0 : Part.lanes ∈ ps) (h1 : Part.crates ∈ ps) (h2 : Part.log ∈ ps) (h3 :
    Part.tele ∈ ps) (d : Dev) (l : Nat) (r : Nat) (f : Frame) (e : Ext) :
    (Dev.check9 d l r f e).2.without ps = d.without ps := by
  unfold Dev.check9
  repeat' first
    | with_reducible rfl
    | simp only [Dev.modLane_without, Dev.putMismatch_without, Dev.freeMismatch_without, Dev.raiseCheck_without, h0, h1,
        h2, h3]
    | split

theorem Dev.check9_without_of {ps : List Part} (h0 : Part.lanes ∈ ps) (h1 : Part.crates ∈ ps) (h2 : Part.log ∈ ps) (h3 :
    Part.tele ∈ ps) {d : Dev} {l : Nat} {r : Nat} {f : Frame} {e : Ext} {a9 : Option NackReason} {e9 : Dev} (h : Dev.check9
    d l r f e = (a9, e9)) :
    e9.without ps = d.without ps := by
  have k := Dev.check9_without h0 h1 h2 h3 d l r f e
  rw [h] at k
  exact k

theorem Dev.contribTrip_without {ps : List Part} (h0 : Part.crates ∈ ps) (h1 : Part.arb ∈ ps) (d : Dev) (x : Context) (l :
    Nat) (key : Nat) :
    (Dev.contribTrip d x l key).without ps = d.without ps := by
  unfold Dev.contribTrip
  repeat' first
    | with_reducible rfl
    | simp only [Dev.trip_without, h0, h1]
    | split
    | with_reducible refine (foldl_without ps _ (fun e x => ?_) _ _).trans ?_
    | with_reducible refine (foldl_without_fst ps _ (fun e x => ?_) _ _).trans ?_
    | with_reducible refine (foldl_without_snd ps _ (fun e x => ?_) _ _).trans ?_

theorem Dev.strikeContrib_without {ps : List Part} (h0 : Part.lanes ∈ ps) (h1 : Part.crates ∈ ps) (h2 : Part.stackTab ∈ ps)
    (h3 : Part.arb ∈ ps) (h4 : Part.log ∈ ps) (h5 : Part.tele ∈ ps) (h6 : Part.held ∈ ps) (h7 : Part.net ∈ ps) (d : Dev) (l
    : Nat) (h : Nat) (e : Ext) (ecc : Nat) (cut : Option Arbiter) :
    (Dev.strikeContrib d l h e ecc cut).without ps = d.without ps := by
  unfold Dev.strikeContrib
  repeat' first
    | with_reducible rfl
    | simp only [Dev.raise_without, Dev.makeBad_without, Dev.larderError_without, Dev.setStalled_without, h0, h1, h2, h3,
        h4, h5, h6, h7]
    | split

theorem Dev.finishContrib_without {ps : List Part} (h0 : Part.lanes ∈ ps) (h1 : Part.crates ∈ ps) (h2 : Part.stackTab ∈ ps)
    (h3 : Part.log ∈ ps) (h4 : Part.tele ∈ ps) (h5 : Part.held ∈ ps) (h6 : Part.consumed ∈ ps) (h7 : Part.contexts ∈ ps)
    (h8 : Part.shadows ∈ ps) (d : Dev) (l : Nat) (e : Ext) (s : Stand) (c : Contrib) :
    (Dev.finishContrib d l e s c).2.without ps = d.without ps := by
  unfold Dev.finishContrib
  repeat' first
    | with_reducible rfl
    | simp only [Dev.count_without, Dev.modCtx_without, Dev.modGroup_without, Dev.openGroup_without,
        Dev.addToGroup_without, h0, h1, h2, h3, h4, h5, h6, h7, h8]
    | split

theorem Dev.finishContrib_without_of {ps : List Part} (h0 : Part.lanes ∈ ps) (h1 : Part.crates ∈ ps) (h2 : Part.stackTab ∈
    ps) (h3 : Part.log ∈ ps) (h4 : Part.tele ∈ ps) (h5 : Part.held ∈ ps) (h6 : Part.consumed ∈ ps) (h7 : Part.contexts ∈
    ps) (h8 : Part.shadows ∈ ps) {d : Dev} {l : Nat} {e : Ext} {s : Stand} {c : Contrib} {a9 : Fate} {e9 : Dev} (h :
    Dev.finishContrib d l e s c = (a9, e9)) :
    e9.without ps = d.without ps := by
  have k := Dev.finishContrib_without h0 h1 h2 h3 h4 h5 h6 h7 h8 d l e s c
  rw [h] at k
  exact k

theorem Dev.judge_without {ps : List Part} (h0 : Part.lanes ∈ ps) (h1 : Part.crates ∈ ps) (h2 : Part.stackTab ∈ ps) (h3 :
    Part.arb ∈ ps) (h4 : Part.log ∈ ps) (h5 : Part.tele ∈ ps) (h6 : Part.held ∈ ps) (h7 : Part.nextHeld ∈ ps) (h8 :
    Part.net ∈ ps) (h9 : Part.waits ∈ ps) (h10 : Part.consumed ∈ ps) (h11 : Part.contexts ∈ ps) (h12 : Part.nacks ∈ ps)
    (h13 : Part.out ∈ ps) (h14 : Part.shadows ∈ ps) (d : Dev) (l : Nat) (f : Frame) (e : Ext) (t : FabricTime) (held :
    Option Nat) :
    (Dev.judge d l f e t held).2.without ps = d.without ps := by
  unfold Dev.judge
  repeat' first
    | with_reducible rfl
    | simp only [Dev.count_without, Dev.replay_without, Dev.modCtx_without, Dev.nack_without, Dev.check9_without,
        Dev.contribTrip_without, Dev.finishContrib_without, h0, h1, h2, h3, h4, h5, h6, h7, h8, h9, h10, h11, h12, h13, h14]
    | split
    | rw [Dev.check9_without_of h0 h1 h4 h5 (by assumption)]
    | (rename_i k9; rw [Dev.check9_without_of h0 h1 h4 h5 k9])
    | (rename_i k9 _; rw [Dev.check9_without_of h0 h1 h4 h5 k9])
    | (rename_i k9 _ _; rw [Dev.check9_without_of h0 h1 h4 h5 k9])
    | (rename_i k9 _ _ _; rw [Dev.check9_without_of h0 h1 h4 h5 k9])
    | rw [Dev.finishContrib_without_of h0 h1 h2 h4 h5 h6 h10 h11 h14 (by assumption)]
    | (rename_i k9; rw [Dev.finishContrib_without_of h0 h1 h2 h4 h5 h6 h10 h11 h14 k9])
    | (rename_i k9 _; rw [Dev.finishContrib_without_of h0 h1 h2 h4 h5 h6 h10 h11 h14 k9])
    | (rename_i k9 _ _; rw [Dev.finishContrib_without_of h0 h1 h2 h4 h5 h6 h10 h11 h14 k9])
    | (rename_i k9 _ _ _; rw [Dev.finishContrib_without_of h0 h1 h2 h4 h5 h6 h10 h11 h14 k9])

theorem Dev.judge_without_of {ps : List Part} (h0 : Part.lanes ∈ ps) (h1 : Part.crates ∈ ps) (h2 : Part.stackTab ∈ ps) (h3
    : Part.arb ∈ ps) (h4 : Part.log ∈ ps) (h5 : Part.tele ∈ ps) (h6 : Part.held ∈ ps) (h7 : Part.nextHeld ∈ ps) (h8 :
    Part.net ∈ ps) (h9 : Part.waits ∈ ps) (h10 : Part.consumed ∈ ps) (h11 : Part.contexts ∈ ps) (h12 : Part.nacks ∈ ps)
    (h13 : Part.out ∈ ps) (h14 : Part.shadows ∈ ps) {d : Dev} {l : Nat} {f : Frame} {e : Ext} {t : FabricTime} {held :
    Option Nat} {a9 : Fate} {e9 : Dev} (h : Dev.judge d l f e t held = (a9, e9)) :
    e9.without ps = d.without ps := by
  have k := Dev.judge_without h0 h1 h2 h3 h4 h5 h6 h7 h8 h9 h10 h11 h12 h13 h14 d l f e t held
  rw [h] at k
  exact k

theorem Dev.refuseHeld_without {ps : List Part} (h0 : Part.lanes ∈ ps) (h1 : Part.crates ∈ ps) (h2 : Part.log ∈ ps) (h3 :
    Part.tele ∈ ps) (h4 : Part.held ∈ ps) (h5 : Part.nextHeld ∈ ps) (h6 : Part.net ∈ ps) (h7 : Part.waits ∈ ps) (h8 :
    Part.contexts ∈ ps) (h9 : Part.nacks ∈ ps) (d : Dev) (h : HoldC) :
    (Dev.refuseHeld d h).without ps = d.without ps := by
  unfold Dev.refuseHeld
  repeat' first
    | with_reducible rfl
    | simp only [Dev.raiseCtx_without, Dev.modCtx_without, Dev.nack_without, h0, h1, h2, h3, h4, h5, h6, h7, h8, h9]
    | split

theorem Dev.holdContrib_without {ps : List Part} (h0 : Part.lanes ∈ ps) (h1 : Part.crates ∈ ps) (h2 : Part.log ∈ ps) (h3 :
    Part.tele ∈ ps) (h4 : Part.held ∈ ps) (h5 : Part.nextHeld ∈ ps) (h6 : Part.net ∈ ps) (h7 : Part.waits ∈ ps) (h8 :
    Part.contexts ∈ ps) (h9 : Part.holding ∈ ps) (h10 : Part.nacks ∈ ps) (d : Dev) (l : Nat) (f : Frame) (e : Ext) (t :
    FabricTime) :
    (Dev.holdContrib d l f e t).without ps = d.without ps := by
  unfold Dev.holdContrib
  repeat' first
    | with_reducible rfl
    | simp only [Dev.refuseHeld_without, without_set_holding, h0, h1, h2, h3, h4, h5, h6, h7, h8, h9, h10]
    | split

theorem Dev.holdExpiry_without {ps : List Part} (h0 : Part.lanes ∈ ps) (h1 : Part.crates ∈ ps) (h2 : Part.log ∈ ps) (h3 :
    Part.tele ∈ ps) (h4 : Part.held ∈ ps) (h5 : Part.nextHeld ∈ ps) (h6 : Part.net ∈ ps) (h7 : Part.waits ∈ ps) (h8 :
    Part.contexts ∈ ps) (h9 : Part.holding ∈ ps) (h10 : Part.nacks ∈ ps) (d : Dev) (n : Nat) :
    (Dev.holdExpiry d n).without ps = d.without ps := by
  unfold Dev.holdExpiry
  repeat' first
    | with_reducible rfl
    | simp only [Dev.refuseHeld_without, without_set_holding, h0, h1, h2, h3, h4, h5, h6, h7, h8, h9, h10]
    | split

theorem Dev.refuseAllHeld_without {ps : List Part} (h0 : Part.lanes ∈ ps) (h1 : Part.crates ∈ ps) (h2 : Part.log ∈ ps) (h3
    : Part.tele ∈ ps) (h4 : Part.held ∈ ps) (h5 : Part.nextHeld ∈ ps) (h6 : Part.net ∈ ps) (h7 : Part.waits ∈ ps) (h8 :
    Part.contexts ∈ ps) (h9 : Part.holding ∈ ps) (h10 : Part.nacks ∈ ps) (d : Dev) (ctx : Nat) :
    (Dev.refuseAllHeld d ctx).without ps = d.without ps := by
  unfold Dev.refuseAllHeld
  repeat' first
    | with_reducible rfl
    | simp only [Dev.refuseHeld_without, without_set_holding, h0, h1, h2, h3, h4, h5, h6, h7, h8, h9, h10]
    | split
    | with_reducible refine (foldl_without ps _ (fun e x => ?_) _ _).trans ?_
    | with_reducible refine (foldl_without_fst ps _ (fun e x => ?_) _ _).trans ?_
    | with_reducible refine (foldl_without_snd ps _ (fun e x => ?_) _ _).trans ?_

theorem Dev.takeHeld_without {ps : List Part} (h0 : Part.lanes ∈ ps) (h1 : Part.crates ∈ ps) (h2 : Part.stackTab ∈ ps) (h3
    : Part.arb ∈ ps) (h4 : Part.log ∈ ps) (h5 : Part.tele ∈ ps) (h6 : Part.held ∈ ps) (h7 : Part.nextHeld ∈ ps) (h8 :
    Part.net ∈ ps) (h9 : Part.waits ∈ ps) (h10 : Part.consumed ∈ ps) (h11 : Part.contexts ∈ ps) (h12 : Part.holding ∈ ps)
    (h13 : Part.nacks ∈ ps) (h14 : Part.out ∈ ps) (h15 : Part.shadows ∈ ps) (d : Dev) (ctx : Nat) :
    (Dev.takeHeld d ctx).without ps = d.without ps := by
  unfold Dev.takeHeld
  repeat' first
    | with_reducible rfl
    | simp only [Dev.judge_without, without_set_holding, h0, h1, h2, h3, h4, h5, h6, h7, h8, h9, h10, h11, h12, h13, h14,
        h15]
    | split
    | with_reducible refine (foldl_without ps _ (fun e x => ?_) _ _).trans ?_
    | with_reducible refine (foldl_without_fst ps _ (fun e x => ?_) _ _).trans ?_
    | with_reducible refine (foldl_without_snd ps _ (fun e x => ?_) _ _).trans ?_
    | rw [Dev.judge_without_of h0 h1 h2 h3 h4 h5 h6 h7 h8 h9 h10 h11 h13 h14 h15 (by assumption)]
    | (rename_i k9; rw [Dev.judge_without_of h0 h1 h2 h3 h4 h5 h6 h7 h8 h9 h10 h11 h13 h14 h15 k9])
    | (rename_i k9 _; rw [Dev.judge_without_of h0 h1 h2 h3 h4 h5 h6 h7 h8 h9 h10 h11 h13 h14 h15 k9])
    | (rename_i k9 _ _; rw [Dev.judge_without_of h0 h1 h2 h3 h4 h5 h6 h7 h8 h9 h10 h11 h13 h14 h15 k9])
    | (rename_i k9 _ _ _; rw [Dev.judge_without_of h0 h1 h2 h3 h4 h5 h6 h7 h8 h9 h10 h11 h13 h14 h15 k9])

theorem Dev.shelfError_without {ps : List Part} (h0 : Part.lanes ∈ ps) (h1 : Part.crates ∈ ps) (h2 : Part.log ∈ ps) (h3 :
    Part.tele ∈ ps) (h4 : Part.held ∈ ps) (h5 : Part.consumed ∈ ps) (h6 : Part.contexts ∈ ps) (h7 : Part.shadows ∈ ps) (d :
    Dev) (e : Ext) :
    (Dev.shelfError d e).without ps = d.without ps := by
  unfold Dev.shelfError
  repeat' first
    | with_reducible rfl
    | simp only [Dev.faultGroup_without, h0, h1, h2, h3, h4, h5, h6, h7]
    | split

theorem Dev.result_without {ps : List Part} (h0 : Part.lanes ∈ ps) (h1 : Part.crates ∈ ps) (h2 : Part.log ∈ ps) (h3 :
    Part.tele ∈ ps) (h4 : Part.held ∈ ps) (h5 : Part.nextHeld ∈ ps) (h6 : Part.net ∈ ps) (h7 : Part.waits ∈ ps) (h8 :
    Part.draws ∈ ps) (d : Dev) (l : Nat) (f : Frame) (t : FabricTime) :
    (Dev.result d l f t).without ps = d.without ps := by
  unfold Dev.result
  repeat' first
    | with_reducible rfl
    | simp only [Dev.raiseCtx_without, Dev.frameHead_without, Dev.discardHead_without, Dev.admitHead_without,
        Dev.broadcast_without, Dev.admitFrame_without, h0, h1, h2, h3, h4, h5, h6, h7, h8]
    | split
    | rw [Dev.frameHead_without_of h0 h2 h3 h6 (by assumption)]
    | (rename_i k9; rw [Dev.frameHead_without_of h0 h2 h3 h6 k9])
    | (rename_i k9 _; rw [Dev.frameHead_without_of h0 h2 h3 h6 k9])
    | (rename_i k9 _ _; rw [Dev.frameHead_without_of h0 h2 h3 h6 k9])
    | (rename_i k9 _ _ _; rw [Dev.frameHead_without_of h0 h2 h3 h6 k9])
    | rw [Dev.admitHead_without_of h0 h1 h2 h3 h4 h6 h8 (by assumption)]
    | (rename_i k9; rw [Dev.admitHead_without_of h0 h1 h2 h3 h4 h6 h8 k9])
    | (rename_i k9 _; rw [Dev.admitHead_without_of h0 h1 h2 h3 h4 h6 h8 k9])
    | (rename_i k9 _ _; rw [Dev.admitHead_without_of h0 h1 h2 h3 h4 h6 h8 k9])
    | (rename_i k9 _ _ _; rw [Dev.admitHead_without_of h0 h1 h2 h3 h4 h6 h8 k9])
    | rw [Dev.admitFrame_without_of h0 h1 h2 h3 h4 h5 h6 h8 (by assumption)]
    | (rename_i k9; rw [Dev.admitFrame_without_of h0 h1 h2 h3 h4 h5 h6 h8 k9])
    | (rename_i k9 _; rw [Dev.admitFrame_without_of h0 h1 h2 h3 h4 h5 h6 h8 k9])
    | (rename_i k9 _ _; rw [Dev.admitFrame_without_of h0 h1 h2 h3 h4 h5 h6 h8 k9])
    | (rename_i k9 _ _ _; rw [Dev.admitFrame_without_of h0 h1 h2 h3 h4 h5 h6 h8 k9])

theorem Dev.endHold_without {ps : List Part} (h0 : Part.lanes ∈ ps) (h1 : Part.crates ∈ ps) (h2 : Part.log ∈ ps) (h3 :
    Part.tele ∈ ps) (h4 : Part.held ∈ ps) (d : Dev) (h : Nat) :
    (Dev.endHold d h).without ps = d.without ps := by
  unfold Dev.endHold
  repeat' first
    | with_reducible rfl
    | simp only [Dev.dropUpward_without, h0, h1, h2, h3, h4]
    | split
    | with_reducible refine (foldl_without ps _ (fun e x => ?_) _ _).trans ?_
    | with_reducible refine (foldl_without_fst ps _ (fun e x => ?_) _ _).trans ?_
    | with_reducible refine (foldl_without_snd ps _ (fun e x => ?_) _ _).trans ?_

theorem Dev.tail_without {ps : List Part} (h0 : Part.lanes ∈ ps) (h1 : Part.crates ∈ ps) (h2 : Part.log ∈ ps) (h3 :
    Part.tele ∈ ps) (h4 : Part.held ∈ ps) (h5 : Part.nextHeld ∈ ps) (h6 : Part.net ∈ ps) (h7 : Part.waits ∈ ps) (h8 :
    Part.nacks ∈ ps) (d : Dev) (l : Nat) (fcs : Fcs) (t : FabricTime) :
    (Dev.tail d l fcs t).without ps = d.without ps := by
  unfold Dev.tail
  repeat' first
    | with_reducible rfl
    | simp only [Dev.frameTail_without, Dev.retryNacks_without, Dev.endHold_without, h0, h1, h2, h3, h4, h5, h6, h7, h8]
    | split
    | rw [Dev.frameTail_without_of h0 h1 h2 h3 h4 h6 (by assumption)]
    | (rename_i k9; rw [Dev.frameTail_without_of h0 h1 h2 h3 h4 h6 k9])
    | (rename_i k9 _; rw [Dev.frameTail_without_of h0 h1 h2 h3 h4 h6 k9])
    | (rename_i k9 _ _; rw [Dev.frameTail_without_of h0 h1 h2 h3 h4 h6 k9])
    | (rename_i k9 _ _ _; rw [Dev.frameTail_without_of h0 h1 h2 h3 h4 h6 k9])

theorem Dev.applyNack_without {ps : List Part} (h0 : Part.lanes ∈ ps) (h1 : Part.crates ∈ ps) (h2 : Part.log ∈ ps) (h3 :
    Part.tele ∈ ps) (h4 : Part.held ∈ ps) (h5 : Part.net ∈ ps) (h6 : Part.waits ∈ ps) (h7 : Part.contexts ∈ ps) (d : Dev)
    (h : Nat) (x : Context) (e : Ext) (p : List Byte) :
    (Dev.applyNack d h x e p).without ps = d.without ps := by
  unfold Dev.applyNack
  repeat' first
    | with_reducible rfl
    | simp only [Dev.count_without, Dev.putHeld_without, Dev.modCtx_without, Dev.dropUpward_without,
        Dev.abandonUpward_without, Dev.sendUpward_without, h0, h1, h2, h3, h4, h5, h6, h7]
    | split

theorem Dev.sendAgain_without {ps : List Part} (h0 : Part.log ∈ ps) (h1 : Part.tele ∈ ps) (h2 : Part.held ∈ ps) (h3 :
    Part.net ∈ ps) (h4 : Part.waits ∈ ps) (d : Dev) :
    (Dev.sendAgain d).without ps = d.without ps := by
  unfold Dev.sendAgain
  repeat' first
    | with_reducible rfl
    | simp only [Dev.sendUpward_without, h0, h1, h2, h3, h4]
    | split
    | with_reducible refine (foldl_without ps _ (fun e x => ?_) _ _).trans ?_
    | with_reducible refine (foldl_without_fst ps _ (fun e x => ?_) _ _).trans ?_
    | with_reducible refine (foldl_without_snd ps _ (fun e x => ?_) _ _).trans ?_

theorem Dev.cnack_without {ps : List Part} (h0 : Part.lanes ∈ ps) (h1 : Part.crates ∈ ps) (h2 : Part.log ∈ ps) (h3 :
    Part.tele ∈ ps) (h4 : Part.held ∈ ps) (h5 : Part.nextHeld ∈ ps) (h6 : Part.net ∈ ps) (h7 : Part.waits ∈ ps) (h8 :
    Part.contexts ∈ ps) (h9 : Part.nacks ∈ ps) (h10 : Part.flows ∈ ps) (h11 : Part.draws ∈ ps) (d : Dev) (l : Nat) (f :
    Frame) (fcs : Fcs) (t : FabricTime) :
    (Dev.cnack d l f fcs t).without ps = d.without ps := by
  unfold Dev.cnack
  repeat' first
    | with_reducible rfl
    | simp only [Dev.count_without, Dev.raiseCtx_without, Dev.frameHead_without, Dev.admitHead_without,
        Dev.tagDraw_without, Dev.larderWrites_without, Dev.sampleLost_without, Dev.forward_without, Dev.passFlits_without,
        Dev.wholeFrame_without, Dev.retryNacks_without, Dev.applyNack_without, h0, h1, h2, h3, h4, h5, h6, h7, h8, h9, h10,
        h11]
    | split
    | rw [Dev.frameHead_without_of h0 h2 h3 h6 (by assumption)]
    | (rename_i k9; rw [Dev.frameHead_without_of h0 h2 h3 h6 k9])
    | (rename_i k9 _; rw [Dev.frameHead_without_of h0 h2 h3 h6 k9])
    | (rename_i k9 _ _; rw [Dev.frameHead_without_of h0 h2 h3 h6 k9])
    | (rename_i k9 _ _ _; rw [Dev.frameHead_without_of h0 h2 h3 h6 k9])
    | rw [Dev.admitHead_without_of h0 h1 h2 h3 h4 h6 h11 (by assumption)]
    | (rename_i k9; rw [Dev.admitHead_without_of h0 h1 h2 h3 h4 h6 h11 k9])
    | (rename_i k9 _; rw [Dev.admitHead_without_of h0 h1 h2 h3 h4 h6 h11 k9])
    | (rename_i k9 _ _; rw [Dev.admitHead_without_of h0 h1 h2 h3 h4 h6 h11 k9])
    | (rename_i k9 _ _ _; rw [Dev.admitHead_without_of h0 h1 h2 h3 h4 h6 h11 k9])
    | rw [Dev.tagDraw_without_of h1 (by assumption)]
    | (rename_i k9; rw [Dev.tagDraw_without_of h1 k9])
    | (rename_i k9 _; rw [Dev.tagDraw_without_of h1 k9])
    | (rename_i k9 _ _; rw [Dev.tagDraw_without_of h1 k9])
    | (rename_i k9 _ _ _; rw [Dev.tagDraw_without_of h1 k9])
    | rw [Dev.wholeFrame_without_of h0 h1 h2 h3 h4 h6 h11 (by assumption)]
    | (rename_i k9; rw [Dev.wholeFrame_without_of h0 h1 h2 h3 h4 h6 h11 k9])
    | (rename_i k9 _; rw [Dev.wholeFrame_without_of h0 h1 h2 h3 h4 h6 h11 k9])
    | (rename_i k9 _ _; rw [Dev.wholeFrame_without_of h0 h1 h2 h3 h4 h6 h11 k9])
    | (rename_i k9 _ _ _; rw [Dev.wholeFrame_without_of h0 h1 h2 h3 h4 h6 h11 k9])

theorem Dev.memberAbsent_without {ps : List Part} (h0 : Part.crates ∈ ps) (h1 : Part.arb ∈ ps) (h2 : Part.log ∈ ps) (h3 :
    Part.tele ∈ ps) (h4 : Part.net ∈ ps) (h5 : Part.contexts ∈ ps) (d : Dev) (n : Nat) :
    (Dev.memberAbsent d n).without ps = d.without ps := by
  unfold Dev.memberAbsent
  repeat' first
    | with_reducible rfl
    | simp only [Dev.raiseCtx_without, Dev.modCtx_without, h0, h1, h2, h3, h4, h5]
    | split
    | rw [Dev.deliver_without_of h0 h1 h4 (by assumption)]
    | (rename_i k9; rw [Dev.deliver_without_of h0 h1 h4 k9])
    | (rename_i k9 _; rw [Dev.deliver_without_of h0 h1 h4 k9])
    | (rename_i k9 _ _; rw [Dev.deliver_without_of h0 h1 h4 k9])
    | (rename_i k9 _ _ _; rw [Dev.deliver_without_of h0 h1 h4 k9])

theorem Dev.claimAt_without {ps : List Part} (h0 : Part.crates ∈ ps) (h1 : Part.contexts ∈ ps) (h2 : Part.shadows ∈ ps) (d
    : Dev) (ctx : Nat) (p : Nat) (n : Nat) :
    (Dev.claimAt d ctx p n).without ps = d.without ps := by
  unfold Dev.claimAt
  repeat' first
    | with_reducible rfl
    | simp only [Dev.modCrate_without, Dev.modCtx_without, without_set_shadows, h0, h1, h2]
    | split
    | with_reducible refine (foldl_without ps _ (fun e x => ?_) _ _).trans ?_
    | with_reducible refine (foldl_without_fst ps _ (fun e x => ?_) _ _).trans ?_
    | with_reducible refine (foldl_without_snd ps _ (fun e x => ?_) _ _).trans ?_

theorem Dev.claimSlots_without {ps : List Part} (h0 : Part.crates ∈ ps) (h1 : Part.contexts ∈ ps) (h2 : Part.shadows ∈ ps)
    (d : Dev) (ctx : Nat) :
    (Dev.claimSlots d ctx).without ps = d.without ps := by
  unfold Dev.claimSlots
  repeat' first
    | with_reducible rfl
    | simp only [Dev.claimAt_without, h0, h1, h2]
    | split
    | with_reducible refine (foldl_without ps _ (fun e x => ?_) _ _).trans ?_
    | with_reducible refine (foldl_without_fst ps _ (fun e x => ?_) _ _).trans ?_
    | with_reducible refine (foldl_without_snd ps _ (fun e x => ?_) _ _).trans ?_

theorem Dev.installApply_without {ps : List Part} (h0 : Part.crates ∈ ps) (h1 : Part.contexts ∈ ps) (h2 : Part.shadows ∈
    ps) (d : Dev) (r : Nat) :
    (Dev.installApply d r).without ps = d.without ps := by
  unfold Dev.installApply
  repeat' first
    | with_reducible rfl
    | simp only [Dev.putCtx_without, Dev.claimSlots_without, h0, h1, h2]
    | split

theorem Dev.templateLost_without {ps : List Part} (h0 : Part.lanes ∈ ps) (h1 : Part.crates ∈ ps) (h2 : Part.log ∈ ps) (h3 :
    Part.tele ∈ ps) (h4 : Part.held ∈ ps) (h5 : Part.nextHeld ∈ ps) (h6 : Part.net ∈ ps) (h7 : Part.waits ∈ ps) (h8 :
    Part.contexts ∈ ps) (h9 : Part.holding ∈ ps) (h10 : Part.nacks ∈ ps) (d : Dev) (ctx : Nat) (t : Nat) :
    (Dev.templateLost d ctx t).without ps = d.without ps := by
  unfold Dev.templateLost
  repeat' first
    | with_reducible rfl
    | simp only [Dev.raise_without, Dev.putCtx_without, Dev.refuseAllHeld_without, h0, h1, h2, h3, h4, h5, h6, h7, h8, h9,
        h10]
    | split

theorem Dev.armApply_without {ps : List Part} (h0 : Part.lanes ∈ ps) (h1 : Part.crates ∈ ps) (h2 : Part.stackTab ∈ ps) (h3
    : Part.arb ∈ ps) (h4 : Part.log ∈ ps) (h5 : Part.tele ∈ ps) (h6 : Part.held ∈ ps) (h7 : Part.nextHeld ∈ ps) (h8 :
    Part.net ∈ ps) (h9 : Part.waits ∈ ps) (h10 : Part.consumed ∈ ps) (h11 : Part.contexts ∈ ps) (h12 : Part.holding ∈ ps)
    (h13 : Part.nacks ∈ ps) (h14 : Part.out ∈ ps) (h15 : Part.shadows ∈ ps) (d : Dev) (ctx : Nat) (gen : Nat) :
    (Dev.armApply d ctx gen).without ps = d.without ps := by
  unfold Dev.armApply
  repeat' first
    | with_reducible rfl
    | simp only [Dev.putCtx_without, Dev.modCtx_without, Dev.takeHeld_without, Dev.claimSlots_without,
        Dev.templateLost_without, h0, h1, h2, h3, h4, h5, h6, h7, h8, h9, h10, h11, h12, h13, h14, h15]
    | split

theorem Dev.resetApply_without {ps : List Part} (h0 : Part.log ∈ ps) (h1 : Part.tele ∈ ps) (h2 : Part.consumed ∈ ps) (h3 :
    Part.contexts ∈ ps) (h4 : Part.shadows ∈ ps) (d : Dev) (ctx : Nat) (gen : Nat) :
    (Dev.resetApply d ctx gen).without ps = d.without ps := by
  unfold Dev.resetApply
  repeat' first
    | with_reducible rfl
    | simp only [Dev.modCtx_without, Dev.dropWaiting_without, Dev.abandonRound_without, Dev.dropShadow_without,
        Dev.complete_without, h0, h1, h2, h3, h4]
    | split
    | with_reducible refine (foldl_without ps _ (fun e x => ?_) _ _).trans ?_
    | with_reducible refine (foldl_without_fst ps _ (fun e x => ?_) _ _).trans ?_
    | with_reducible refine (foldl_without_snd ps _ (fun e x => ?_) _ _).trans ?_

theorem Dev.retireApply_without {ps : List Part} (h0 : Part.lanes ∈ ps) (h1 : Part.crates ∈ ps) (h2 : Part.log ∈ ps) (h3 :
    Part.tele ∈ ps) (h4 : Part.held ∈ ps) (h5 : Part.nextHeld ∈ ps) (h6 : Part.net ∈ ps) (h7 : Part.waits ∈ ps) (h8 :
    Part.consumed ∈ ps) (h9 : Part.contexts ∈ ps) (h10 : Part.holding ∈ ps) (h11 : Part.nacks ∈ ps) (d : Dev) (ctx : Nat)
    (park : Bool) :
    (Dev.retireApply d ctx park).without ps = d.without ps := by
  unfold Dev.retireApply
  repeat' first
    | with_reducible rfl
    | simp only [Dev.putCtx_without, Dev.modCtx_without, Dev.dropWaiting_without, Dev.settleCtx_without,
        Dev.refuseAllHeld_without, h0, h1, h2, h3, h4, h5, h6, h7, h8, h9, h10, h11]
    | split

theorem Dev.ctxRefused_without {ps : List Part} (h0 : Part.log ∈ ps) (h1 : Part.inv ∈ ps) (h2 : Part.tele ∈ ps) (d : Dev)
    (slot : Nat) (code : Nat) (ctx : Nat) (gen : Nat) :
    (Dev.ctxRefused d slot code ctx gen).without ps = d.without ps := by
  unfold Dev.ctxRefused
  repeat' first
    | with_reducible rfl
    | simp only [Dev.raiseCtx_without, without_set_inv, h0, h1, h2]
    | split

theorem Dev.install_without {ps : List Part} (h0 : Part.crates ∈ ps) (h1 : Part.log ∈ ps) (h2 : Part.inv ∈ ps) (h3 :
    Part.tele ∈ ps) (h4 : Part.contexts ∈ ps) (h5 : Part.shadows ∈ ps) (d : Dev) (record : Nat) :
    (Dev.install d record).without ps = d.without ps := by
  unfold Dev.install
  repeat' first
    | with_reducible rfl
    | simp only [Dev.installApply_without, Dev.ctxRefused_without, h0, h1, h2, h3, h4, h5]
    | split

theorem Dev.ctxCommand_without {ps : List Part} (h0 : Part.log ∈ ps) (h1 : Part.inv ∈ ps) (h2 : Part.tele ∈ ps) (d : Dev)
    (ctx gen code : Nat) (f : Dev → Dev) (hf : ∀ e, (f e).without ps = e.without ps) :
    (Dev.ctxCommand d ctx gen code f).without ps = d.without ps := by
  unfold Dev.ctxCommand
  split
  · exact Dev.ctxRefused_without h0 h1 h2 d _ _ _ _
  · split
    · exact hf d
    · exact Dev.ctxRefused_without h0 h1 h2 d _ _ _ _

theorem Dev.arm_without {ps : List Part} (h0 : Part.lanes ∈ ps) (h1 : Part.crates ∈ ps) (h2 : Part.stackTab ∈ ps) (h3 :
    Part.arb ∈ ps) (h4 : Part.log ∈ ps) (h5 : Part.inv ∈ ps) (h6 : Part.tele ∈ ps) (h7 : Part.held ∈ ps) (h8 :
    Part.nextHeld ∈ ps) (h9 : Part.net ∈ ps) (h10 : Part.waits ∈ ps) (h11 : Part.consumed ∈ ps) (h12 : Part.contexts ∈ ps)
    (h13 : Part.holding ∈ ps) (h14 : Part.nacks ∈ ps) (h15 : Part.out ∈ ps) (h16 : Part.shadows ∈ ps) (d : Dev) (ctx gen :
    Nat) :
    (Dev.arm d ctx gen).without ps = d.without ps := by
  unfold Dev.arm
  exact Dev.ctxCommand_without h4 h5 h6 d _ _ _ _
    (fun e => Dev.armApply_without h0 h1 h2 h3 h4 h6 h7 h8 h9 h10 h11 h12 h13 h14 h15 h16 e ctx gen)

theorem Dev.resetCtx_without {ps : List Part} (h0 : Part.log ∈ ps) (h1 : Part.inv ∈ ps) (h2 : Part.tele ∈ ps) (h3 :
    Part.consumed ∈ ps) (h4 : Part.contexts ∈ ps) (h5 : Part.shadows ∈ ps) (d : Dev) (ctx gen : Nat) :
    (Dev.resetCtx d ctx gen).without ps = d.without ps := by
  unfold Dev.resetCtx
  exact Dev.ctxCommand_without h0 h1 h2 d _ _ _ _
    (fun e => Dev.resetApply_without h0 h2 h3 h4 h5 e ctx gen)

theorem Dev.retireCtx_without {ps : List Part} (h0 : Part.lanes ∈ ps) (h1 : Part.crates ∈ ps) (h2 : Part.log ∈ ps) (h3 :
    Part.inv ∈ ps) (h4 : Part.tele ∈ ps) (h5 : Part.held ∈ ps) (h6 : Part.nextHeld ∈ ps) (h7 : Part.net ∈ ps) (h8 :
    Part.waits ∈ ps) (h9 : Part.consumed ∈ ps) (h10 : Part.contexts ∈ ps) (h11 : Part.holding ∈ ps) (h12 : Part.nacks ∈ ps)
    (d : Dev) (ctx : Nat) (park : Bool) :
    (Dev.retireCtx d ctx park).without ps = d.without ps := by
  unfold Dev.retireCtx
  exact Dev.ctxCommand_without h2 h3 h4 d _ _ _ _
    (fun e => Dev.retireApply_without h0 h1 h2 h4 h5 h6 h7 h8 h9 h10 h11 h12 e ctx park)

theorem Dev.straggler_without {ps : List Part} (h0 : Part.lanes ∈ ps) (h1 : Part.crates ∈ ps) (h2 : Part.log ∈ ps) (h3 :
    Part.tele ∈ ps) (h4 : Part.held ∈ ps) (h5 : Part.consumed ∈ ps) (h6 : Part.contexts ∈ ps) (h7 : Part.shadows ∈ ps) (d :
    Dev) (ctx : Nat) (key : Nat) :
    (Dev.straggler d ctx key).without ps = d.without ps := by
  unfold Dev.straggler
  repeat' first
    | with_reducible rfl
    | simp only [Dev.raiseCtx_without, Dev.faultGroup_without, Dev.complete_without, h0, h1, h2, h3, h4, h5, h6, h7]
    | split

theorem Dev.upwardTimeout_without {ps : List Part} (h0 : Part.lanes ∈ ps) (h1 : Part.crates ∈ ps) (h2 : Part.log ∈ ps) (h3
    : Part.tele ∈ ps) (h4 : Part.held ∈ ps) (h5 : Part.nextHeld ∈ ps) (h6 : Part.net ∈ ps) (h7 : Part.waits ∈ ps) (h8 :
    Part.nacks ∈ ps) (d : Dev) (ctx : Nat) (gen : Nat) (chunk : Nat) :
    (Dev.upwardTimeout d ctx gen chunk).without ps = d.without ps := by
  unfold Dev.upwardTimeout
  repeat' first
    | with_reducible rfl
    | simp only [Dev.abandonUpward_without, Dev.retryNacks_without, h0, h1, h2, h3, h4, h5, h6, h7, h8]
    | split
    | with_reducible refine (foldl_without ps _ (fun e x => ?_) _ _).trans ?_
    | with_reducible refine (foldl_without_fst ps _ (fun e x => ?_) _ _).trans ?_
    | with_reducible refine (foldl_without_snd ps _ (fun e x => ?_) _ _).trans ?_

theorem Dev.engineAck_without {ps : List Part} (h0 : Part.lanes ∈ ps) (h1 : Part.crates ∈ ps) (h2 : Part.log ∈ ps) (h3 :
    Part.tele ∈ ps) (h4 : Part.held ∈ ps) (h5 : Part.consumed ∈ ps) (h6 : Part.contexts ∈ ps) (h7 : Part.shadows ∈ ps) (d :
    Dev) (ctx : Nat) (key : Nat) :
    (Dev.engineAck d ctx key).without ps = d.without ps := by
  unfold Dev.engineAck
  repeat' first
    | with_reducible rfl
    | simp only [Dev.modGroup_without, Dev.faultGroup_without, Dev.complete_without, h0, h1, h2, h3, h4, h5, h6, h7]
    | split

theorem Dev.spillCleared_without {ps : List Part} (h0 : Part.lanes ∈ ps) (h1 : Part.crates ∈ ps) (h2 : Part.log ∈ ps) (h3 :
    Part.tele ∈ ps) (h4 : Part.held ∈ ps) (h5 : Part.contexts ∈ ps) (d : Dev) (ctx : Nat) (key : Nat) :
    (Dev.spillCleared d ctx key).without ps = d.without ps := by
  unfold Dev.spillCleared
  repeat' first
    | with_reducible rfl
    | simp only [Dev.modGroup_without, Dev.releaseGroup_without, h0, h1, h2, h3, h4, h5]
    | split

theorem Dev.planChanged_without {ps : List Part} (h0 : Part.log ∈ ps) (h1 : Part.tele ∈ ps) (h2 : Part.contexts ∈ ps) (d :
    Dev) (ctx : Nat) (b : Bool) :
    (Dev.planChanged d ctx b).without ps = d.without ps := by
  unfold Dev.planChanged
  repeat' first
    | with_reducible rfl
    | simp only [Dev.raiseCtx_without, Dev.modCtx_without, h0, h1, h2]
    | split

theorem Dev.planSwitch_without {ps : List Part} (h0 : Part.log ∈ ps) (h1 : Part.tele ∈ ps) (h2 : Part.contexts ∈ ps) (d :
    Dev) (ctx : Nat) :
    (Dev.planSwitch d ctx).without ps = d.without ps := by
  unfold Dev.planSwitch
  repeat' first
    | with_reducible rfl
    | simp only [Dev.modCtx_without, Dev.planChanged_without, h0, h1, h2]
    | split

theorem Dev.overrideApply_without {ps : List Part} (h0 : Part.log ∈ ps) (h1 : Part.tele ∈ ps) (h2 : Part.contexts ∈ ps) (d
    : Dev) (ctx : Nat) (v : Option Bool) :
    (Dev.overrideApply d ctx v).without ps = d.without ps := by
  unfold Dev.overrideApply
  repeat' first
    | with_reducible rfl
    | simp only [Dev.putCtx_without, Dev.planChanged_without, h0, h1, h2]
    | split

theorem Dev.planOverride_without {ps : List Part} (h0 : Part.log ∈ ps) (h1 : Part.tele ∈ ps) (h2 : Part.contexts ∈ ps) (d :
    Dev) (ctx : Nat) (v : Option Bool) :
    (Dev.planOverride d ctx v).without ps = d.without ps := by
  unfold Dev.planOverride
  repeat' first
    | with_reducible rfl
    | simp only [Dev.overrideApply_without, h0, h1, h2]
    | split

theorem Dev.computeLevels_without {ps : List Part} (h0 : Part.contexts ∈ ps) (d : Dev) :
    (Dev.computeLevels d).without ps = d.without ps := by
  unfold Dev.computeLevels
  repeat' first
    | with_reducible rfl
    | simp only [Dev.putCtx_without, h0]
    | split
    | with_reducible refine (foldl_without ps _ (fun e x => ?_) _ _).trans ?_
    | with_reducible refine (foldl_without_fst ps _ (fun e x => ?_) _ _).trans ?_
    | with_reducible refine (foldl_without_snd ps _ (fun e x => ?_) _ _).trans ?_

theorem Dev.remapApply_without {ps : List Part} (h0 : Part.crates ∈ ps) (h1 : Part.log ∈ ps) (h2 : Part.tele ∈ ps) (h3 :
    Part.contexts ∈ ps) (h4 : Part.shadows ∈ ps) (d : Dev) (n : Nat) (t : Nat) :
    (Dev.remapApply d n t).without ps = d.without ps := by
  unfold Dev.remapApply
  repeat' first
    | with_reducible rfl
    | simp only [Dev.modCtx_without, Dev.remapDone_without, Dev.finishMoves_without, Dev.claimAt_without, h0, h1, h2, h3,
        h4]
    | split
    | with_reducible refine (foldl_without ps _ (fun e x => ?_) _ _).trans ?_
    | with_reducible refine (foldl_without_fst ps _ (fun e x => ?_) _ _).trans ?_
    | with_reducible refine (foldl_without_snd ps _ (fun e x => ?_) _ _).trans ?_

theorem Dev.groupMove_without {ps : List Part} (h0 : Part.log ∈ ps) (h1 : Part.tele ∈ ps) (h2 : Part.contexts ∈ ps) (d :
    Dev) (ctx : Nat) (key : Nat) :
    (Dev.groupMove d ctx key).without ps = d.without ps := by
  unfold Dev.groupMove
  repeat' first
    | with_reducible rfl
    | simp only [Dev.moveGroup_without, h0, h1, h2]
    | split

theorem Dev.onShadow_without {ps : List Part} (h0 : Part.shadows ∈ ps) (d : Dev) (ctx : Nat) (key : Nat) (test : Shadow →
    Bool) (f : Shadow → Shadow) :
    (Dev.onShadow d ctx key test f).without ps = d.without ps := by
  unfold Dev.onShadow
  repeat' first
    | with_reducible rfl
    | simp only [without_set_shadows, h0]
    | split

theorem Dev.shadowCopy_without {ps : List Part} (h0 : Part.crates ∈ ps) (h1 : Part.arb ∈ ps) (h2 : Part.shadows ∈ ps) (d :
    Dev) (ctx : Nat) (key : Nat) :
    (Dev.shadowCopy d ctx key).without ps = d.without ps := by
  unfold Dev.shadowCopy
  repeat' first
    | with_reducible rfl
    | simp only [Dev.trip_without, Dev.onShadow_without, h0, h1, h2]
    | split

theorem Dev.shadowNotice_without {ps : List Part} (h0 : Part.crates ∈ ps) (h1 : Part.arb ∈ ps) (h2 : Part.shadows ∈ ps) (d
    : Dev) (ctx : Nat) (key : Nat) :
    (Dev.shadowNotice d ctx key).without ps = d.without ps := by
  unfold Dev.shadowNotice
  repeat' first
    | with_reducible rfl
    | simp only [Dev.trip_without, Dev.onShadow_without, h0, h1, h2]
    | split

theorem Dev.conditions_without {ps : List Part} (h0 : Part.draws ∈ ps) (d : Dev) (n : Nat) :
    (Dev.conditions d n).2.without ps = d.without ps := by
  unfold Dev.conditions
  repeat' first
    | with_reducible rfl
    | simp only [Dev.draw_without, h0]
    | split
    | rw [Dev.draw_without_of h0 (by assumption)]
    | (rename_i k9; rw [Dev.draw_without_of h0 k9])
    | (rename_i k9 _; rw [Dev.draw_without_of h0 k9])
    | (rename_i k9 _ _; rw [Dev.draw_without_of h0 k9])
    | (rename_i k9 _ _ _; rw [Dev.draw_without_of h0 k9])

theorem Dev.conditions_without_of {ps : List Part} (h0 : Part.draws ∈ ps) {d : Dev} {n : Nat} {a9 : Nat} {e9 : Dev} (h :
    Dev.conditions d n = (a9, e9)) :
    e9.without ps = d.without ps := by
  have k := Dev.conditions_without h0 d n
  rw [h] at k
  exact k

theorem Dev.shadowRecord_without {ps : List Part} (h0 : Part.lanes ∈ ps) (h1 : Part.crates ∈ ps) (h2 : Part.log ∈ ps) (h3 :
    Part.tele ∈ ps) (h4 : Part.held ∈ ps) (h5 : Part.nextHeld ∈ ps) (h6 : Part.net ∈ ps) (h7 : Part.waits ∈ ps) (h8 :
    Part.shadowRecs ∈ ps) (h9 : Part.draws ∈ ps) (d : Dev) (s : Shadow) (own : ShadowVal) (theirs : ShadowVal) (withheld :
    Bool) :
    (Dev.shadowRecord d s own theirs withheld).without ps = d.without ps := by
  unfold Dev.shadowRecord
  repeat' first
    | with_reducible rfl
    | simp only [Dev.result_without, Dev.conditions_without, without_set_shadowRecs, h0, h1, h2, h3, h4, h5, h6, h7, h8, h9]
    | split
    | rw [Dev.conditions_without_of h9 (by assumption)]
    | (rename_i k9; rw [Dev.conditions_without_of h9 k9])
    | (rename_i k9 _; rw [Dev.conditions_without_of h9 k9])
    | (rename_i k9 _ _; rw [Dev.conditions_without_of h9 k9])
    | (rename_i k9 _ _ _; rw [Dev.conditions_without_of h9 k9])

theorem Dev.shadowMismatch_without {ps : List Part} (h0 : Part.lanes ∈ ps) (h1 : Part.crates ∈ ps) (h2 : Part.log ∈ ps) (h3
    : Part.inv ∈ ps) (h4 : Part.tele ∈ ps) (h5 : Part.held ∈ ps) (h6 : Part.nextHeld ∈ ps) (h7 : Part.net ∈ ps) (h8 :
    Part.waits ∈ ps) (h9 : Part.consumed ∈ ps) (h10 : Part.contexts ∈ ps) (h11 : Part.shadowRecs ∈ ps) (h12 : Part.draws ∈
    ps) (h13 : Part.shadows ∈ ps) (d : Dev) (s : Shadow) (own : ShadowVal) (theirs : ShadowVal) :
    (Dev.shadowMismatch d s own theirs).without ps = d.without ps := by
  unfold Dev.shadowMismatch
  repeat' first
    | with_reducible rfl
    | simp only [Dev.modCrate_without, Dev.raiseCtx_without, Dev.abandonRound_without, Dev.setHealth_without,
        Dev.dropShadow_without, Dev.releaseGroup_without, Dev.faultCtx_without, Dev.shadowRecord_without, h0, h1, h2, h3,
        h4, h5, h6, h7, h8, h9, h10, h11, h12, h13]
    | split

theorem Dev.shadowValues_without {ps : List Part} (h0 : Part.lanes ∈ ps) (h1 : Part.crates ∈ ps) (h2 : Part.arb ∈ ps) (h3 :
    Part.log ∈ ps) (h4 : Part.inv ∈ ps) (h5 : Part.tele ∈ ps) (h6 : Part.held ∈ ps) (h7 : Part.nextHeld ∈ ps) (h8 :
    Part.net ∈ ps) (h9 : Part.waits ∈ ps) (h10 : Part.consumed ∈ ps) (h11 : Part.contexts ∈ ps) (h12 : Part.shadowRecs ∈
    ps) (h13 : Part.draws ∈ ps) (h14 : Part.shadows ∈ ps) (d : Dev) (ctx : Nat) (key : Nat) (operandError : Nat)
    (resultError : Nat) :
    (Dev.shadowValues d ctx key operandError resultError).without ps = d.without ps := by
  unfold Dev.shadowValues
  repeat' first
    | with_reducible rfl
    | simp only [Dev.modCrate_without, Dev.trip_without, Dev.result_without, Dev.onShadow_without,
        Dev.shadowMismatch_without, h0, h1, h2, h3, h4, h5, h6, h7, h8, h9, h10, h11, h12, h13, h14]
    | split

theorem Dev.slotZeroed_without {ps : List Part} (h0 : Part.lanes ∈ ps) (h1 : Part.crates ∈ ps) (h2 : Part.stackTab ∈ ps)
    (h3 : Part.log ∈ ps) (h4 : Part.tele ∈ ps) (h5 : Part.held ∈ ps) (h6 : Part.consumed ∈ ps) (h7 : Part.contexts ∈ ps)
    (h8 : Part.shadows ∈ ps) (d : Dev) (ctx : Nat) (key : Nat) :
    (Dev.slotZeroed d ctx key).without ps = d.without ps := by
  unfold Dev.slotZeroed
  repeat' first
    | with_reducible rfl
    | simp only [Dev.modGroup_without, Dev.consume_without, Dev.openGroup_without, Dev.addToGroup_without, h0, h1, h2, h3,
        h4, h5, h6, h7, h8]
    | split
    | with_reducible refine (foldl_without ps _ (fun e x => ?_) _ _).trans ?_
    | with_reducible refine (foldl_without_fst ps _ (fun e x => ?_) _ _).trans ?_
    | with_reducible refine (foldl_without_snd ps _ (fun e x => ?_) _ _).trans ?_

end Sys2Proof.Machine
end

