-- ==== Sys2Proof/Laws/FrameOptics.lean ====
section
/-! SUPPORT. What each named operation leaves alone, one lemma for each: the Hatches, the Chutes and the clock. Each names
the parts that the operation may change, so a caller's frame follows by citing the lemmas of what it calls. -/

set_option Elab.async false
set_option linter.unusedSimpArgs false
set_option linter.unusedVariables false

namespace Sys2Proof.Machine

theorem Dev.modHatch_without {ps : List Part} (h0 : Part.hatches ∈ ps) (d : Dev) (h : Nat) (f : Hatch → Hatch) :
    (Dev.modHatch d h f).without ps = d.without ps := by
  unfold Dev.modHatch
  repeat' first
    | with_reducible rfl
    | simp only [without_set_hatches, h0]
    | split

theorem Dev.modModule_without {ps : List Part} (h0 : Part.modules ∈ ps) (d : Dev) (m : Nat) (f : Module → Module) :
    (Dev.modModule d m f).without ps = d.without ps := by
  unfold Dev.modModule
  repeat' first
    | with_reducible rfl
    | simp only [without_set_modules, h0]
    | split

theorem Dev.modOptics_without {ps : List Part} (h0 : Part.lanes ∈ ps) (d : Dev) (l : Nat) (f : Optics → Optics) :
    (Dev.modOptics d l f).without ps = d.without ps := by
  unfold Dev.modOptics
  repeat' first
    | with_reducible rfl
    | simp only [Dev.modLane_without, h0]
    | split

theorem Dev.putLoop_without {ps : List Part} (h0 : Part.lanes ∈ ps) (d : Dev) (l : Nat) (drop : Bool) (x : Loop) :
    (Dev.putLoop d l drop x).without ps = d.without ps := by
  unfold Dev.putLoop
  repeat' first
    | with_reducible rfl
    | simp only [Dev.modOptics_without, h0]
    | split

theorem Dev.reviewHatch_without {ps : List Part} (h0 : Part.hatches ∈ ps) (d : Dev) (h : Nat) :
    (Dev.reviewHatch d h).without ps = d.without ps := by
  unfold Dev.reviewHatch
  repeat' first
    | with_reducible rfl
    | simp only [Dev.modHatch_without, h0]
    | split

theorem Dev.reviewSparing_without {ps : List Part} (h0 : Part.modules ∈ ps) (h1 : Part.log ∈ ps) (h2 : Part.tele ∈ ps) (d :
    Dev) (m : Nat) :
    (Dev.reviewSparing d m).without ps = d.without ps := by
  unfold Dev.reviewSparing
  repeat' first
    | with_reducible rfl
    | simp only [Dev.raise_without, Dev.modModule_without, h0, h1, h2]
    | split

theorem Dev.setLoop_without {ps : List Part} (h0 : Part.lanes ∈ ps) (h1 : Part.ports ∈ ps) (h2 : Part.crates ∈ ps) (h3 :
    Part.hatches ∈ ps) (h4 : Part.modules ∈ ps) (h5 : Part.log ∈ ps) (h6 : Part.tele ∈ ps) (h7 : Part.held ∈ ps) (h8 :
    Part.net ∈ ps) (d : Dev) (l : Nat) (drop : Bool) (x : Loop) :
    (Dev.setLoop d l drop x).without ps = d.without ps := by
  unfold Dev.setLoop
  repeat' first
    | with_reducible rfl
    | simp only [Dev.dropLock_without, Dev.evalLane_without, Dev.putLoop_without, Dev.reviewHatch_without,
        Dev.reviewSparing_without, h0, h1, h2, h3, h4, h5, h6, h7, h8]
    | split

theorem Dev.reviewLoops_without {ps : List Part} (h0 : Part.lanes ∈ ps) (h1 : Part.ports ∈ ps) (h2 : Part.crates ∈ ps) (h3
    : Part.hatches ∈ ps) (h4 : Part.modules ∈ ps) (h5 : Part.log ∈ ps) (h6 : Part.tele ∈ ps) (h7 : Part.held ∈ ps) (h8 :
    Part.net ∈ ps) (d : Dev) (ls : List Nat) :
    (Dev.reviewLoops d ls).without ps = d.without ps := by
  unfold Dev.reviewLoops
  repeat' first
    | with_reducible rfl
    | simp only [Dev.setLoop_without, h0, h1, h2, h3, h4, h5, h6, h7, h8]
    | split
    | with_reducible refine (foldl_without ps _ (fun e x => ?_) _ _).trans ?_
    | with_reducible refine (foldl_without_fst ps _ (fun e x => ?_) _ _).trans ?_
    | with_reducible refine (foldl_without_snd ps _ (fun e x => ?_) _ _).trans ?_

theorem Dev.sweepStart_without {ps : List Part} (h0 : Part.lanes ∈ ps) (h1 : Part.ports ∈ ps) (h2 : Part.crates ∈ ps) (h3 :
    Part.hatches ∈ ps) (h4 : Part.modules ∈ ps) (h5 : Part.log ∈ ps) (h6 : Part.tele ∈ ps) (h7 : Part.held ∈ ps) (h8 :
    Part.net ∈ ps) (d : Dev) (l : Nat) (drop : Bool) :
    (Dev.sweepStart d l drop).without ps = d.without ps := by
  unfold Dev.sweepStart
  repeat' first
    | with_reducible rfl
    | simp only [Dev.modOptics_without, Dev.setLoop_without, h0, h1, h2, h3, h4, h5, h6, h7, h8]
    | split

theorem Dev.loopFault_without {ps : List Part} (h0 : Part.lanes ∈ ps) (h1 : Part.ports ∈ ps) (h2 : Part.crates ∈ ps) (h3 :
    Part.hatches ∈ ps) (h4 : Part.modules ∈ ps) (h5 : Part.log ∈ ps) (h6 : Part.tele ∈ ps) (h7 : Part.held ∈ ps) (h8 :
    Part.net ∈ ps) (d : Dev) (l : Nat) (drop : Bool) :
    (Dev.loopFault d l drop).without ps = d.without ps := by
  unfold Dev.loopFault
  repeat' first
    | with_reducible rfl
    | simp only [Dev.raise_without, Dev.setLoop_without, h0, h1, h2, h3, h4, h5, h6, h7, h8]
    | split

theorem Dev.sweepEnd_without {ps : List Part} (h0 : Part.lanes ∈ ps) (h1 : Part.ports ∈ ps) (h2 : Part.crates ∈ ps) (h3 :
    Part.hatches ∈ ps) (h4 : Part.modules ∈ ps) (h5 : Part.log ∈ ps) (h6 : Part.tele ∈ ps) (h7 : Part.held ∈ ps) (h8 :
    Part.net ∈ ps) (d : Dev) (cal : Nat) (l : Nat) (drop : Bool) (cands : List Nat) (temp : Int) :
    (Dev.sweepEnd d cal l drop cands temp).without ps = d.without ps := by
  unfold Dev.sweepEnd
  repeat' first
    | with_reducible rfl
    | simp only [Dev.setLoop_without, Dev.loopFault_without, h0, h1, h2, h3, h4, h5, h6, h7, h8]
    | split

theorem Dev.acquireEnd_without {ps : List Part} (h0 : Part.lanes ∈ ps) (h1 : Part.ports ∈ ps) (h2 : Part.crates ∈ ps) (h3 :
    Part.hatches ∈ ps) (h4 : Part.modules ∈ ps) (h5 : Part.log ∈ ps) (h6 : Part.tele ∈ ps) (h7 : Part.held ∈ ps) (h8 :
    Part.net ∈ ps) (d : Dev) (l : Nat) (drop : Bool) (heater : Nat) :
    (Dev.acquireEnd d l drop heater).without ps = d.without ps := by
  unfold Dev.acquireEnd
  repeat' first
    | with_reducible rfl
    | simp only [Dev.setLoop_without, h0, h1, h2, h3, h4, h5, h6, h7, h8]
    | split

theorem Dev.verifyEnd_without {ps : List Part} (h0 : Part.lanes ∈ ps) (h1 : Part.ports ∈ ps) (h2 : Part.crates ∈ ps) (h3 :
    Part.hatches ∈ ps) (h4 : Part.modules ∈ ps) (h5 : Part.log ∈ ps) (h6 : Part.tele ∈ ps) (h7 : Part.held ∈ ps) (h8 :
    Part.net ∈ ps) (d : Dev) (cal : Nat) (l : Nat) (drop : Bool) (t : Tones) (temp : Int) :
    (Dev.verifyEnd d cal l drop t temp).without ps = d.without ps := by
  unfold Dev.verifyEnd
  repeat' first
    | with_reducible rfl
    | simp only [Dev.raise_without, Dev.setLoop_without, Dev.loopFault_without, h0, h1, h2, h3, h4, h5, h6, h7, h8]
    | split

theorem Dev.trackUpdate_without {ps : List Part} (h0 : Part.lanes ∈ ps) (h1 : Part.log ∈ ps) (h2 : Part.tele ∈ ps) (d :
    Dev) (cal : Nat) (l : Nat) (drop : Bool) (feedback : Int) (detuned : Bool) :
    (Dev.trackUpdate d cal l drop feedback detuned).without ps = d.without ps := by
  unfold Dev.trackUpdate
  repeat' first
    | with_reducible rfl
    | simp only [Dev.raise_without, Dev.putLoop_without, h0, h1, h2]
    | split

theorem Dev.reverification_without {ps : List Part} (h0 : Part.lanes ∈ ps) (d : Dev) (l : Nat) (drop : Bool) :
    (Dev.reverification d l drop).without ps = d.without ps := by
  unfold Dev.reverification
  repeat' first
    | with_reducible rfl
    | simp only [Dev.putLoop_without, h0]
    | split

theorem Dev.reverificationEnd_without {ps : List Part} (h0 : Part.lanes ∈ ps) (h1 : Part.ports ∈ ps) (h2 : Part.crates ∈
    ps) (h3 : Part.hatches ∈ ps) (h4 : Part.modules ∈ ps) (h5 : Part.log ∈ ps) (h6 : Part.tele ∈ ps) (h7 : Part.held ∈ ps)
    (h8 : Part.net ∈ ps) (d : Dev) (cal : Nat) (l : Nat) (drop : Bool) (t : Tones) (temp : Int) :
    (Dev.reverificationEnd d cal l drop t temp).without ps = d.without ps := by
  unfold Dev.reverificationEnd
  repeat' first
    | with_reducible rfl
    | simp only [Dev.raise_without, Dev.putLoop_without, Dev.setLoop_without, h0, h1, h2, h3, h4, h5, h6, h7, h8]
    | split

theorem Dev.holdLoop_without {ps : List Part} (h0 : Part.lanes ∈ ps) (h1 : Part.ports ∈ ps) (h2 : Part.crates ∈ ps) (h3 :
    Part.hatches ∈ ps) (h4 : Part.modules ∈ ps) (h5 : Part.log ∈ ps) (h6 : Part.tele ∈ ps) (h7 : Part.held ∈ ps) (h8 :
    Part.net ∈ ps) (d : Dev) (l : Nat) (drop : Bool) :
    (Dev.holdLoop d l drop).without ps = d.without ps := by
  unfold Dev.holdLoop
  repeat' first
    | with_reducible rfl
    | simp only [Dev.setLoop_without, h0, h1, h2, h3, h4, h5, h6, h7, h8]
    | split

theorem Dev.loopLost_without {ps : List Part} (h0 : Part.lanes ∈ ps) (h1 : Part.ports ∈ ps) (h2 : Part.crates ∈ ps) (h3 :
    Part.hatches ∈ ps) (h4 : Part.modules ∈ ps) (h5 : Part.log ∈ ps) (h6 : Part.tele ∈ ps) (h7 : Part.held ∈ ps) (h8 :
    Part.net ∈ ps) (d : Dev) (l : Nat) (drop : Bool) :
    (Dev.loopLost d l drop).without ps = d.without ps := by
  unfold Dev.loopLost
  repeat' first
    | with_reducible rfl
    | simp only [Dev.raise_without, Dev.setLoop_without, h0, h1, h2, h3, h4, h5, h6, h7, h8]
    | split

theorem Dev.ringLost_without {ps : List Part} (h0 : Part.lanes ∈ ps) (h1 : Part.ports ∈ ps) (h2 : Part.crates ∈ ps) (h3 :
    Part.hatches ∈ ps) (h4 : Part.modules ∈ ps) (h5 : Part.log ∈ ps) (h6 : Part.tele ∈ ps) (h7 : Part.held ∈ ps) (h8 :
    Part.net ∈ ps) (d : Dev) (l : Nat) (drop : Bool) :
    (Dev.ringLost d l drop).without ps = d.without ps := by
  unfold Dev.ringLost
  repeat' first
    | with_reducible rfl
    | simp only [Dev.loopLost_without, h0, h1, h2, h3, h4, h5, h6, h7, h8]
    | split

theorem Dev.lightLost_without {ps : List Part} (h0 : Part.lanes ∈ ps) (h1 : Part.ports ∈ ps) (h2 : Part.crates ∈ ps) (h3 :
    Part.hatches ∈ ps) (h4 : Part.modules ∈ ps) (h5 : Part.log ∈ ps) (h6 : Part.tele ∈ ps) (h7 : Part.held ∈ ps) (h8 :
    Part.net ∈ ps) (d : Dev) (l : Nat) (drop : Bool) :
    (Dev.lightLost d l drop).without ps = d.without ps := by
  unfold Dev.lightLost
  repeat' first
    | with_reducible rfl
    | simp only [Dev.modOptics_without, Dev.holdLoop_without, Dev.loopLost_without, h0, h1, h2, h3, h4, h5, h6, h7, h8]
    | split

theorem Dev.lightReturned_without {ps : List Part} (h0 : Part.lanes ∈ ps) (h1 : Part.ports ∈ ps) (h2 : Part.crates ∈ ps)
    (h3 : Part.hatches ∈ ps) (h4 : Part.modules ∈ ps) (h5 : Part.log ∈ ps) (h6 : Part.tele ∈ ps) (h7 : Part.held ∈ ps) (h8
    : Part.net ∈ ps) (d : Dev) (l : Nat) (drop : Bool) :
    (Dev.lightReturned d l drop).without ps = d.without ps := by
  unfold Dev.lightReturned
  repeat' first
    | with_reducible rfl
    | simp only [Dev.modOptics_without, Dev.setLoop_without, h0, h1, h2, h3, h4, h5, h6, h7, h8]
    | split

theorem Dev.holdExpired_without {ps : List Part} (h0 : Part.lanes ∈ ps) (h1 : Part.ports ∈ ps) (h2 : Part.crates ∈ ps) (h3
    : Part.hatches ∈ ps) (h4 : Part.modules ∈ ps) (h5 : Part.log ∈ ps) (h6 : Part.tele ∈ ps) (h7 : Part.held ∈ ps) (h8 :
    Part.net ∈ ps) (d : Dev) (l : Nat) (drop : Bool) :
    (Dev.holdExpired d l drop).without ps = d.without ps := by
  unfold Dev.holdExpired
  repeat' first
    | with_reducible rfl
    | simp only [Dev.setLoop_without, h0, h1, h2, h3, h4, h5, h6, h7, h8]
    | split

theorem Dev.faultRetry_without {ps : List Part} (h0 : Part.lanes ∈ ps) (h1 : Part.ports ∈ ps) (h2 : Part.crates ∈ ps) (h3 :
    Part.hatches ∈ ps) (h4 : Part.modules ∈ ps) (h5 : Part.log ∈ ps) (h6 : Part.tele ∈ ps) (h7 : Part.held ∈ ps) (h8 :
    Part.net ∈ ps) (d : Dev) (l : Nat) (drop : Bool) :
    (Dev.faultRetry d l drop).without ps = d.without ps := by
  unfold Dev.faultRetry
  repeat' first
    | with_reducible rfl
    | simp only [Dev.setLoop_without, h0, h1, h2, h3, h4, h5, h6, h7, h8]
    | split

theorem Dev.activityWord_without {ps : List Part} (h0 : Part.hatches ∈ ps) (d : Dev) (n : Nat) (power : Nat) :
    (Dev.activityWord d n power).without ps = d.without ps := by
  unfold Dev.activityWord
  repeat' first
    | with_reducible rfl
    | simp only [Dev.modHatch_without, h0]
    | split

theorem Dev.channelFailed_without {ps : List Part} (h0 : Part.lanes ∈ ps) (h1 : Part.ports ∈ ps) (h2 : Part.crates ∈ ps)
    (h3 : Part.hatches ∈ ps) (h4 : Part.modules ∈ ps) (h5 : Part.log ∈ ps) (h6 : Part.tele ∈ ps) (h7 : Part.held ∈ ps) (h8
    : Part.net ∈ ps) (d : Dev) (m : Nat) (k : Nat) :
    (Dev.channelFailed d m k).without ps = d.without ps := by
  unfold Dev.channelFailed
  repeat' first
    | with_reducible rfl
    | simp only [Dev.raise_without, Dev.modModule_without, Dev.holdLoop_without, h0, h1, h2, h3, h4, h5, h6, h7, h8]
    | split
    | with_reducible refine (foldl_without ps _ (fun e x => ?_) _ _).trans ?_
    | with_reducible refine (foldl_without_fst ps _ (fun e x => ?_) _ _).trans ?_
    | with_reducible refine (foldl_without_snd ps _ (fun e x => ?_) _ _).trans ?_

theorem Dev.sparing_without {ps : List Part} (h0 : Part.modules ∈ ps) (h1 : Part.log ∈ ps) (h2 : Part.tele ∈ ps) (d : Dev)
    (m : Nat) :
    (Dev.sparing d m).without ps = d.without ps := by
  unfold Dev.sparing
  repeat' first
    | with_reducible rfl
    | simp only [Dev.raise_without, Dev.modModule_without, h0, h1, h2]
    | split

theorem Dev.spareTuned_without {ps : List Part} (h0 : Part.modules ∈ ps) (h1 : Part.log ∈ ps) (h2 : Part.tele ∈ ps) (d :
    Dev) (m : Nat) :
    (Dev.spareTuned d m).without ps = d.without ps := by
  unfold Dev.spareTuned
  repeat' first
    | with_reducible rfl
    | simp only [Dev.modModule_without, Dev.sparing_without, h0, h1, h2]
    | split

theorem Dev.selectorVerified_without {ps : List Part} (h0 : Part.lanes ∈ ps) (h1 : Part.ports ∈ ps) (h2 : Part.crates ∈ ps)
    (h3 : Part.hatches ∈ ps) (h4 : Part.modules ∈ ps) (h5 : Part.log ∈ ps) (h6 : Part.tele ∈ ps) (h7 : Part.held ∈ ps) (h8
    : Part.net ∈ ps) (d : Dev) (m : Nat) :
    (Dev.selectorVerified d m).without ps = d.without ps := by
  unfold Dev.selectorVerified
  repeat' first
    | with_reducible rfl
    | simp only [Dev.modModule_without, Dev.reviewSparing_without, Dev.setLoop_without, Dev.sparing_without, h0, h1, h2,
        h3, h4, h5, h6, h7, h8]
    | split
    | with_reducible refine (foldl_without ps _ (fun e x => ?_) _ _).trans ?_
    | with_reducible refine (foldl_without_fst ps _ (fun e x => ?_) _ _).trans ?_
    | with_reducible refine (foldl_without_snd ps _ (fun e x => ?_) _ _).trans ?_

theorem Dev.spareCommand_without {ps : List Part} (h0 : Part.modules ∈ ps) (d : Dev) (m : Nat) (k : Nat) :
    (Dev.spareCommand d m k).without ps = d.without ps := by
  unfold Dev.spareCommand
  repeat' first
    | with_reducible rfl
    | simp only [Dev.modModule_without, h0]
    | split

theorem Dev.returnChannel_without {ps : List Part} (h0 : Part.lanes ∈ ps) (h1 : Part.ports ∈ ps) (h2 : Part.crates ∈ ps)
    (h3 : Part.hatches ∈ ps) (h4 : Part.modules ∈ ps) (h5 : Part.log ∈ ps) (h6 : Part.tele ∈ ps) (h7 : Part.held ∈ ps) (h8
    : Part.net ∈ ps) (d : Dev) (m : Nat) (k : Nat) :
    (Dev.returnChannel d m k).without ps = d.without ps := by
  unfold Dev.returnChannel
  repeat' first
    | with_reducible rfl
    | simp only [Dev.modModule_without, Dev.holdLoop_without, Dev.sparing_without, h0, h1, h2, h3, h4, h5, h6, h7, h8]
    | split
    | with_reducible refine (foldl_without ps _ (fun e x => ?_) _ _).trans ?_
    | with_reducible refine (foldl_without_fst ps _ (fun e x => ?_) _ _).trans ?_
    | with_reducible refine (foldl_without_snd ps _ (fun e x => ?_) _ _).trans ?_

theorem Dev.returnCommand_without {ps : List Part} (h0 : Part.lanes ∈ ps) (h1 : Part.ports ∈ ps) (h2 : Part.crates ∈ ps)
    (h3 : Part.hatches ∈ ps) (h4 : Part.modules ∈ ps) (h5 : Part.log ∈ ps) (h6 : Part.tele ∈ ps) (h7 : Part.held ∈ ps) (h8
    : Part.net ∈ ps) (d : Dev) (m : Nat) (k : Nat) :
    (Dev.returnCommand d m k).without ps = d.without ps := by
  unfold Dev.returnCommand
  repeat' first
    | with_reducible rfl
    | simp only [Dev.modModule_without, Dev.returnChannel_without, h0, h1, h2, h3, h4, h5, h6, h7, h8]
    | split

theorem Dev.biasControl_without {ps : List Part} (h0 : Part.modules ∈ ps) (h1 : Part.log ∈ ps) (h2 : Part.tele ∈ ps) (d :
    Dev) (m : Nat) (powers : List Nat) (eol : Nat) :
    (Dev.biasControl d m powers eol).without ps = d.without ps := by
  unfold Dev.biasControl
  repeat' first
    | with_reducible rfl
    | simp only [Dev.raise_without, Dev.modModule_without, Dev.sparing_without, h0, h1, h2]
    | split
    | with_reducible refine (foldl_without ps _ (fun e x => ?_) _ _).trans ?_
    | with_reducible refine (foldl_without_fst ps _ (fun e x => ?_) _ _).trans ?_
    | with_reducible refine (foldl_without_snd ps _ (fun e x => ?_) _ _).trans ?_

theorem Dev.moduleInserted_without {ps : List Part} (h0 : Part.modules ∈ ps) (d : Dev) (m : Nat) :
    (Dev.moduleInserted d m).without ps = d.without ps := by
  unfold Dev.moduleInserted
  repeat' first
    | with_reducible rfl
    | simp only [Dev.modModule_without, h0]
    | split

theorem Dev.moduleRemoved_without {ps : List Part} (h0 : Part.lanes ∈ ps) (h1 : Part.ports ∈ ps) (h2 : Part.crates ∈ ps)
    (h3 : Part.hatches ∈ ps) (h4 : Part.modules ∈ ps) (h5 : Part.log ∈ ps) (h6 : Part.tele ∈ ps) (h7 : Part.held ∈ ps) (h8
    : Part.net ∈ ps) (d : Dev) (m : Nat) :
    (Dev.moduleRemoved d m).without ps = d.without ps := by
  unfold Dev.moduleRemoved
  repeat' first
    | with_reducible rfl
    | simp only [Dev.raise_without, Dev.modModule_without, Dev.holdLoop_without, h0, h1, h2, h3, h4, h5, h6, h7, h8]
    | split
    | with_reducible refine (foldl_without ps _ (fun e x => ?_) _ _).trans ?_
    | with_reducible refine (foldl_without_fst ps _ (fun e x => ?_) _ _).trans ?_
    | with_reducible refine (foldl_without_snd ps _ (fun e x => ?_) _ _).trans ?_

theorem Dev.readAlarm_without {ps : List Part} (h0 : Part.modules ∈ ps) (h1 : Part.log ∈ ps) (h2 : Part.tele ∈ ps) (d :
    Dev) (m : Nat) :
    (Dev.readAlarm d m).without ps = d.without ps := by
  unfold Dev.readAlarm
  repeat' first
    | with_reducible rfl
    | simp only [Dev.raise_without, Dev.modModule_without, h0, h1, h2]
    | split

theorem Dev.moduleFault_without {ps : List Part} (h0 : Part.modules ∈ ps) (h1 : Part.log ∈ ps) (h2 : Part.tele ∈ ps) (d :
    Dev) (m : Nat) :
    (Dev.moduleFault d m).without ps = d.without ps := by
  unfold Dev.moduleFault
  repeat' first
    | with_reducible rfl
    | simp only [Dev.modModule_without, Dev.readAlarm_without, h0, h1, h2]
    | split

theorem Dev.modulesReviewed_without {ps : List Part} (h0 : Part.lanes ∈ ps) (h1 : Part.ports ∈ ps) (h2 : Part.crates ∈ ps)
    (h3 : Part.hatches ∈ ps) (h4 : Part.modules ∈ ps) (h5 : Part.log ∈ ps) (h6 : Part.tele ∈ ps) (h7 : Part.held ∈ ps) (h8
    : Part.net ∈ ps) (d : Dev) :
    (Dev.modulesReviewed d).without ps = d.without ps := by
  unfold Dev.modulesReviewed
  repeat' first
    | with_reducible rfl
    | simp only [Dev.modModule_without, Dev.reviewSparing_without, Dev.returnChannel_without, Dev.readAlarm_without, h0,
        h1, h2, h3, h4, h5, h6, h7, h8]
    | split
    | with_reducible refine (foldl_without ps _ (fun e x => ?_) _ _).trans ?_
    | with_reducible refine (foldl_without_fst ps _ (fun e x => ?_) _ _).trans ?_
    | with_reducible refine (foldl_without_snd ps _ (fun e x => ?_) _ _).trans ?_

theorem Dev.modulesOff_without {ps : List Part} (h0 : Part.lanes ∈ ps) (h1 : Part.ports ∈ ps) (h2 : Part.crates ∈ ps) (h3 :
    Part.hatches ∈ ps) (h4 : Part.modules ∈ ps) (h5 : Part.log ∈ ps) (h6 : Part.tele ∈ ps) (h7 : Part.held ∈ ps) (h8 :
    Part.net ∈ ps) (d : Dev) :
    (Dev.modulesOff d).without ps = d.without ps := by
  unfold Dev.modulesOff
  repeat' first
    | with_reducible rfl
    | simp only [Dev.modModule_without, Dev.holdLoop_without, h0, h1, h2, h3, h4, h5, h6, h7, h8]
    | split
    | with_reducible refine (foldl_without ps _ (fun e x => ?_) _ _).trans ?_
    | with_reducible refine (foldl_without_fst ps _ (fun e x => ?_) _ _).trans ?_
    | with_reducible refine (foldl_without_snd ps _ (fun e x => ?_) _ _).trans ?_

theorem Dev.startHatches_without {ps : List Part} (h0 : Part.hatches ∈ ps) (h1 : Part.modules ∈ ps) (d : Dev) :
    (Dev.startHatches d).without ps = d.without ps := by
  unfold Dev.startHatches
  repeat' first
    | with_reducible rfl
    | simp only [Dev.modHatch_without, Dev.modModule_without, Dev.reviewHatch_without, h0, h1]
    | split
    | with_reducible refine (foldl_without ps _ (fun e x => ?_) _ _).trans ?_
    | with_reducible refine (foldl_without_fst ps _ (fun e x => ?_) _ _).trans ?_
    | with_reducible refine (foldl_without_snd ps _ (fun e x => ?_) _ _).trans ?_

theorem Dev.interruptSparing_without {ps : List Part} (h0 : Part.modules ∈ ps) (h1 : Part.log ∈ ps) (h2 : Part.tele ∈ ps)
    (d : Dev) :
    (Dev.interruptSparing d).without ps = d.without ps := by
  unfold Dev.interruptSparing
  repeat' first
    | with_reducible rfl
    | simp only [Dev.modModule_without, Dev.sparing_without, h0, h1, h2]
    | split
    | with_reducible refine (foldl_without ps _ (fun e x => ?_) _ _).trans ?_
    | with_reducible refine (foldl_without_fst ps _ (fun e x => ?_) _ _).trans ?_
    | with_reducible refine (foldl_without_snd ps _ (fun e x => ?_) _ _).trans ?_

theorem Dev.receivedPower_without {ps : List Part} (h0 : Part.lanes ∈ ps) (h1 : Part.log ∈ ps) (h2 : Part.tele ∈ ps) (d :
    Dev) (l : Nat) (power : Nat) :
    (Dev.receivedPower d l power).without ps = d.without ps := by
  unfold Dev.receivedPower
  repeat' first
    | with_reducible rfl
    | simp only [Dev.raise_without, Dev.modOptics_without, h0, h1, h2]
    | split

theorem Dev.errorInterval_without {ps : List Part} (h0 : Part.lanes ∈ ps) (h1 : Part.log ∈ ps) (h2 : Part.tele ∈ ps) (d :
    Dev) (l : Nat) (codewords : Nat) (corrected : Nat) (uncorrectable : Nat) (bits : Nat) (received : Nat) :
    (Dev.errorInterval d l codewords corrected uncorrectable bits received).without ps = d.without ps := by
  unfold Dev.errorInterval
  repeat' first
    | with_reducible rfl
    | simp only [Dev.raise_without, Dev.modOptics_without, h0, h1, h2]
    | split

theorem Dev.fecTimeout_without {ps : List Part} (h0 : Part.lanes ∈ ps) (h1 : Part.log ∈ ps) (h2 : Part.tele ∈ ps) (d : Dev)
    (l : Nat) :
    (Dev.fecTimeout d l).without ps = d.without ps := by
  unfold Dev.fecTimeout
  repeat' first
    | with_reducible rfl
    | simp only [Dev.raise_without, Dev.modOptics_without, h0, h1, h2]
    | split

theorem Dev.warmUpTimeout_without {ps : List Part} (h0 : Part.log ∈ ps) (h1 : Part.tele ∈ ps) (d : Dev) (h : Nat) :
    (Dev.warmUpTimeout d h).without ps = d.without ps := by
  unfold Dev.warmUpTimeout
  repeat' first
    | with_reducible rfl
    | simp only [Dev.raise_without, h0, h1]
    | split

theorem Dev.hatchSensors_without {ps : List Part} (h0 : Part.hatches ∈ ps) (h1 : Part.log ∈ ps) (h2 : Part.tele ∈ ps) (d :
    Dev) (h : Nat) (t : List Nat) :
    (Dev.hatchSensors d h t).without ps = d.without ps := by
  unfold Dev.hatchSensors
  repeat' first
    | with_reducible rfl
    | simp only [Dev.raise_without, Dev.modHatch_without, Dev.reviewHatch_without, h0, h1, h2]
    | split

theorem Dev.modChute_without {ps : List Part} (h0 : Part.chutes ∈ ps) (d : Dev) (h : Nat) (f : Chute → Chute) :
    (Dev.modChute d h f).without ps = d.without ps := by
  unfold Dev.modChute
  repeat' first
    | with_reducible rfl
    | simp only [without_set_chutes, h0]
    | split

theorem Dev.setUsed_without {ps : List Part} (h0 : Part.lanes ∈ ps) (h1 : Part.ports ∈ ps) (h2 : Part.crates ∈ ps) (h3 :
    Part.chutes ∈ ps) (h4 : Part.hatches ∈ ps) (h5 : Part.modules ∈ ps) (h6 : Part.log ∈ ps) (h7 : Part.tele ∈ ps) (h8 :
    Part.held ∈ ps) (h9 : Part.net ∈ ps) (d : Dev) (h : Nat) (pairs : Nat) :
    (Dev.setUsed d h pairs).without ps = d.without ps := by
  unfold Dev.setUsed
  repeat' first
    | with_reducible rfl
    | simp only [Dev.evalCrate_without, Dev.reviewLoops_without, Dev.modChute_without, h0, h1, h2, h3, h4, h5, h6, h7, h8,
        h9]
    | split
    | with_reducible refine (foldl_without ps _ (fun e x => ?_) _ _).trans ?_
    | with_reducible refine (foldl_without_fst ps _ (fun e x => ?_) _ _).trans ?_
    | with_reducible refine (foldl_without_snd ps _ (fun e x => ?_) _ _).trans ?_

theorem Dev.chuteChanged_without {ps : List Part} (h0 : Part.chutes ∈ ps) (d : Dev) (h : Nat) :
    (Dev.chuteChanged d h).without ps = d.without ps := by
  unfold Dev.chuteChanged
  repeat' first
    | with_reducible rfl
    | simp only [Dev.modChute_without, h0]
    | split

theorem chuteWear_without {ps : List Part} (h0 : Part.chutes ∈ ps) (h1 : Part.log ∈ ps) (h2 : Part.tele ∈ ps) (v : Nv) (d :
    Dev) (h : Nat) :
    (chuteWear v d h).2.without ps = d.without ps := by
  unfold chuteWear
  repeat' first
    | with_reducible rfl
    | simp only [Dev.raiseCell_without, Dev.modChute_without, h0, h1, h2]
    | split
    | with_reducible refine (foldl_without ps _ (fun e x => ?_) _ _).trans ?_
    | with_reducible refine (foldl_without_fst ps _ (fun e x => ?_) _ _).trans ?_
    | with_reducible refine (foldl_without_snd ps _ (fun e x => ?_) _ _).trans ?_

theorem chuteStart_without {ps : List Part} (h0 : Part.lanes ∈ ps) (h1 : Part.ports ∈ ps) (h2 : Part.crates ∈ ps) (h3 :
    Part.chutes ∈ ps) (h4 : Part.hatches ∈ ps) (h5 : Part.modules ∈ ps) (h6 : Part.log ∈ ps) (h7 : Part.tele ∈ ps) (h8 :
    Part.held ∈ ps) (h9 : Part.net ∈ ps) (v : Nv) (d : Dev) (h : Nat) (first : List (Nat × Cell)) (again : List (Nat ×
    Cell)) :
    (chuteStart v d h first again).2.without ps = d.without ps := by
  unfold chuteStart
  repeat' first
    | with_reducible rfl
    | simp only [Dev.modChute_without, Dev.setUsed_without, h0, h1, h2, h3, h4, h5, h6, h7, h8, h9]
    | split

theorem chuteEnd_without {ps : List Part} (h0 : Part.lanes ∈ ps) (h1 : Part.ports ∈ ps) (h2 : Part.crates ∈ ps) (h3 :
    Part.chutes ∈ ps) (h4 : Part.hatches ∈ ps) (h5 : Part.modules ∈ ps) (h6 : Part.log ∈ ps) (h7 : Part.tele ∈ ps) (h8 :
    Part.held ∈ ps) (h9 : Part.net ∈ ps) (v : Nv) (d : Dev) (h : Nat) :
    (chuteEnd v d h).2.without ps = d.without ps := by
  unfold chuteEnd
  repeat' first
    | with_reducible rfl
    | simp only [Dev.raise_without, Dev.raiseCell_without, Dev.modChute_without, Dev.setUsed_without, chuteWear_without,
        h0, h1, h2, h3, h4, h5, h6, h7, h8, h9]
    | split
    | with_reducible refine (foldl_without ps _ (fun e x => ?_) _ _).trans ?_
    | with_reducible refine (foldl_without_fst ps _ (fun e x => ?_) _ _).trans ?_
    | with_reducible refine (foldl_without_snd ps _ (fun e x => ?_) _ _).trans ?_

theorem chuteRead_without {ps : List Part} (h0 : Part.chutes ∈ ps) (h1 : Part.log ∈ ps) (h2 : Part.inv ∈ ps) (h3 :
    Part.tele ∈ ps) (v : Nv) (d : Dev) (h : Nat) :
    (chuteRead v d h).2.without ps = d.without ps := by
  unfold chuteRead
  repeat' first
    | with_reducible rfl
    | simp only [Dev.setBase_without, Dev.raiseCell_without, Dev.modChute_without, chuteWear_without, h0, h1, h2, h3]
    | split
    | with_reducible refine (foldl_without ps _ (fun e x => ?_) _ _).trans ?_
    | with_reducible refine (foldl_without_fst ps _ (fun e x => ?_) _ _).trans ?_
    | with_reducible refine (foldl_without_snd ps _ (fun e x => ?_) _ _).trans ?_

theorem chuteCut_without {ps : List Part} (h0 : Part.chutes ∈ ps) (h1 : Part.draws ∈ ps) (v : Nv) (d : Dev) (h : Nat) :
    (chuteCut v d h).2.without ps = d.without ps := by
  unfold chuteCut
  repeat' first
    | with_reducible rfl
    | simp only [Dev.draw_without, Dev.modChute_without, h0, h1]
    | split
    | with_reducible refine (foldl_without ps _ (fun e x => ?_) _ _).trans ?_
    | with_reducible refine (foldl_without_fst ps _ (fun e x => ?_) _ _).trans ?_
    | with_reducible refine (foldl_without_snd ps _ (fun e x => ?_) _ _).trans ?_
    | rw [Dev.draw_without_of h1 (by assumption)]
    | (rename_i k9; rw [Dev.draw_without_of h1 k9])
    | (rename_i k9 _; rw [Dev.draw_without_of h1 k9])
    | (rename_i k9 _ _; rw [Dev.draw_without_of h1 k9])
    | (rename_i k9 _ _ _; rw [Dev.draw_without_of h1 k9])

theorem stopChutes_without {ps : List Part} (h0 : Part.chutes ∈ ps) (h1 : Part.draws ∈ ps) (v : Nv) (d : Dev) :
    (stopChutes v d).2.without ps = d.without ps := by
  unfold stopChutes
  repeat' first
    | with_reducible rfl
    | simp only [chuteCut_without, h0, h1]
    | split
    | with_reducible refine (foldl_without ps _ (fun e x => ?_) _ _).trans ?_
    | with_reducible refine (foldl_without_fst ps _ (fun e x => ?_) _ _).trans ?_
    | with_reducible refine (foldl_without_snd ps _ (fun e x => ?_) _ _).trans ?_

theorem Dev.modTime_without {ps : List Part} (h0 : Part.time ∈ ps) (d : Dev) (f : TimeUnit → TimeUnit) :
    (Dev.modTime d f).without ps = d.without ps := by
  unfold Dev.modTime
  repeat' first
    | with_reducible rfl
    | simp only [without_set_time, h0]
    | split

theorem Dev.tick_without {ps : List Part} (h0 : Part.time ∈ ps) (d : Dev) :
    (Dev.tick d).without ps = d.without ps := by
  unfold Dev.tick
  repeat' first
    | with_reducible rfl
    | simp only [Dev.modTime_without, h0]
    | split

theorem Dev.holdover_without {ps : List Part} (h0 : Part.time ∈ ps) (h1 : Part.log ∈ ps) (h2 : Part.tele ∈ ps) (d : Dev) (b
    : Nat) :
    (Dev.holdover d b).without ps = d.without ps := by
  unfold Dev.holdover
  repeat' first
    | with_reducible rfl
    | simp only [Dev.raiseTime_without, Dev.modTime_without, h0, h1, h2]
    | split

theorem Dev.loseSource_without {ps : List Part} (h0 : Part.time ∈ ps) (h1 : Part.log ∈ ps) (h2 : Part.tele ∈ ps) (d : Dev)
    (b : Nat) :
    (Dev.loseSource d b).without ps = d.without ps := by
  unfold Dev.loseSource
  repeat' first
    | with_reducible rfl
    | simp only [Dev.modTime_without, Dev.holdover_without, h0, h1, h2]
    | split

theorem Dev.sourceLost_without {ps : List Part} (h0 : Part.time ∈ ps) (h1 : Part.log ∈ ps) (h2 : Part.tele ∈ ps) (d : Dev) :
    (Dev.sourceLost d).without ps = d.without ps := by
  unfold Dev.sourceLost
  repeat' first
    | with_reducible rfl
    | simp only [Dev.loseSource_without, h0, h1, h2]
    | split

theorem Dev.sourceAppears_without {ps : List Part} (h0 : Part.time ∈ ps) (d : Dev) :
    (Dev.sourceAppears d).without ps = d.without ps := by
  unfold Dev.sourceAppears
  repeat' first
    | with_reducible rfl
    | simp only [Dev.modTime_without, h0]
    | split

theorem Dev.enterTracking_without {ps : List Part} (h0 : Part.time ∈ ps) (h1 : Part.log ∈ ps) (h2 : Part.tele ∈ ps) (d :
    Dev) :
    (Dev.enterTracking d).without ps = d.without ps := by
  unfold Dev.enterTracking
  repeat' first
    | with_reducible rfl
    | simp only [Dev.raiseTime_without, Dev.modTime_without, h0, h1, h2]
    | split

theorem Dev.timeJump_without {ps : List Part} (h0 : Part.time ∈ ps) (h1 : Part.log ∈ ps) (h2 : Part.tele ∈ ps) (d : Dev)
    (by_ : Int) :
    (Dev.timeJump d by_).without ps = d.without ps := by
  unfold Dev.timeJump
  repeat' first
    | with_reducible rfl
    | simp only [Dev.raiseTime_without, Dev.modTime_without, h0, h1, h2]
    | split

theorem Dev.measure_without {ps : List Part} (h0 : Part.time ∈ ps) (h1 : Part.log ∈ ps) (h2 : Part.tele ∈ ps) (h3 :
    Part.draws ∈ ps) (d : Dev) (o : Int) (marked : Bool) :
    (Dev.measure d o marked).without ps = d.without ps := by
  unfold Dev.measure
  repeat' first
    | with_reducible rfl
    | simp only [Dev.draw_without, Dev.raiseTime_without, Dev.modTime_without, Dev.sourceAppears_without,
        Dev.timeJump_without, h0, h1, h2, h3]
    | split
    | rw [Dev.draw_without_of h3 (by assumption)]
    | (rename_i k9; rw [Dev.draw_without_of h3 k9])
    | (rename_i k9 _; rw [Dev.draw_without_of h3 k9])
    | (rename_i k9 _ _; rw [Dev.draw_without_of h3 k9])
    | (rename_i k9 _ _ _; rw [Dev.draw_without_of h3 k9])

theorem Dev.servoStep_without {ps : List Part} (h0 : Part.time ∈ ps) (h1 : Part.log ∈ ps) (h2 : Part.tele ∈ ps) (d : Dev) :
    (Dev.servoStep d).without ps = d.without ps := by
  unfold Dev.servoStep
  repeat' first
    | with_reducible rfl
    | simp only [Dev.modTime_without, Dev.enterTracking_without, h0, h1, h2]
    | split

theorem Dev.reviewParent_without {ps : List Part} (h0 : Part.time ∈ ps) (h1 : Part.log ∈ ps) (h2 : Part.tele ∈ ps) (d :
    Dev) :
    (Dev.reviewParent d).without ps = d.without ps := by
  unfold Dev.reviewParent
  repeat' first
    | with_reducible rfl
    | simp only [Dev.raise_without, Dev.raiseTime_without, Dev.modTime_without, Dev.loseSource_without,
        Dev.sourceAppears_without, h0, h1, h2]
    | split
    | with_reducible refine (foldl_without ps _ (fun e x => ?_) _ _).trans ?_
    | with_reducible refine (foldl_without_fst ps _ (fun e x => ?_) _ _).trans ?_
    | with_reducible refine (foldl_without_snd ps _ (fun e x => ?_) _ _).trans ?_

theorem Dev.roleChanged_without {ps : List Part} (h0 : Part.time ∈ ps) (h1 : Part.log ∈ ps) (h2 : Part.tele ∈ ps) (d : Dev)
    (bound : Nat) :
    (Dev.roleChanged d bound).without ps = d.without ps := by
  unfold Dev.roleChanged
  repeat' first
    | with_reducible rfl
    | simp only [Dev.raiseTime_without, Dev.modTime_without, Dev.holdover_without, Dev.enterTracking_without, h0, h1, h2]
    | split

theorem Dev.stepSend_without {ps : List Part} (h0 : Part.lanes ∈ ps) (h1 : Part.out ∈ ps) (d : Dev) (l : Nat) (t :
    FabricTime) :
    (Dev.stepSend d l t).without ps = d.without ps := by
  unfold Dev.stepSend
  repeat' first
    | with_reducible rfl
    | simp only [Dev.modLaneTime_without, Dev.sendControl_without, h0, h1]
    | split

theorem Dev.stepArrives_without {ps : List Part} (h0 : Part.lanes ∈ ps) (h1 : Part.crates ∈ ps) (h2 : Part.time ∈ ps) (h3 :
    Part.log ∈ ps) (h4 : Part.tele ∈ ps) (h5 : Part.held ∈ ps) (h6 : Part.net ∈ ps) (h7 : Part.draws ∈ ps) (d : Dev) (l :
    Nat) (f : Frame) (fcs : Fcs) (t : FabricTime) :
    (Dev.stepArrives d l f fcs t).without ps = d.without ps := by
  unfold Dev.stepArrives
  repeat' first
    | with_reducible rfl
    | simp only [Dev.modLaneTime_without, Dev.controlFrameArrives_without, Dev.measure_without, h0, h1, h2, h3, h4, h5, h6,
        h7]
    | split
    | rw [Dev.controlFrameArrives_without_of h0 h1 h3 h4 h5 h6 h7 (by assumption)]
    | (rename_i k9; rw [Dev.controlFrameArrives_without_of h0 h1 h3 h4 h5 h6 h7 k9])
    | (rename_i k9 _; rw [Dev.controlFrameArrives_without_of h0 h1 h3 h4 h5 h6 h7 k9])
    | (rename_i k9 _ _; rw [Dev.controlFrameArrives_without_of h0 h1 h3 h4 h5 h6 h7 k9])
    | (rename_i k9 _ _ _; rw [Dev.controlFrameArrives_without_of h0 h1 h3 h4 h5 h6 h7 k9])

theorem Dev.ppsEdge_without {ps : List Part} (h0 : Part.time ∈ ps) (h1 : Part.log ∈ ps) (h2 : Part.tele ∈ ps) (h3 :
    Part.draws ∈ ps) (d : Dev) (t : FabricTime) :
    (Dev.ppsEdge d t).without ps = d.without ps := by
  unfold Dev.ppsEdge
  repeat' first
    | with_reducible rfl
    | simp only [Dev.modTime_without, Dev.measure_without, h0, h1, h2, h3]
    | split

theorem Dev.nextPps_without {ps : List Part} (h0 : Part.time ∈ ps) (d : Dev) (s : Nat) :
    (Dev.nextPps d s).without ps = d.without ps := by
  unfold Dev.nextPps
  repeat' first
    | with_reducible rfl
    | simp only [Dev.modTime_without, h0]
    | split

theorem Dev.atticFrequency_without {ps : List Part} (h0 : Part.time ∈ ps) (d : Dev) (v : Int) :
    (Dev.atticFrequency d v).without ps = d.without ps := by
  unfold Dev.atticFrequency
  repeat' first
    | with_reducible rfl
    | simp only [Dev.modTime_without, Dev.sourceAppears_without, h0]
    | split

theorem Dev.atticPhase_without {ps : List Part} (h0 : Part.time ∈ ps) (h1 : Part.log ∈ ps) (h2 : Part.tele ∈ ps) (h3 :
    Part.draws ∈ ps) (d : Dev) (v : Int) :
    (Dev.atticPhase d v).without ps = d.without ps := by
  unfold Dev.atticPhase
  repeat' first
    | with_reducible rfl
    | simp only [Dev.measure_without, h0, h1, h2, h3]
    | split

theorem Dev.timeSourceLost_without {ps : List Part} (h0 : Part.time ∈ ps) (h1 : Part.log ∈ ps) (h2 : Part.tele ∈ ps) (d :
    Dev) :
    (Dev.timeSourceLost d).without ps = d.without ps := by
  unfold Dev.timeSourceLost
  repeat' first
    | with_reducible rfl
    | simp only [Dev.sourceLost_without, h0, h1, h2]
    | split

theorem Dev.ppsOutPulse_without {ps : List Part} (h0 : Part.time ∈ ps) (d : Dev) :
    (Dev.ppsOutPulse d).without ps = d.without ps := by
  unfold Dev.ppsOutPulse
  repeat' first
    | with_reducible rfl
    | simp only [Dev.modTime_without, h0]
    | split

theorem Dev.stampRead_without {ps : List Part} (h0 : Part.crates ∈ ps) (h1 : Part.out ∈ ps) (d : Dev) (n : Nat) :
    (Dev.stampRead d n).without ps = d.without ps := by
  unfold Dev.stampRead
  repeat' first
    | with_reducible rfl
    | simp only [Dev.modCrate_without, Dev.emit_without, h0, h1]
    | split

end Sys2Proof.Machine
end

