-- ==== Sys2Proof/Laws/FrameAttic.lean ====
section
/-! SUPPORT. What each named operation leaves alone, one lemma for each: the Attic, the Cellar, power, sessions and
telemetry. Each names the parts that the operation may change, so a caller's frame follows by citing the lemmas of what it
calls. -/

set_option Elab.async false
set_option linter.unusedSimpArgs false
set_option linter.unusedVariables false

namespace Sys2Proof.Machine

theorem Dev.modInv_without {ps : List Part} (h0 : Part.inv ∈ ps) (d : Dev) (f : Inv → Inv) :
    (Dev.modInv d f).without ps = d.without ps := by
  unfold Dev.modInv
  repeat' first
    | with_reducible rfl
    | simp only [without_set_inv, h0]
    | split

theorem Dev.modTele_without {ps : List Part} (h0 : Part.tele ∈ ps) (d : Dev) (f : Telemetry → Telemetry) :
    (Dev.modTele d f).without ps = d.without ps := by
  unfold Dev.modTele
  repeat' first
    | with_reducible rfl
    | simp only [without_set_tele, h0]
    | split

theorem Dev.modAttic_without {ps : List Part} (h0 : Part.attic ∈ ps) (d : Dev) (f : Attic → Attic) :
    (Dev.modAttic d f).without ps = d.without ps := by
  unfold Dev.modAttic
  repeat' first
    | with_reducible rfl
    | simp only [without_set_attic, h0]
    | split

theorem Dev.queueEvent_without {ps : List Part} (h0 : Part.log ∈ ps) (d : Dev) (code : Nat) (src : Nat) (a : Nat) (b : Nat)
    :
    (Dev.queueEvent d code src a b).without ps = d.without ps := by
  unfold Dev.queueEvent
  repeat' first
    | with_reducible rfl
    | simp only [without_set_log, h0]
    | split

theorem powerUp_without {ps : List Part} (h0 : Part.board ∈ ps) (d : Dev) :
    (powerUp d).without ps = d.without ps := by
  unfold powerUp
  repeat' first
    | with_reducible rfl
    | simp only [without_set_board, h0]
    | split

theorem Dev.imageFailed_without {ps : List Part} (h0 : Part.log ∈ ps) (h1 : Part.attic ∈ ps) (d : Dev) (k : Nat) (code :
    Nat) :
    (Dev.imageFailed d k code).without ps = d.without ps := by
  unfold Dev.imageFailed
  repeat' first
    | with_reducible rfl
    | simp only [Dev.modAttic_without, Dev.queueEvent_without, h0, h1]
    | split

theorem Dev.bootFails_without {ps : List Part} (h0 : Part.lanes ∈ ps) (h1 : Part.ports ∈ ps) (h2 : Part.crates ∈ ps) (h3 :
    Part.hatches ∈ ps) (h4 : Part.modules ∈ ps) (h5 : Part.log ∈ ps) (h6 : Part.attic ∈ ps) (h7 : Part.tele ∈ ps) (h8 :
    Part.held ∈ ps) (h9 : Part.net ∈ ps) (d : Dev) :
    (Dev.bootFails d).without ps = d.without ps := by
  unfold Dev.bootFails
  repeat' first
    | with_reducible rfl
    | simp only [Dev.modulesOff_without, Dev.modAttic_without, h0, h1, h2, h3, h4, h5, h6, h7, h8, h9]
    | split

theorem Dev.takeImage_without {ps : List Part} (h0 : Part.attic ∈ ps) (d : Dev) (v : Nv) (k : Nat) :
    (Dev.takeImage d v k).without ps = d.without ps := by
  unfold Dev.takeImage
  repeat' first
    | with_reducible rfl
    | simp only [Dev.modAttic_without, h0]
    | split

theorem Dev.raiseQueued_without {ps : List Part} (h0 : Part.log ∈ ps) (h1 : Part.tele ∈ ps) (d : Dev) (v : Nv) :
    (Dev.raiseQueued d v).without ps = d.without ps := by
  unfold Dev.raiseQueued
  repeat' first
    | with_reducible rfl
    | simp only [Dev.raise_without, without_set_log, h0, h1]
    | split
    | with_reducible refine (foldl_without ps _ (fun e x => ?_) _ _).trans ?_
    | with_reducible refine (foldl_without_fst ps _ (fun e x => ?_) _ _).trans ?_
    | with_reducible refine (foldl_without_snd ps _ (fun e x => ?_) _ _).trans ?_

theorem Dev.fuseFailed_without {ps : List Part} (h0 : Part.log ∈ ps) (h1 : Part.attic ∈ ps) (h2 : Part.tele ∈ ps) (d : Dev)
    (causes : List Nat) :
    (Dev.fuseFailed d causes).without ps = d.without ps := by
  unfold Dev.fuseFailed
  repeat' first
    | with_reducible rfl
    | simp only [Dev.raise_without, Dev.modAttic_without, h0, h1, h2]
    | split
    | with_reducible refine (foldl_without ps _ (fun e x => ?_) _ _).trans ?_
    | with_reducible refine (foldl_without_fst ps _ (fun e x => ?_) _ _).trans ?_
    | with_reducible refine (foldl_without_snd ps _ (fun e x => ?_) _ _).trans ?_

theorem bootFrom_without {ps : List Part} (h0 : Part.crates ∈ ps) (h1 : Part.stackTab ∈ ps) (h2 : Part.time ∈ ps) (h3 :
    Part.log ∈ ps) (h4 : Part.attic ∈ ps) (h5 : Part.board ∈ ps) (v : Nv) (d : Dev) (missing : Option Nat) (failed : Nat)
    (bad : Nat) :
    (bootFrom v d missing failed bad).2.without ps = d.without ps := by
  unfold bootFrom
  repeat' first
    | with_reducible rfl
    | simp only [Dev.modTime_without, Dev.modAttic_without, Dev.queueEvent_without, without_set_crates_board,
        without_set_stackTab, h0, h1, h2, h3, h4, h5]
    | split
    | with_reducible refine (foldl_without ps _ (fun e x => ?_) _ _).trans ?_
    | with_reducible refine (foldl_without_fst ps _ (fun e x => ?_) _ _).trans ?_
    | with_reducible refine (foldl_without_snd ps _ (fun e x => ?_) _ _).trans ?_

theorem bootCmd_without {ps : List Part} (h0 : Part.crates ∈ ps) (h1 : Part.stackTab ∈ ps) (h2 : Part.time ∈ ps) (h3 :
    Part.log ∈ ps) (h4 : Part.attic ∈ ps) (h5 : Part.board ∈ ps) (v : Nv) (d : Dev) (missing : Option Nat) (failed : Nat)
    (bad : Nat) (wrote : FlashWrite) :
    (bootCmd v d missing failed bad wrote).2.without ps = d.without ps := by
  unfold bootCmd
  repeat' first
    | with_reducible rfl
    | simp only [bootFrom_without, h0, h1, h2, h3, h4, h5]
    | split

theorem railRecovery_without {ps : List Part} (h0 : Part.crates ∈ ps) (h1 : Part.stackTab ∈ ps) (h2 : Part.time ∈ ps) (h3 :
    Part.log ∈ ps) (h4 : Part.attic ∈ ps) (h5 : Part.board ∈ ps) (v : Nv) (d : Dev) (missing : Option Nat) (failed : Nat)
    (bad : Nat) :
    (railRecovery v d missing failed bad).2.without ps = d.without ps := by
  unfold railRecovery
  repeat' first
    | with_reducible rfl
    | simp only [bootFrom_without, without_set_board, h0, h1, h2, h3, h4, h5]
    | split

theorem refclkRestored_without {ps : List Part} (h0 : Part.crates ∈ ps) (h1 : Part.stackTab ∈ ps) (h2 : Part.time ∈ ps) (h3
    : Part.log ∈ ps) (h4 : Part.attic ∈ ps) (h5 : Part.board ∈ ps) (v : Nv) (d : Dev) (failed : Nat) (bad : Nat) :
    (refclkRestored v d failed bad).2.without ps = d.without ps := by
  unfold refclkRestored
  repeat' first
    | with_reducible rfl
    | simp only [bootFrom_without, without_set_time_board, h0, h1, h2, h3, h4, h5]
    | split

theorem Dev.takeConfig_without {ps : List Part} (h0 : Part.log ∈ ps) (h1 : Part.inv ∈ ps) (h2 : Part.attic ∈ ps) (d : Dev)
    (v : Nv) :
    (Dev.takeConfig d v).without ps = d.without ps := by
  unfold Dev.takeConfig
  repeat' first
    | with_reducible rfl
    | simp only [Dev.setBase_without, Dev.modAttic_without, Dev.queueEvent_without, h0, h1, h2]
    | split
    | with_reducible refine (foldl_without ps _ (fun e x => ?_) _ _).trans ?_
    | with_reducible refine (foldl_without_fst ps _ (fun e x => ?_) _ _).trans ?_
    | with_reducible refine (foldl_without_snd ps _ (fun e x => ?_) _ _).trans ?_

theorem Dev.tryHeaders_without {ps : List Part} (h0 : Part.lanes ∈ ps) (h1 : Part.ports ∈ ps) (h2 : Part.crates ∈ ps) (h3 :
    Part.hatches ∈ ps) (h4 : Part.modules ∈ ps) (h5 : Part.log ∈ ps) (h6 : Part.attic ∈ ps) (h7 : Part.tele ∈ ps) (h8 :
    Part.held ∈ ps) (h9 : Part.net ∈ ps) (d : Dev) (v : Nv) (l : List Nat) :
    (Dev.tryHeaders d v l).without ps = d.without ps := by
  induction l generalizing d with
  | nil => exact Dev.bootFails_without h0 h1 h2 h3 h4 h5 h6 h7 h8 h9 d
  | cons k t ih =>
    unfold Dev.tryHeaders
    dsimp only
    split
    · exact Dev.modAttic_without h6 d _
    · exact (ih _).trans (Dev.imageFailed_without h5 h6 d k _)

theorem wipeComplete_without {ps : List Part} (h0 : Part.lanes ∈ ps) (h1 : Part.ports ∈ ps) (h2 : Part.crates ∈ ps) (h3 :
    Part.hatches ∈ ps) (h4 : Part.modules ∈ ps) (h5 : Part.stackTab ∈ ps) (h6 : Part.log ∈ ps) (h7 : Part.inv ∈ ps) (h8 :
    Part.attic ∈ ps) (h9 : Part.tele ∈ ps) (h10 : Part.held ∈ ps) (h11 : Part.net ∈ ps) (v : Nv) (d : Dev) :
    (wipeComplete v d).without ps = d.without ps := by
  unfold wipeComplete
  repeat' first
    | with_reducible rfl
    | simp only [Dev.modAttic_without, Dev.takeConfig_without, Dev.tryHeaders_without, without_set_stackTab, h0, h1, h2,
        h3, h4, h5, h6, h7, h8, h9, h10, h11]
    | split
    | with_reducible refine (foldl_without ps _ (fun e x => ?_) _ _).trans ?_
    | with_reducible refine (foldl_without_fst ps _ (fun e x => ?_) _ _).trans ?_
    | with_reducible refine (foldl_without_snd ps _ (fun e x => ?_) _ _).trans ?_

theorem imageLoaded_without {ps : List Part} (h0 : Part.lanes ∈ ps) (h1 : Part.ports ∈ ps) (h2 : Part.crates ∈ ps) (h3 :
    Part.hatches ∈ ps) (h4 : Part.modules ∈ ps) (h5 : Part.log ∈ ps) (h6 : Part.attic ∈ ps) (h7 : Part.tele ∈ ps) (h8 :
    Part.held ∈ ps) (h9 : Part.net ∈ ps) (v : Nv) (d : Dev) (us : Nat) :
    (imageLoaded v d us).2.without ps = d.without ps := by
  unfold imageLoaded
  repeat' first
    | with_reducible rfl
    | simp only [Dev.startHatches_without, Dev.modAttic_without, Dev.queueEvent_without, Dev.imageFailed_without,
        Dev.takeImage_without, Dev.raiseQueued_without, Dev.tryHeaders_without, h0, h1, h2, h3, h4, h5, h6, h7, h8, h9]
    | split

theorem Dev.serviceReady_without {ps : List Part} (h0 : Part.lanes ∈ ps) (h1 : Part.ports ∈ ps) (h2 : Part.crates ∈ ps) (h3
    : Part.hatches ∈ ps) (h4 : Part.modules ∈ ps) (h5 : Part.log ∈ ps) (h6 : Part.attic ∈ ps) (h7 : Part.tele ∈ ps) (h8 :
    Part.held ∈ ps) (h9 : Part.net ∈ ps) (d : Dev) :
    (Dev.serviceReady d).without ps = d.without ps := by
  unfold Dev.serviceReady
  repeat' first
    | with_reducible rfl
    | simp only [Dev.modulesReviewed_without, Dev.modAttic_without, h0, h1, h2, h3, h4, h5, h6, h7, h8, h9]
    | split

theorem Dev.atticRestart_without {ps : List Part} (h0 : Part.modules ∈ ps) (h1 : Part.time ∈ ps) (h2 : Part.log ∈ ps) (h3 :
    Part.inv ∈ ps) (h4 : Part.attic ∈ ps) (h5 : Part.tele ∈ ps) (h6 : Part.atticWaits ∈ ps) (d : Dev) (cause : Nat) :
    (Dev.atticRestart d cause).without ps = d.without ps := by
  have k : ∀ e : Dev, (if e.timeRole = 3 then e.sourceLost else e).without ps = e.without ps := by
    intro e
    split
    · exact Dev.sourceLost_without h1 h2 h5 e
    · rfl
  unfold Dev.atticRestart
  split
  · rfl
  · dsimp only
    rw [k]
    simp only [Dev.interruptSparing_without, without_set_atticWaits, Dev.modTele_without, Dev.modInv_without,
        Dev.modAttic_without, h0, h1, h2, h3, h4, h5, h6]

theorem Dev.setCold_without {ps : List Part} (h0 : Part.inv ∈ ps) (h1 : Part.held ∈ ps) (d : Dev) (a : Nat) (x : Nat) :
    (Dev.setCold d a x).without ps = d.without ps := by
  unfold Dev.setCold
  repeat' first
    | with_reducible rfl
    | simp only [Dev.setBase_without, without_set_held, without_set_inv, h0, h1]
    | split

theorem Dev.reload_without {ps : List Part} (h0 : Part.lanes ∈ ps) (h1 : Part.ports ∈ ps) (h2 : Part.crates ∈ ps) (h3 :
    Part.hatches ∈ ps) (h4 : Part.modules ∈ ps) (h5 : Part.log ∈ ps) (h6 : Part.inv ∈ ps) (h7 : Part.attic ∈ ps) (h8 :
    Part.tele ∈ ps) (h9 : Part.held ∈ ps) (h10 : Part.net ∈ ps) (d : Dev) (v : Nv) :
    (Dev.reload d v).2.without ps = d.without ps := by
  unfold Dev.reload
  repeat' first
    | with_reducible rfl
    | simp only [Dev.raise_without, Dev.modAttic_without, Dev.queueEvent_without, Dev.imageFailed_without,
        Dev.bootFails_without, Dev.takeImage_without, Dev.raiseQueued_without, Dev.setCold_without, h0, h1, h2, h3, h4, h5,
        h6, h7, h8, h9, h10]
    | split
    | with_reducible refine (foldl_without ps _ (fun e x => ?_) _ _).trans ?_
    | with_reducible refine (foldl_without_fst ps _ (fun e x => ?_) _ _).trans ?_
    | with_reducible refine (foldl_without_snd ps _ (fun e x => ?_) _ _).trans ?_

theorem atticWiped_without {ps : List Part} (h0 : Part.lanes ∈ ps) (h1 : Part.ports ∈ ps) (h2 : Part.crates ∈ ps) (h3 :
    Part.hatches ∈ ps) (h4 : Part.modules ∈ ps) (h5 : Part.log ∈ ps) (h6 : Part.inv ∈ ps) (h7 : Part.attic ∈ ps) (h8 :
    Part.tele ∈ ps) (h9 : Part.held ∈ ps) (h10 : Part.net ∈ ps) (v : Nv) (d : Dev) :
    (atticWiped v d).2.without ps = d.without ps := by
  unfold atticWiped
  repeat' first
    | with_reducible rfl
    | simp only [Dev.reload_without, h0, h1, h2, h3, h4, h5, h6, h7, h8, h9, h10]
    | split

theorem Dev.dogService_without {ps : List Part} (h0 : Part.attic ∈ ps) (d : Dev) :
    (Dev.dogService d).without ps = d.without ps := by
  unfold Dev.dogService
  repeat' first
    | with_reducible rfl
    | simp only [Dev.modAttic_without, h0]
    | split

theorem Dev.dogFirst_without {ps : List Part} (h0 : Part.log ∈ ps) (h1 : Part.attic ∈ ps) (h2 : Part.tele ∈ ps) (d : Dev) :
    (Dev.dogFirst d).without ps = d.without ps := by
  unfold Dev.dogFirst
  repeat' first
    | with_reducible rfl
    | simp only [Dev.raise_without, Dev.modAttic_without, h0, h1, h2]
    | split

theorem Dev.dogSecond_without {ps : List Part} (h0 : Part.modules ∈ ps) (h1 : Part.time ∈ ps) (h2 : Part.log ∈ ps) (h3 :
    Part.inv ∈ ps) (h4 : Part.attic ∈ ps) (h5 : Part.tele ∈ ps) (h6 : Part.atticWaits ∈ ps) (d : Dev) :
    (Dev.dogSecond d).without ps = d.without ps := by
  unfold Dev.dogSecond
  repeat' first
    | with_reducible rfl
    | simp only [Dev.atticRestart_without, h0, h1, h2, h3, h4, h5, h6]
    | split

theorem Dev.restartRequest_without {ps : List Part} (h0 : Part.modules ∈ ps) (h1 : Part.time ∈ ps) (h2 : Part.log ∈ ps) (h3
    : Part.inv ∈ ps) (h4 : Part.attic ∈ ps) (h5 : Part.tele ∈ ps) (h6 : Part.atticWaits ∈ ps) (d : Dev) (x : Nat) :
    (Dev.restartRequest d x).without ps = d.without ps := by
  unfold Dev.restartRequest
  repeat' first
    | with_reducible rfl
    | simp only [Dev.atticRestart_without, h0, h1, h2, h3, h4, h5, h6]
    | split

theorem Dev.firmwareHalt_without {ps : List Part} (h0 : Part.modules ∈ ps) (h1 : Part.time ∈ ps) (h2 : Part.log ∈ ps) (h3 :
    Part.inv ∈ ps) (h4 : Part.attic ∈ ps) (h5 : Part.tele ∈ ps) (h6 : Part.atticWaits ∈ ps) (d : Dev) :
    (Dev.firmwareHalt d).without ps = d.without ps := by
  unfold Dev.firmwareHalt
  repeat' first
    | with_reducible rfl
    | simp only [Dev.atticRestart_without, h0, h1, h2, h3, h4, h5, h6]
    | split

theorem Dev.machineCheck_without {ps : List Part} (h0 : Part.modules ∈ ps) (h1 : Part.time ∈ ps) (h2 : Part.log ∈ ps) (h3 :
    Part.inv ∈ ps) (h4 : Part.attic ∈ ps) (h5 : Part.tele ∈ ps) (h6 : Part.atticWaits ∈ ps) (d : Dev) :
    (Dev.machineCheck d).without ps = d.without ps := by
  unfold Dev.machineCheck
  repeat' first
    | with_reducible rfl
    | simp only [Dev.raise_without, Dev.modAttic_without, Dev.atticRestart_without, h0, h1, h2, h3, h4, h5, h6]
    | split

theorem Dev.trialConfirm_without {ps : List Part} (h0 : Part.inv ∈ ps) (h1 : Part.attic ∈ ps) (h2 : Part.held ∈ ps) (d :
    Dev) :
    (Dev.trialConfirm d).without ps = d.without ps := by
  unfold Dev.trialConfirm
  repeat' first
    | with_reducible rfl
    | simp only [Dev.modAttic_without, Dev.setCold_without, h0, h1, h2]
    | split

theorem Dev.trialExpired_without {ps : List Part} (h0 : Part.modules ∈ ps) (h1 : Part.time ∈ ps) (h2 : Part.log ∈ ps) (h3 :
    Part.inv ∈ ps) (h4 : Part.attic ∈ ps) (h5 : Part.tele ∈ ps) (h6 : Part.atticWaits ∈ ps) (d : Dev) :
    (Dev.trialExpired d).without ps = d.without ps := by
  unfold Dev.trialExpired
  repeat' first
    | with_reducible rfl
    | simp only [Dev.atticRestart_without, h0, h1, h2, h3, h4, h5, h6]
    | split

theorem coldStore_without {ps : List Part} (h0 : Part.inv ∈ ps) (v : Nv) (d : Dev) :
    (coldStore v d).2.without ps = d.without ps := by
  unfold coldStore
  repeat' first
    | with_reducible rfl
    | simp only [without_set_inv, h0]
    | split

theorem advanceSecurity_without {ps : List Part} (h0 : Part.log ∈ ps) (h1 : Part.attic ∈ ps) (h2 : Part.tele ∈ ps) (v : Nv)
    (d : Dev) (x : Nat) (fails : Bool) :
    (advanceSecurity v d x fails).2.without ps = d.without ps := by
  unfold advanceSecurity
  repeat' first
    | with_reducible rfl
    | simp only [Dev.fuseFailed_without, h0, h1, h2]
    | split

theorem revokeSlot_without {ps : List Part} (h0 : Part.log ∈ ps) (h1 : Part.attic ∈ ps) (h2 : Part.tele ∈ ps) (v : Nv) (d :
    Dev) (k : Nat) (fails : Bool) :
    (revokeSlot v d k fails).2.without ps = d.without ps := by
  unfold revokeSlot
  repeat' first
    | with_reducible rfl
    | simp only [Dev.fuseFailed_without, h0, h1, h2]
    | split

theorem Dev.sessionEvent_without {ps : List Part} (h0 : Part.log ∈ ps) (h1 : Part.tele ∈ ps) (d : Dev) (code : Nat)
    (session : Nat) (lane : Option Nat) :
    (Dev.sessionEvent d code session lane).without ps = d.without ps := by
  unfold Dev.sessionEvent
  repeat' first
    | with_reducible rfl
    | simp only [Dev.raiseBy_without, h0, h1]
    | split

theorem Dev.modSession_without {ps : List Part} (h0 : Part.attic ∈ ps) (d : Dev) (id : Nat) (f : Session → Session) :
    (Dev.modSession d id f).without ps = d.without ps := by
  unfold Dev.modSession
  repeat' first
    | with_reducible rfl
    | simp only [Dev.modAttic_without, h0]
    | split

theorem Dev.dropSession_without {ps : List Part} (h0 : Part.attic ∈ ps) (d : Dev) (id : Nat) :
    (Dev.dropSession d id).without ps = d.without ps := by
  unfold Dev.dropSession
  repeat' first
    | with_reducible rfl
    | simp only [Dev.modAttic_without, h0]
    | split

theorem Dev.recordLost_without {ps : List Part} (h0 : Part.log ∈ ps) (h1 : Part.attic ∈ ps) (h2 : Part.tele ∈ ps) (d : Dev)
    (id : Nat) (lane : Option Nat) :
    (Dev.recordLost d id lane).without ps = d.without ps := by
  unfold Dev.recordLost
  repeat' first
    | with_reducible rfl
    | simp only [Dev.sessionEvent_without, Dev.modSession_without, h0, h1, h2]
    | split

theorem Dev.sessionConfirm_without {ps : List Part} (h0 : Part.log ∈ ps) (h1 : Part.attic ∈ ps) (h2 : Part.tele ∈ ps) (d :
    Dev) (id : Nat) (sa : Nat) :
    (Dev.sessionConfirm d id sa).without ps = d.without ps := by
  unfold Dev.sessionConfirm
  repeat' first
    | with_reducible rfl
    | simp only [Dev.sessionEvent_without, Dev.modSession_without, Dev.dropSession_without, h0, h1, h2]
    | split

theorem Dev.spentSession_without {ps : List Part} (h0 : Part.attic ∈ ps) (d : Dev) (id : Nat) :
    (Dev.spentSession d id).without ps = d.without ps := by
  unfold Dev.spentSession
  repeat' first
    | with_reducible rfl
    | simp only [Dev.dropSession_without, h0]
    | split

theorem Dev.takeRecord_without {ps : List Part} (h0 : Part.log ∈ ps) (h1 : Part.attic ∈ ps) (h2 : Part.tele ∈ ps) (d : Dev)
    (lane : Option Nat) (p : List Byte) :
    (Dev.takeRecord d lane p).2.without ps = d.without ps := by
  unfold Dev.takeRecord
  repeat' first
    | with_reducible rfl
    | simp only [Dev.modSession_without, Dev.recordLost_without, h0, h1, h2]
    | split

theorem Dev.takeRecord_without_of {ps : List Part} (h0 : Part.log ∈ ps) (h1 : Part.attic ∈ ps) (h2 : Part.tele ∈ ps) {d :
    Dev} {lane : Option Nat} {p : List Byte} {a9 : Option (List Byte)} {e9 : Dev} (h : Dev.takeRecord d lane p = (a9, e9)) :
    e9.without ps = d.without ps := by
  have k := Dev.takeRecord_without h0 h1 h2 d lane p
  rw [h] at k
  exact k

theorem Dev.sessionClose_without {ps : List Part} (h0 : Part.log ∈ ps) (h1 : Part.attic ∈ ps) (h2 : Part.tele ∈ ps) (d :
    Dev) (lane : Option Nat) (p : List Byte) :
    (Dev.sessionClose d lane p).without ps = d.without ps := by
  unfold Dev.sessionClose
  repeat' first
    | with_reducible rfl
    | simp only [Dev.count_without, Dev.dropSession_without, Dev.takeRecord_without, h0, h1, h2]
    | split
    | rw [Dev.takeRecord_without_of h0 h1 h2 (by assumption)]
    | (rename_i k9; rw [Dev.takeRecord_without_of h0 h1 h2 k9])
    | (rename_i k9 _; rw [Dev.takeRecord_without_of h0 h1 h2 k9])
    | (rename_i k9 _ _; rw [Dev.takeRecord_without_of h0 h1 h2 k9])
    | (rename_i k9 _ _ _; rw [Dev.takeRecord_without_of h0 h1 h2 k9])

theorem Dev.sessionIdle_without {ps : List Part} (h0 : Part.attic ∈ ps) (d : Dev) (id : Nat) :
    (Dev.sessionIdle d id).without ps = d.without ps := by
  unfold Dev.sessionIdle
  repeat' first
    | with_reducible rfl
    | simp only [Dev.dropSession_without, h0]
    | split

theorem Dev.attest_without {ps : List Part} (h0 : Part.attic ∈ ps) (d : Dev) (nonce : Nat) :
    (Dev.attest d nonce).without ps = d.without ps := by
  unfold Dev.attest
  repeat' first
    | with_reducible rfl
    | simp only [Dev.modAttic_without, h0]
    | split

theorem attestReady_without {ps : List Part} (h0 : Part.attic ∈ ps) (v : Nv) (d : Dev) :
    (attestReady v d).without ps = d.without ps := by
  unfold attestReady
  repeat' first
    | with_reducible rfl
    | simp only [Dev.modAttic_without, h0]
    | split

theorem Dev.recordStruck_without {ps : List Part} (h0 : Part.log ∈ ps) (h1 : Part.tele ∈ ps) (d : Dev) (step : Nat) :
    (Dev.recordStruck d step).without ps = d.without ps := by
  unfold Dev.recordStruck
  repeat' first
    | with_reducible rfl
    | simp only [Dev.raise_without, h0, h1]
    | split

theorem Dev.strikeSnap_without {ps : List Part} (h0 : Part.log ∈ ps) (h1 : Part.tele ∈ ps) (d : Dev) (j : Nat) :
    (Dev.strikeSnap d j).without ps = d.without ps := by
  unfold Dev.strikeSnap
  repeat' first
    | with_reducible rfl
    | simp only [Dev.recordStruck_without, without_set_tele, h0, h1]
    | split

theorem Dev.strikeMap_without {ps : List Part} (h0 : Part.log ∈ ps) (h1 : Part.tele ∈ ps) (d : Dev) (j : Nat) :
    (Dev.strikeMap d j).without ps = d.without ps := by
  unfold Dev.strikeMap
  repeat' first
    | with_reducible rfl
    | simp only [Dev.recordStruck_without, without_set_tele, h0, h1]
    | split

theorem Dev.strikeSamples_without {ps : List Part} (h0 : Part.log ∈ ps) (h1 : Part.tele ∈ ps) (d : Dev) (test : Nat → Bool)
    :
    (Dev.strikeSamples d test).without ps = d.without ps := by
  unfold Dev.strikeSamples
  repeat' first
    | with_reducible rfl
    | simp only [Dev.recordStruck_without, without_set_tele, h0, h1]
    | split
    | with_reducible refine (foldl_without ps _ (fun e x => ?_) _ _).trans ?_
    | with_reducible refine (foldl_without_fst ps _ (fun e x => ?_) _ _).trans ?_
    | with_reducible refine (foldl_without_snd ps _ (fun e x => ?_) _ _).trans ?_

theorem Dev.strikeArchive_without {ps : List Part} (h0 : Part.log ∈ ps) (h1 : Part.tele ∈ ps) (d : Dev) (b : Nat) :
    (Dev.strikeArchive d b).without ps = d.without ps := by
  unfold Dev.strikeArchive
  repeat' first
    | with_reducible rfl
    | simp only [Dev.strikeSnap_without, Dev.strikeMap_without, Dev.strikeSamples_without, h0, h1]
    | split

theorem Dev.templateStruck_without {ps : List Part} (h0 : Part.lanes ∈ ps) (h1 : Part.crates ∈ ps) (h2 : Part.log ∈ ps) (h3
    : Part.tele ∈ ps) (h4 : Part.held ∈ ps) (h5 : Part.nextHeld ∈ ps) (h6 : Part.net ∈ ps) (h7 : Part.waits ∈ ps) (h8 :
    Part.contexts ∈ ps) (h9 : Part.holding ∈ ps) (h10 : Part.nacks ∈ ps) (d : Dev) (t : Nat) :
    (Dev.templateStruck d t).without ps = d.without ps := by
  unfold Dev.templateStruck
  repeat' first
    | with_reducible rfl
    | simp only [Dev.templateLost_without, h0, h1, h2, h3, h4, h5, h6, h7, h8, h9, h10]
    | split

theorem Dev.poisonFlow_without {ps : List Part} (h0 : Part.crates ∈ ps) (h1 : Part.log ∈ ps) (h2 : Part.tele ∈ ps) (h3 :
    Part.flows ∈ ps) (d : Dev) (i : Nat) :
    (Dev.poisonFlow d i).without ps = d.without ps := by
  unfold Dev.poisonFlow
  repeat' first
    | with_reducible rfl
    | simp only [Dev.raisePoison_without, without_set_crates_flows, h0, h1, h2, h3]
    | split

theorem Dev.strikeSpill_without {ps : List Part} (h0 : Part.lanes ∈ ps) (h1 : Part.crates ∈ ps) (h2 : Part.log ∈ ps) (h3 :
    Part.tele ∈ ps) (h4 : Part.held ∈ ps) (h5 : Part.consumed ∈ ps) (h6 : Part.contexts ∈ ps) (h7 : Part.shadows ∈ ps) (d :
    Dev) (k : Nat) (off : Nat) :
    (Dev.strikeSpill d k off).without ps = d.without ps := by
  unfold Dev.strikeSpill
  repeat' first
    | with_reducible rfl
    | simp only [Dev.faultGroup_without, h0, h1, h2, h3, h4, h5, h6, h7]
    | split

theorem Dev.strikeHit_without {ps : List Part} (h0 : Part.lanes ∈ ps) (h1 : Part.ports ∈ ps) (h2 : Part.crates ∈ ps) (h3 :
    Part.log ∈ ps) (h4 : Part.tele ∈ ps) (h5 : Part.held ∈ ps) (h6 : Part.net ∈ ps) (h7 : Part.out ∈ ps) (d : Dev) (k :
    Nat) (hit : CellarHit) :
    (Dev.strikeHit d k hit).without ps = d.without ps := by
  unfold Dev.strikeHit
  repeat' first
    | with_reducible rfl
    | simp only [Dev.makeBad_without, Dev.replay_without, Dev.laneReset_without, h0, h1, h2, h3, h4, h5, h6, h7]
    | split

theorem Dev.cellarError_without {ps : List Part} (h0 : Part.lanes ∈ ps) (h1 : Part.ports ∈ ps) (h2 : Part.crates ∈ ps) (h3
    : Part.modules ∈ ps) (h4 : Part.stackTab ∈ ps) (h5 : Part.time ∈ ps) (h6 : Part.log ∈ ps) (h7 : Part.inv ∈ ps) (h8 :
    Part.attic ∈ ps) (h9 : Part.tele ∈ ps) (h10 : Part.held ∈ ps) (h11 : Part.nextHeld ∈ ps) (h12 : Part.net ∈ ps) (h13 :
    Part.waits ∈ ps) (h14 : Part.consumed ∈ ps) (h15 : Part.contexts ∈ ps) (h16 : Part.holding ∈ ps) (h17 : Part.nacks ∈
    ps) (h18 : Part.flows ∈ ps) (h19 : Part.out ∈ ps) (h20 : Part.shadows ∈ ps) (h21 : Part.atticWaits ∈ ps) (d : Dev) (k :
    Nat) (addr : Nat) (hit : CellarHit) :
    (Dev.cellarError d k addr hit).without ps = d.without ps := by
  unfold Dev.cellarError
  repeat' first
    | with_reducible rfl
    | simp only [Dev.modStack_without, Dev.raise_without, Dev.machineCheck_without, Dev.strikeArchive_without,
        Dev.templateStruck_without, Dev.poisonFlow_without, Dev.strikeSpill_without, Dev.strikeHit_without, h0, h1, h2, h3,
        h4, h5, h6, h7, h8, h9, h10, h11, h12, h13, h14, h15, h16, h17, h18, h19, h20, h21]
    | split

theorem Dev.cellarUncorrectable_without {ps : List Part} (h0 : Part.lanes ∈ ps) (h1 : Part.ports ∈ ps) (h2 : Part.crates ∈
    ps) (h3 : Part.modules ∈ ps) (h4 : Part.stackTab ∈ ps) (h5 : Part.time ∈ ps) (h6 : Part.log ∈ ps) (h7 : Part.inv ∈ ps)
    (h8 : Part.attic ∈ ps) (h9 : Part.tele ∈ ps) (h10 : Part.held ∈ ps) (h11 : Part.nextHeld ∈ ps) (h12 : Part.net ∈ ps)
    (h13 : Part.waits ∈ ps) (h14 : Part.consumed ∈ ps) (h15 : Part.contexts ∈ ps) (h16 : Part.holding ∈ ps) (h17 :
    Part.nacks ∈ ps) (h18 : Part.flows ∈ ps) (h19 : Part.out ∈ ps) (h20 : Part.shadows ∈ ps) (h21 : Part.atticWaits ∈ ps)
    (d : Dev) (k : Nat) (addr : Nat) (hit : CellarHit) :
    (Dev.cellarUncorrectable d k addr hit).without ps = d.without ps := by
  unfold Dev.cellarUncorrectable
  repeat' first
    | with_reducible rfl
    | simp only [Dev.cellarError_without, h0, h1, h2, h3, h4, h5, h6, h7, h8, h9, h10, h11, h12, h13, h14, h15, h16, h17,
        h18, h19, h20, h21]
    | split

theorem Dev.scrub_without {ps : List Part} (h0 : Part.lanes ∈ ps) (h1 : Part.ports ∈ ps) (h2 : Part.crates ∈ ps) (h3 :
    Part.modules ∈ ps) (h4 : Part.stackTab ∈ ps) (h5 : Part.time ∈ ps) (h6 : Part.log ∈ ps) (h7 : Part.inv ∈ ps) (h8 :
    Part.attic ∈ ps) (h9 : Part.tele ∈ ps) (h10 : Part.held ∈ ps) (h11 : Part.nextHeld ∈ ps) (h12 : Part.net ∈ ps) (h13 :
    Part.waits ∈ ps) (h14 : Part.consumed ∈ ps) (h15 : Part.contexts ∈ ps) (h16 : Part.holding ∈ ps) (h17 : Part.nacks ∈
    ps) (h18 : Part.flows ∈ ps) (h19 : Part.out ∈ ps) (h20 : Part.shadows ∈ ps) (h21 : Part.atticWaits ∈ ps) (d : Dev) (k :
    Nat) (ecc : Nat) (hit : CellarHit) :
    (Dev.scrub d k ecc hit).without ps = d.without ps := by
  unfold Dev.scrub
  repeat' first
    | with_reducible rfl
    | simp only [Dev.modStack_without, Dev.raise_without, Dev.modAttic_without, Dev.cellarError_without, h0, h1, h2, h3,
        h4, h5, h6, h7, h8, h9, h10, h11, h12, h13, h14, h15, h16, h17, h18, h19, h20, h21]
    | split

theorem Dev.stackFailed_without {ps : List Part} (h0 : Part.lanes ∈ ps) (h1 : Part.ports ∈ ps) (h2 : Part.crates ∈ ps) (h3
    : Part.modules ∈ ps) (h4 : Part.stackTab ∈ ps) (h5 : Part.time ∈ ps) (h6 : Part.log ∈ ps) (h7 : Part.inv ∈ ps) (h8 :
    Part.attic ∈ ps) (h9 : Part.tele ∈ ps) (h10 : Part.held ∈ ps) (h11 : Part.nextHeld ∈ ps) (h12 : Part.net ∈ ps) (h13 :
    Part.waits ∈ ps) (h14 : Part.consumed ∈ ps) (h15 : Part.contexts ∈ ps) (h16 : Part.holding ∈ ps) (h17 : Part.nacks ∈
    ps) (h18 : Part.flows ∈ ps) (h19 : Part.shadows ∈ ps) (h20 : Part.atticWaits ∈ ps) (d : Dev) (k : Nat) :
    (Dev.stackFailed d k).without ps = d.without ps := by
  unfold Dev.stackFailed
  repeat' first
    | with_reducible rfl
    | simp only [Dev.modStack_without, Dev.raise_without, Dev.makeBad_without, Dev.dropLock_without, Dev.evalLane_without,
        Dev.faultGroup_without, Dev.machineCheck_without, Dev.strikeSnap_without, Dev.strikeMap_without,
        Dev.strikeSamples_without, Dev.templateStruck_without, Dev.poisonFlow_without, h0, h1, h2, h3, h4, h5, h6, h7, h8,
        h9, h10, h11, h12, h13, h14, h15, h16, h17, h18, h19, h20]
    | split
    | with_reducible refine (foldl_without ps _ (fun e x => ?_) _ _).trans ?_
    | with_reducible refine (foldl_without_fst ps _ (fun e x => ?_) _ _).trans ?_
    | with_reducible refine (foldl_without_snd ps _ (fun e x => ?_) _ _).trans ?_

theorem Dev.takeCycles_without {ps : List Part} (h0 : Part.crates ∈ ps) (d : Dev) (n : Nat) (slots : Nat) :
    (Dev.takeCycles d n slots).without ps = d.without ps := by
  unfold Dev.takeCycles
  repeat' first
    | with_reducible rfl
    | simp only [Dev.modCrate_without, h0]
    | split

theorem Dev.derated_without {ps : List Part} (h0 : Part.crates ∈ ps) (d : Dev) (old : Dev) :
    (Dev.derated d old).without ps = d.without ps := by
  unfold Dev.derated
  repeat' first
    | with_reducible rfl
    | simp only [Dev.takeCycles_without, h0]
    | split
    | with_reducible refine (foldl_without ps _ (fun e x => ?_) _ _).trans ?_
    | with_reducible refine (foldl_without_fst ps _ (fun e x => ?_) _ _).trans ?_
    | with_reducible refine (foldl_without_snd ps _ (fun e x => ?_) _ _).trans ?_

theorem Dev.stepFreq_without {ps : List Part} (h0 : Part.crates ∈ ps) (h1 : Part.tele ∈ ps) (d : Dev) (n : Nat) :
    (Dev.stepFreq d n).without ps = d.without ps := by
  unfold Dev.stepFreq
  repeat' first
    | with_reducible rfl
    | simp only [Dev.modCrate_without, Dev.count_without, Dev.takeCycles_without, h0, h1]
    | split

theorem Dev.stepFreqs_without {ps : List Part} (h0 : Part.crates ∈ ps) (h1 : Part.tele ∈ ps) (d : Dev) :
    (Dev.stepFreqs d).without ps = d.without ps := by
  unfold Dev.stepFreqs
  repeat' first
    | with_reducible rfl
    | simp only [Dev.stepFreq_without, h0, h1]
    | split
    | with_reducible refine (foldl_without ps _ (fun e x => ?_) _ _).trans ?_
    | with_reducible refine (foldl_without_fst ps _ (fun e x => ?_) _ _).trans ?_
    | with_reducible refine (foldl_without_snd ps _ (fun e x => ?_) _ _).trans ?_

theorem Dev.powerMeasured_without {ps : List Part} (h0 : Part.crates ∈ ps) (h1 : Part.log ∈ ps) (h2 : Part.tele ∈ ps) (h3 :
    Part.power ∈ ps) (d : Dev) (watts : Nat) (rails : List Nat) :
    (Dev.powerMeasured d watts rails).without ps = d.without ps := by
  unfold Dev.powerMeasured
  repeat' first
    | with_reducible rfl
    | simp only [Dev.raise_without, Dev.stepFreqs_without, without_set_power, h0, h1, h2, h3]
    | split

theorem Dev.capRaise_without {ps : List Part} (h0 : Part.crates ∈ ps) (h1 : Part.tele ∈ ps) (h2 : Part.power ∈ ps) (d :
    Dev) :
    (Dev.capRaise d).without ps = d.without ps := by
  unfold Dev.capRaise
  repeat' first
    | with_reducible rfl
    | simp only [Dev.stepFreqs_without, without_set_power, h0, h1, h2]
    | split

theorem Dev.hotSpot_without {ps : List Part} (h0 : Part.crates ∈ ps) (h1 : Part.log ∈ ps) (h2 : Part.tele ∈ ps) (d : Dev)
    (n : Nat) (temp : Nat) :
    (Dev.hotSpot d n temp).without ps = d.without ps := by
  unfold Dev.hotSpot
  repeat' first
    | with_reducible rfl
    | simp only [Dev.modCrate_without, Dev.raise_without, Dev.stepFreq_without, h0, h1, h2]
    | split

theorem Dev.thermalRaise_without {ps : List Part} (h0 : Part.crates ∈ ps) (h1 : Part.tele ∈ ps) (d : Dev) (n : Nat) :
    (Dev.thermalRaise d n).without ps = d.without ps := by
  unfold Dev.thermalRaise
  repeat' first
    | with_reducible rfl
    | simp only [Dev.modCrate_without, Dev.stepFreq_without, h0, h1]
    | split

theorem Dev.storeAttic_without {ps : List Part} (h0 : Part.crates ∈ ps) (h1 : Part.held ∈ ps) (h2 : Part.nextHeld ∈ ps) (d
    : Dev) (x : AtticFrame) (m : Option MRecord) :
    (Dev.storeAttic d x m).2.without ps = d.without ps := by
  unfold Dev.storeAttic
  repeat' first
    | with_reducible rfl
    | simp only [Dev.modPath_without, Dev.noteLeast_without, Dev.store_without, h0, h1, h2]
    | split
    | rw [Dev.store_without_of h1 h2 (by assumption)]
    | (rename_i k9; rw [Dev.store_without_of h1 h2 k9])
    | (rename_i k9 _; rw [Dev.store_without_of h1 h2 k9])
    | (rename_i k9 _ _; rw [Dev.store_without_of h1 h2 k9])
    | (rename_i k9 _ _ _; rw [Dev.store_without_of h1 h2 k9])

theorem Dev.storeAttic_without_of {ps : List Part} (h0 : Part.crates ∈ ps) (h1 : Part.held ∈ ps) (h2 : Part.nextHeld ∈ ps)
    {d : Dev} {x : AtticFrame} {m : Option MRecord} {a9 : Nat} {e9 : Dev} (h : Dev.storeAttic d x m = (a9, e9)) :
    e9.without ps = d.without ps := by
  have k := Dev.storeAttic_without h0 h1 h2 d x m
  rw [h] at k
  exact k

theorem Dev.atticTo_without {ps : List Part} (h0 : Part.crates ∈ ps) (h1 : Part.tele ∈ ps) (h2 : Part.held ∈ ps) (h3 :
    Part.nextHeld ∈ ps) (h4 : Part.net ∈ ps) (h5 : Part.waits ∈ ps) (d : Dev) (x : AtticFrame) (l : Nat) :
    (Dev.atticTo d x l).without ps = d.without ps := by
  unfold Dev.atticTo
  repeat' first
    | with_reducible rfl
    | simp only [Dev.stage_without, Dev.sendDescriptor_without, Dev.storeAttic_without, h0, h1, h2, h3, h4, h5]
    | split
    | rw [Dev.storeAttic_without_of h0 h2 h3 (by assumption)]
    | (rename_i k9; rw [Dev.storeAttic_without_of h0 h2 h3 k9])
    | (rename_i k9 _; rw [Dev.storeAttic_without_of h0 h2 h3 k9])
    | (rename_i k9 _ _; rw [Dev.storeAttic_without_of h0 h2 h3 k9])
    | (rename_i k9 _ _ _; rw [Dev.storeAttic_without_of h0 h2 h3 k9])

theorem Dev.atticGo_without {ps : List Part} (h0 : Part.crates ∈ ps) (h1 : Part.log ∈ ps) (h2 : Part.tele ∈ ps) (h3 :
    Part.held ∈ ps) (h4 : Part.nextHeld ∈ ps) (h5 : Part.net ∈ ps) (h6 : Part.waits ∈ ps) (d : Dev) (x : AtticFrame) :
    (Dev.atticGo d x).without ps = d.without ps := by
  unfold Dev.atticGo
  repeat' first
    | with_reducible rfl
    | simp only [Dev.count_without, Dev.raise_without, Dev.pickLane_without, Dev.pickRing_without, Dev.broadcast_without,
        Dev.storeAttic_without, Dev.atticTo_without, h0, h1, h2, h3, h4, h5, h6]
    | split
    | rw [Dev.pickLane_without_of h0 (by assumption)]
    | (rename_i k9; rw [Dev.pickLane_without_of h0 k9])
    | (rename_i k9 _; rw [Dev.pickLane_without_of h0 k9])
    | (rename_i k9 _ _; rw [Dev.pickLane_without_of h0 k9])
    | (rename_i k9 _ _ _; rw [Dev.pickLane_without_of h0 k9])
    | rw [Dev.pickRing_without_of h0 h1 h2 (by assumption)]
    | (rename_i k9; rw [Dev.pickRing_without_of h0 h1 h2 k9])
    | (rename_i k9 _; rw [Dev.pickRing_without_of h0 h1 h2 k9])
    | (rename_i k9 _ _; rw [Dev.pickRing_without_of h0 h1 h2 k9])
    | (rename_i k9 _ _ _; rw [Dev.pickRing_without_of h0 h1 h2 k9])
    | rw [Dev.storeAttic_without_of h0 h3 h4 (by assumption)]
    | (rename_i k9; rw [Dev.storeAttic_without_of h0 h3 h4 k9])
    | (rename_i k9 _; rw [Dev.storeAttic_without_of h0 h3 h4 k9])
    | (rename_i k9 _ _; rw [Dev.storeAttic_without_of h0 h3 h4 k9])
    | (rename_i k9 _ _ _; rw [Dev.storeAttic_without_of h0 h3 h4 k9])

theorem Dev.atticPut_without {ps : List Part} (h0 : Part.crates ∈ ps) (h1 : Part.log ∈ ps) (h2 : Part.tele ∈ ps) (h3 :
    Part.held ∈ ps) (h4 : Part.nextHeld ∈ ps) (h5 : Part.net ∈ ps) (h6 : Part.waits ∈ ps) (h7 : Part.atticWaits ∈ ps) (d :
    Dev) (x : AtticFrame) :
    (Dev.atticPut d x).without ps = d.without ps := by
  unfold Dev.atticPut
  repeat' first
    | with_reducible rfl
    | simp only [Dev.atticGo_without, without_set_atticWaits, h0, h1, h2, h3, h4, h5, h6, h7]
    | split

theorem Dev.atticDrain_without {ps : List Part} (h0 : Part.crates ∈ ps) (h1 : Part.log ∈ ps) (h2 : Part.tele ∈ ps) (h3 :
    Part.held ∈ ps) (h4 : Part.nextHeld ∈ ps) (h5 : Part.net ∈ ps) (h6 : Part.waits ∈ ps) (h7 : Part.atticWaits ∈ ps) (n :
    Nat) (d : Dev) : (Dev.atticDrain n d).without ps = d.without ps := by
  induction n generalizing d with
  | zero => rfl
  | succ n ih =>
    unfold Dev.atticDrain
    split
    · rfl
    · split
      · rw [ih, Dev.atticGo_without h0 h1 h2 h3 h4 h5 h6, without_set_atticWaits h7]
      · rfl

theorem Dev.atticRetry_without {ps : List Part} (h0 : Part.crates ∈ ps) (h1 : Part.log ∈ ps) (h2 : Part.tele ∈ ps) (h3 :
    Part.held ∈ ps) (h4 : Part.nextHeld ∈ ps) (h5 : Part.net ∈ ps) (h6 : Part.waits ∈ ps) (h7 : Part.atticWaits ∈ ps) (d :
    Dev) :
    (Dev.atticRetry d).without ps = d.without ps := by
  unfold Dev.atticRetry
  repeat' first
    | with_reducible rfl
    | simp only [Dev.atticDrain_without, h0, h1, h2, h3, h4, h5, h6, h7]
    | split

theorem Dev.atticSend_without {ps : List Part} (h0 : Part.crates ∈ ps) (h1 : Part.log ∈ ps) (h2 : Part.tele ∈ ps) (h3 :
    Part.held ∈ ps) (h4 : Part.nextHeld ∈ ps) (h5 : Part.net ∈ ps) (h6 : Part.waits ∈ ps) (h7 : Part.atticWaits ∈ ps) (d :
    Dev) (f : Frame) (lane : Option Nat) (stamp : Option Nat) (insert : Option Nat) :
    (Dev.atticSend d f lane stamp insert).without ps = d.without ps := by
  unfold Dev.atticSend
  repeat' first
    | with_reducible rfl
    | simp only [Dev.atticPut_without, h0, h1, h2, h3, h4, h5, h6, h7]
    | split

theorem Dev.carry_without {ps : List Part} (h0 : Part.crates ∈ ps) (h1 : Part.log ∈ ps) (h2 : Part.tele ∈ ps) (h3 :
    Part.held ∈ ps) (h4 : Part.nextHeld ∈ ps) (h5 : Part.net ∈ ps) (h6 : Part.waits ∈ ps) (h7 : Part.atticWaits ∈ ps) (d :
    Dev) (src : Nat) (lane : Option Nat) (f : Frame) :
    (Dev.carry d src lane f).without ps = d.without ps := by
  unfold Dev.carry
  repeat' first
    | with_reducible rfl
    | simp only [Dev.atticPut_without, h0, h1, h2, h3, h4, h5, h6, h7]
    | split

theorem Dev.sendMessage_without {ps : List Part} (h0 : Part.crates ∈ ps) (h1 : Part.log ∈ ps) (h2 : Part.attic ∈ ps) (h3 :
    Part.tele ∈ ps) (h4 : Part.held ∈ ps) (h5 : Part.nextHeld ∈ ps) (h6 : Part.net ∈ ps) (h7 : Part.waits ∈ ps) (h8 :
    Part.out ∈ ps) (h9 : Part.atticWaits ∈ ps) (d : Dev) (src : Nat) (lane : Option Nat) (session : Nat) (m : Message) :
    (Dev.sendMessage d src lane session m).without ps = d.without ps := by
  unfold Dev.sendMessage
  repeat' first
    | with_reducible rfl
    | simp only [Dev.emit_without, Dev.modSession_without, Dev.spentSession_without, Dev.carry_without, h0, h1, h2, h3, h4,
        h5, h6, h7, h8, h9]
    | split

theorem sessionInit_without {ps : List Part} (h0 : Part.crates ∈ ps) (h1 : Part.log ∈ ps) (h2 : Part.attic ∈ ps) (h3 :
    Part.tele ∈ ps) (h4 : Part.held ∈ ps) (h5 : Part.nextHeld ∈ ps) (h6 : Part.net ∈ ps) (h7 : Part.waits ∈ ps) (h8 :
    Part.out ∈ ps) (h9 : Part.atticWaits ∈ ps) (v : Nv) (d : Dev) (src : Nat) (lane : Option Nat) (key : Nat) (ra : Nat)
    (id : Nat) (target : Nat) :
    (sessionInit v d src lane key ra id target).without ps = d.without ps := by
  unfold sessionInit
  repeat' first
    | with_reducible rfl
    | simp only [Dev.emit_without, Dev.raiseBy_without, Dev.modAttic_without, Dev.sessionEvent_without, Dev.carry_without,
        h0, h1, h2, h3, h4, h5, h6, h7, h8, h9]
    | split

theorem Dev.takeSnapshot_without {ps : List Part} (h0 : Part.log ∈ ps) (h1 : Part.tele ∈ ps) (d : Dev) (k : Nat) (copy :
    Option Snap) :
    (Dev.takeSnapshot d k copy).without ps = d.without ps := by
  unfold Dev.takeSnapshot
  repeat' first
    | with_reducible rfl
    | simp only [Dev.raise_without, Dev.modTele_without, h0, h1]
    | split

theorem Dev.toExport_without {ps : List Part} (h0 : Part.tele ∈ ps) (d : Dev) (kind : Nat) (step : Nat) :
    (Dev.toExport d kind step).without ps = d.without ps := by
  unfold Dev.toExport
  repeat' first
    | with_reducible rfl
    | simp only [Dev.modTele_without, h0]
    | split

theorem Dev.snapshotComplete_without {ps : List Part} (h0 : Part.log ∈ ps) (h1 : Part.tele ∈ ps) (d : Dev) :
    (Dev.snapshotComplete d).without ps = d.without ps := by
  unfold Dev.snapshotComplete
  repeat' first
    | with_reducible rfl
    | simp only [Dev.modTele_without, Dev.strikeSnap_without, Dev.toExport_without, h0, h1]
    | split

theorem Dev.takeMap_without {ps : List Part} (h0 : Part.log ∈ ps) (h1 : Part.tele ∈ ps) (d : Dev) (m : CMap) :
    (Dev.takeMap d m).without ps = d.without ps := by
  unfold Dev.takeMap
  repeat' first
    | with_reducible rfl
    | simp only [Dev.modTele_without, Dev.strikeMap_without, Dev.toExport_without, h0, h1]
    | split
    | with_reducible refine (foldl_without ps _ (fun e x => ?_) _ _).trans ?_
    | with_reducible refine (foldl_without_fst ps _ (fun e x => ?_) _ _).trans ?_
    | with_reducible refine (foldl_without_snd ps _ (fun e x => ?_) _ _).trans ?_

theorem Dev.nameSnapshot_without {ps : List Part} (h0 : Part.tele ∈ ps) (d : Dev) (k : Nat) :
    (Dev.nameSnapshot d k).without ps = d.without ps := by
  unfold Dev.nameSnapshot
  repeat' first
    | with_reducible rfl
    | simp only [Dev.modTele_without, h0]
    | split

theorem Dev.snapshotRequest_without {ps : List Part} (h0 : Part.tele ∈ ps) (d : Dev) (k : Nat) :
    (Dev.snapshotRequest d k).without ps = d.without ps := by
  unfold Dev.snapshotRequest
  repeat' first
    | with_reducible rfl
    | simp only [Dev.nameSnapshot_without, h0]
    | split

theorem Dev.nameMap_without {ps : List Part} (h0 : Part.tele ∈ ps) (d : Dev) (y : Nat) :
    (Dev.nameMap d y).without ps = d.without ps := by
  unfold Dev.nameMap
  repeat' first
    | with_reducible rfl
    | simp only [Dev.modTele_without, h0]
    | split

theorem Dev.mapRequest_without {ps : List Part} (h0 : Part.tele ∈ ps) (d : Dev) (y : Nat) :
    (Dev.mapRequest d y).without ps = d.without ps := by
  unfold Dev.mapRequest
  repeat' first
    | with_reducible rfl
    | simp only [Dev.nameMap_without, h0]
    | split

theorem Dev.teleSubscribe_without {ps : List Part} (h0 : Part.attic ∈ ps) (d : Dev) (session : Nat) (v : Nat) :
    (Dev.teleSubscribe d session v).without ps = d.without ps := by
  unfold Dev.teleSubscribe
  repeat' first
    | with_reducible rfl
    | simp only [Dev.modSession_without, h0]
    | split

theorem Dev.sendRecord_without {ps : List Part} (h0 : Part.crates ∈ ps) (h1 : Part.log ∈ ps) (h2 : Part.attic ∈ ps) (h3 :
    Part.tele ∈ ps) (h4 : Part.held ∈ ps) (h5 : Part.nextHeld ∈ ps) (h6 : Part.net ∈ ps) (h7 : Part.waits ∈ ps) (h8 :
    Part.out ∈ ps) (h9 : Part.atticWaits ∈ ps) (d : Dev) (s : Session) (kind : Nat) (step : Nat) (b : List Byte) :
    (Dev.sendRecord d s kind step b).without ps = d.without ps := by
  unfold Dev.sendRecord
  repeat' first
    | with_reducible rfl
    | simp only [Dev.sendMessage_without, h0, h1, h2, h3, h4, h5, h6, h7, h8, h9]
    | split
    | with_reducible refine (foldl_without ps _ (fun e x => ?_) _ _).trans ?_
    | with_reducible refine (foldl_without_fst ps _ (fun e x => ?_) _ _).trans ?_
    | with_reducible refine (foldl_without_snd ps _ (fun e x => ?_) _ _).trans ?_

theorem Dev.telemetry_without {ps : List Part} (h0 : Part.crates ∈ ps) (h1 : Part.log ∈ ps) (h2 : Part.attic ∈ ps) (h3 :
    Part.tele ∈ ps) (h4 : Part.held ∈ ps) (h5 : Part.nextHeld ∈ ps) (h6 : Part.net ∈ ps) (h7 : Part.waits ∈ ps) (h8 :
    Part.out ∈ ps) (h9 : Part.atticWaits ∈ ps) (d : Dev) :
    (Dev.telemetry d).without ps = d.without ps := by
  unfold Dev.telemetry
  repeat' first
    | with_reducible rfl
    | simp only [Dev.modTele_without, Dev.sendRecord_without, h0, h1, h2, h3, h4, h5, h6, h7, h8, h9]
    | split
    | with_reducible refine (foldl_without ps _ (fun e x => ?_) _ _).trans ?_
    | with_reducible refine (foldl_without_fst ps _ (fun e x => ?_) _ _).trans ?_
    | with_reducible refine (foldl_without_snd ps _ (fun e x => ?_) _ _).trans ?_

end Sys2Proof.Machine
end

