-- ==== Sys2Proof/Laws/FrameCommits.lean ====
section
/-! SUPPORT. What each named operation leaves alone, one lemma for each: the services, the Inventory and its protocol. Each
names the parts that the operation may change, so a caller's frame follows by citing the lemmas of what it calls. -/

set_option Elab.async false
set_option linter.unusedSimpArgs false
set_option linter.unusedVariables false

namespace Sys2Proof.Machine

theorem Dev.acknowledge_without {ps : List Part} (h0 : Part.log ∈ ps) (d : Dev) (q : Nat) :
    (Dev.acknowledge d q).without ps = d.without ps := by
  unfold Dev.acknowledge
  repeat' first
    | with_reducible rfl
    | simp only [without_set_log, h0]
    | split

theorem Dev.noticeSubscribe_without {ps : List Part} (h0 : Part.attic ∈ ps) (d : Dev) (session : Nat) (v : Nat) :
    (Dev.noticeSubscribe d session v).without ps = d.without ps := by
  unfold Dev.noticeSubscribe
  repeat' first
    | with_reducible rfl
    | simp only [Dev.modSession_without, h0]
    | split

theorem Dev.notice_without {ps : List Part} (h0 : Part.crates ∈ ps) (h1 : Part.log ∈ ps) (h2 : Part.attic ∈ ps) (h3 :
    Part.tele ∈ ps) (h4 : Part.held ∈ ps) (h5 : Part.nextHeld ∈ ps) (h6 : Part.net ∈ ps) (h7 : Part.waits ∈ ps) (h8 :
    Part.out ∈ ps) (h9 : Part.atticWaits ∈ ps) (d : Dev) (session : Nat) :
    (Dev.notice d session).without ps = d.without ps := by
  unfold Dev.notice
  repeat' first
    | with_reducible rfl
    | simp only [Dev.modSession_without, Dev.sendMessage_without, h0, h1, h2, h3, h4, h5, h6, h7, h8, h9]
    | split

theorem Dev.healthWrite_without {ps : List Part} (h0 : Part.log ∈ ps) (h1 : Part.inv ∈ ps) (h2 : Part.tele ∈ ps) (d : Dev)
    (n : Nat) (v : Nat) :
    (Dev.healthWrite d n v).without ps = d.without ps := by
  unfold Dev.healthWrite
  repeat' first
    | with_reducible rfl
    | simp only [Dev.setHealth_without, h0, h1, h2]
    | split

theorem Dev.clearStalled_without {ps : List Part} (h0 : Part.lanes ∈ ps) (h1 : Part.crates ∈ ps) (h2 : Part.stackTab ∈ ps)
    (h3 : Part.arb ∈ ps) (d : Dev) :
    (Dev.clearStalled d).without ps = d.without ps := by
  unfold Dev.clearStalled
  repeat' first
    | with_reducible rfl
    | simp only [without_set_lanes_crates_stackTab_arb, h0, h1, h2, h3]
    | split

theorem Dev.clearArbiters_without {ps : List Part} (h0 : Part.lanes ∈ ps) (h1 : Part.crates ∈ ps) (h2 : Part.stackTab ∈ ps)
    (h3 : Part.arb ∈ ps) (d : Dev) :
    (Dev.clearArbiters d).without ps = d.without ps := by
  unfold Dev.clearArbiters
  repeat' first
    | with_reducible rfl
    | simp only [Dev.modCrate_without, Dev.clearStalled_without, without_set_lanes_crates_arb, h0, h1, h2, h3]
    | split
    | with_reducible refine (foldl_without ps _ (fun e x => ?_) _ _).trans ?_
    | with_reducible refine (foldl_without_fst ps _ (fun e x => ?_) _ _).trans ?_
    | with_reducible refine (foldl_without_snd ps _ (fun e x => ?_) _ _).trans ?_

theorem Dev.arbiterClearAll_without {ps : List Part} (h0 : Part.lanes ∈ ps) (h1 : Part.crates ∈ ps) (h2 : Part.stackTab ∈
    ps) (h3 : Part.arb ∈ ps) (d : Dev) :
    (Dev.arbiterClearAll d).without ps = d.without ps := by
  unfold Dev.arbiterClearAll
  repeat' first
    | with_reducible rfl
    | simp only [Dev.clearArbiters_without, h0, h1, h2, h3]
    | split

theorem Dev.arbiterClearFlags_without {ps : List Part} (h0 : Part.lanes ∈ ps) (h1 : Part.crates ∈ ps) (h2 : Part.stackTab ∈
    ps) (h3 : Part.arb ∈ ps) (d : Dev) :
    (Dev.arbiterClearFlags d).without ps = d.without ps := by
  unfold Dev.arbiterClearFlags
  repeat' first
    | with_reducible rfl
    | simp only [Dev.clearStalled_without, h0, h1, h2, h3]
    | split

theorem Dev.emptyLane_without {ps : List Part} (h0 : Part.lanes ∈ ps) (d : Dev) (l : Nat) :
    (Dev.emptyLane d l).without ps = d.without ps := by
  unfold Dev.emptyLane
  repeat' first
    | with_reducible rfl
    | simp only [Dev.modLane_without, h0]
    | split

theorem Dev.resetGroup_without {ps : List Part} (h0 : Part.lanes ∈ ps) (h1 : Part.ports ∈ ps) (h2 : Part.crates ∈ ps) (h3 :
    Part.log ∈ ps) (h4 : Part.tele ∈ ps) (h5 : Part.held ∈ ps) (h6 : Part.net ∈ ps) (d : Dev) (n : Nat) :
    (Dev.resetGroup d n).without ps = d.without ps := by
  unfold Dev.resetGroup
  repeat' first
    | with_reducible rfl
    | simp only [Dev.modCrate_without, Dev.raise_without, Dev.flush_without, Dev.makeBad_without, Dev.dropLock_without,
        Dev.evalCrate_without, Dev.emptyLane_without, h0, h1, h2, h3, h4, h5, h6]
    | split
    | with_reducible refine (foldl_without ps _ (fun e x => ?_) _ _).trans ?_
    | with_reducible refine (foldl_without_fst ps _ (fun e x => ?_) _ _).trans ?_
    | with_reducible refine (foldl_without_snd ps _ (fun e x => ?_) _ _).trans ?_

theorem Dev.portGroupReset_without {ps : List Part} (h0 : Part.lanes ∈ ps) (h1 : Part.ports ∈ ps) (h2 : Part.crates ∈ ps)
    (h3 : Part.log ∈ ps) (h4 : Part.tele ∈ ps) (h5 : Part.held ∈ ps) (h6 : Part.net ∈ ps) (d : Dev) (n : Nat) :
    (Dev.portGroupReset d n).without ps = d.without ps := by
  unfold Dev.portGroupReset
  repeat' first
    | with_reducible rfl
    | simp only [Dev.resetGroup_without, h0, h1, h2, h3, h4, h5, h6]
    | split

theorem Dev.portGroup_without {ps : List Part} (h0 : Part.lanes ∈ ps) (h1 : Part.ports ∈ ps) (h2 : Part.crates ∈ ps) (h3 :
    Part.log ∈ ps) (h4 : Part.tele ∈ ps) (h5 : Part.held ∈ ps) (h6 : Part.net ∈ ps) (d : Dev) (n : Nat) :
    (Dev.portGroup d n).without ps = d.without ps := by
  unfold Dev.portGroup
  repeat' first
    | with_reducible rfl
    | simp only [Dev.portGroupReset_without, h0, h1, h2, h3, h4, h5, h6]
    | split

theorem Dev.closeTrans_without {ps : List Part} (h0 : Part.inv ∈ ps) (d : Dev) (id : Nat) :
    (Dev.closeTrans d id).without ps = d.without ps := by
  unfold Dev.closeTrans
  repeat' first
    | with_reducible rfl
    | simp only [Dev.modInv_without, h0]
    | split

theorem Dev.openTrans_without {ps : List Part} (h0 : Part.inv ∈ ps) (d : Dev) (session : Nat) :
    (Dev.openTrans d session).2.without ps = d.without ps := by
  unfold Dev.openTrans
  repeat' first
    | with_reducible rfl
    | simp only [Dev.modInv_without, h0]
    | split

theorem Dev.openTrans_without_of {ps : List Part} (h0 : Part.inv ∈ ps) {d : Dev} {session : Nat} {a9 : Option Nat} {e9 :
    Dev} (h : Dev.openTrans d session = (a9, e9)) :
    e9.without ps = d.without ps := by
  have k := Dev.openTrans_without h0 d session
  rw [h] at k
  exact k

theorem Dev.stageValue_without {ps : List Part} (h0 : Part.inv ∈ ps) (d : Dev) (id : Nat) (a : Nat) (x : Nat) (len : Nat) :
    (Dev.stageValue d id a x len).without ps = d.without ps := by
  unfold Dev.stageValue
  repeat' first
    | with_reducible rfl
    | simp only [Dev.modInv_without, h0]
    | split

theorem Dev.abortTrans_without {ps : List Part} (h0 : Part.inv ∈ ps) (d : Dev) (id : Nat) :
    (Dev.abortTrans d id).2.without ps = d.without ps := by
  unfold Dev.abortTrans
  repeat' first
    | with_reducible rfl
    | simp only [Dev.closeTrans_without, h0]
    | split

theorem Dev.abortTrans_without_of {ps : List Part} (h0 : Part.inv ∈ ps) {d : Dev} {id : Nat} {a9 : Status} {e9 : Dev} (h :
    Dev.abortTrans d id = (a9, e9)) :
    e9.without ps = d.without ps := by
  have k := Dev.abortTrans_without h0 d id
  rw [h] at k
  exact k

theorem Dev.transExpiry_without {ps : List Part} (h0 : Part.log ∈ ps) (h1 : Part.inv ∈ ps) (h2 : Part.tele ∈ ps) (d : Dev)
    (id : Nat) :
    (Dev.transExpiry d id).without ps = d.without ps := by
  unfold Dev.transExpiry
  repeat' first
    | with_reducible rfl
    | simp only [Dev.raise_without, Dev.closeTrans_without, h0, h1, h2]
    | split

theorem Dev.writeNow_without {ps : List Part} (h0 : Part.lanes ∈ ps) (h1 : Part.ports ∈ ps) (h2 : Part.crates ∈ ps) (h3 :
    Part.stackTab ∈ ps) (h4 : Part.arb ∈ ps) (h5 : Part.time ∈ ps) (h6 : Part.log ∈ ps) (h7 : Part.inv ∈ ps) (h8 :
    Part.attic ∈ ps) (h9 : Part.tele ∈ ps) (h10 : Part.held ∈ ps) (h11 : Part.net ∈ ps) (h12 : Part.draws ∈ ps) (d : Dev)
    (session index sub x : Nat) :
    (Dev.writeNow d session index sub x).2.without ps = d.without ps := by
  unfold Dev.writeNow
  simp only [apply_ite Prod.snd, apply_ite (Dev.without ps), ite_self, Dev.setImm_without, Dev.setHealth_without,
      Dev.nextPps_without, Dev.atticFrequency_without, Dev.atticPhase_without, Dev.modAttic_without,
      Dev.trialConfirm_without, Dev.attest_without, Dev.teleSubscribe_without, Dev.acknowledge_without,
      Dev.noticeSubscribe_without, Dev.clearStalled_without, Dev.clearArbiters_without, Dev.portGroupReset_without,
    h0, h1, h2, h3, h4, h5, h6, h7, h8, h9, h10, h11, h12]

theorem Dev.writeNow_without_of {ps : List Part} (h0 : Part.lanes ∈ ps) (h1 : Part.ports ∈ ps) (h2 : Part.crates ∈ ps) (h3
    : Part.stackTab ∈ ps) (h4 : Part.arb ∈ ps) (h5 : Part.time ∈ ps) (h6 : Part.log ∈ ps) (h7 : Part.inv ∈ ps) (h8 :
    Part.attic ∈ ps) (h9 : Part.tele ∈ ps) (h10 : Part.held ∈ ps) (h11 : Part.net ∈ ps) (h12 : Part.draws ∈ ps) {d : Dev}
    {session index sub x : Nat} {a9 : Status} {e9 : Dev}
    (h : Dev.writeNow d session index sub x = (a9, e9)) : e9.without ps = d.without ps := by
  have k := Dev.writeNow_without h0 h1 h2 h3 h4 h5 h6 h7 h8 h9 h10 h11 h12 d session index sub x
  rw [h] at k
  exact k

theorem Dev.writeItem_without {ps : List Part} (h0 : Part.lanes ∈ ps) (h1 : Part.ports ∈ ps) (h2 : Part.crates ∈ ps) (h3 :
    Part.stackTab ∈ ps) (h4 : Part.arb ∈ ps) (h5 : Part.time ∈ ps) (h6 : Part.log ∈ ps) (h7 : Part.inv ∈ ps) (h8 :
    Part.attic ∈ ps) (h9 : Part.tele ∈ ps) (h10 : Part.held ∈ ps) (h11 : Part.net ∈ ps) (h12 : Part.draws ∈ ps) (d : Dev)
    (v : Nv) (session : Nat) (trans : Nat) (w : WriteItem) :
    (Dev.writeItem d v session trans w).2.without ps = d.without ps := by
  unfold Dev.writeItem
  repeat' first
    | with_reducible rfl
    | simp only [Dev.stageValue_without, Dev.writeNow_without, h0, h1, h2, h3, h4, h5, h6, h7, h8, h9, h10, h11, h12]
    | split
    | rw [Dev.writeNow_without_of h0 h1 h2 h3 h4 h5 h6 h7 h8 h9 h10 h11 h12 (by assumption)]
    | (rename_i k9; rw [Dev.writeNow_without_of h0 h1 h2 h3 h4 h5 h6 h7 h8 h9 h10 h11 h12 k9])
    | (rename_i k9 _; rw [Dev.writeNow_without_of h0 h1 h2 h3 h4 h5 h6 h7 h8 h9 h10 h11 h12 k9])
    | (rename_i k9 _ _; rw [Dev.writeNow_without_of h0 h1 h2 h3 h4 h5 h6 h7 h8 h9 h10 h11 h12 k9])
    | (rename_i k9 _ _ _; rw [Dev.writeNow_without_of h0 h1 h2 h3 h4 h5 h6 h7 h8 h9 h10 h11 h12 k9])

theorem Dev.writeItem_without_of {ps : List Part} (h0 : Part.lanes ∈ ps) (h1 : Part.ports ∈ ps) (h2 : Part.crates ∈ ps) (h3
    : Part.stackTab ∈ ps) (h4 : Part.arb ∈ ps) (h5 : Part.time ∈ ps) (h6 : Part.log ∈ ps) (h7 : Part.inv ∈ ps) (h8 :
    Part.attic ∈ ps) (h9 : Part.tele ∈ ps) (h10 : Part.held ∈ ps) (h11 : Part.net ∈ ps) (h12 : Part.draws ∈ ps) {d : Dev}
    {v : Nv} {session : Nat} {trans : Nat} {w : WriteItem} {a9 : Status} {e9 : Dev} (h : Dev.writeItem d v session trans w
    = (a9, e9)) :
    e9.without ps = d.without ps := by
  have k := Dev.writeItem_without h0 h1 h2 h3 h4 h5 h6 h7 h8 h9 h10 h11 h12 d v session trans w
  rw [h] at k
  exact k

theorem Dev.writeItems_without {ps : List Part} (h0 : Part.lanes ∈ ps) (h1 : Part.ports ∈ ps) (h2 : Part.crates ∈ ps) (h3 :
    Part.stackTab ∈ ps) (h4 : Part.arb ∈ ps) (h5 : Part.time ∈ ps) (h6 : Part.log ∈ ps) (h7 : Part.inv ∈ ps) (h8 :
    Part.attic ∈ ps) (h9 : Part.tele ∈ ps) (h10 : Part.held ∈ ps) (h11 : Part.net ∈ ps) (h12 : Part.draws ∈ ps) (d : Dev)
    (v : Nv) (session trans : Nat) (l : List WriteItem) (space : Nat) :
    (Dev.writeItems d v session trans l space).2.without ps = d.without ps := by
  induction l generalizing space d with
  | nil => rfl
  | cons w t ih =>
    unfold Dev.writeItems
    split
    · exact (ih _ _).trans (Dev.writeItem_without h0 h1 h2 h3 h4 h5 h6 h7 h8 h9 h10 h11 h12 d v session trans w)
    · rfl

theorem Dev.under_without {ps : List Part} (h0 : Part.inv ∈ ps) (d : Dev) (b : Tab Nat) (held : Tab (Option Nat)) :
    (Dev.under d b held).without ps = d.without ps := by
  unfold Dev.under
  repeat' first
    | with_reducible rfl
    | simp only [Dev.modInv_without, h0]
    | split

theorem Dev.retireMark_without {ps : List Part} (h0 : Part.contexts ∈ ps) (d : Dev) (ctx : Nat) (park : Bool) :
    (Dev.retireMark d ctx park).without ps = d.without ps := by
  unfold Dev.retireMark
  repeat' first
    | with_reducible rfl
    | simp only [Dev.modCtx_without, h0]
    | split

theorem Dev.installMark_without {ps : List Part} (h0 : Part.contexts ∈ ps) (d : Dev) (r : Nat) :
    (Dev.installMark d r).without ps = d.without ps := by
  unfold Dev.installMark
  repeat' first
    | with_reducible rfl
    | simp only [Dev.putCtx_without, h0]
    | split

theorem Dev.armMark_without {ps : List Part} (h0 : Part.contexts ∈ ps) (d : Dev) (ctx : Nat) (gen : Nat) :
    (Dev.armMark d ctx gen).without ps = d.without ps := by
  unfold Dev.armMark
  repeat' first
    | with_reducible rfl
    | simp only [Dev.modCtx_without, h0]
    | split

theorem Dev.contextsAfter_without {ps : List Part} (h0 : Part.contexts ∈ ps) (d : Dev) (staged : List (Nat × Nat)) :
    (Dev.contextsAfter d staged).without ps = d.without ps := by
  unfold Dev.contextsAfter
  repeat' first
    | with_reducible rfl
    | simp only [Dev.retireMark_without, Dev.installMark_without, Dev.armMark_without, h0]
    | split
    | with_reducible refine (foldl_without ps _ (fun e x => ?_) _ _).trans ?_
    | with_reducible refine (foldl_without_fst ps _ (fun e x => ?_) _ _).trans ?_
    | with_reducible refine (foldl_without_snd ps _ (fun e x => ?_) _ _).trans ?_

theorem Dev.atStep_without {ps : List Part} (h0 : Part.time ∈ ps) (h1 : Part.log ∈ ps) (h2 : Part.tele ∈ ps) (h3 :
    Part.versions ∈ ps) (d : Dev) (x : Nat) :
    (Dev.atStep d x).without ps = d.without ps := by
  unfold Dev.atStep
  repeat' first
    | with_reducible rfl
    | simp only [Dev.retire_without, Dev.modTime_without, h0, h1, h2, h3]
    | split

theorem Dev.afterSealed_without {ps : List Part} (h0 : Part.crates ∈ ps) (h1 : Part.time ∈ ps) (h2 : Part.log ∈ ps) (h3 :
    Part.inv ∈ ps) (h4 : Part.tele ∈ ps) (h5 : Part.contexts ∈ ps) (h6 : Part.versions ∈ ps) (h7 : Part.shadows ∈ ps) (d :
    Dev) (s : Sealed) :
    (Dev.afterSealed d s).without ps = d.without ps := by
  unfold Dev.afterSealed
  repeat' first
    | with_reducible rfl
    | simp only [Dev.prepare_without, Dev.flip_without, Dev.remapApply_without, Dev.under_without,
        Dev.contextsAfter_without, Dev.atStep_without, h0, h1, h2, h3, h4, h5, h6, h7]
    | split
    | with_reducible refine (foldl_without ps _ (fun e x => ?_) _ _).trans ?_
    | with_reducible refine (foldl_without_fst ps _ (fun e x => ?_) _ _).trans ?_
    | with_reducible refine (foldl_without_snd ps _ (fun e x => ?_) _ _).trans ?_

theorem Dev.devAt_without {ps : List Part} (h0 : Part.crates ∈ ps) (h1 : Part.time ∈ ps) (h2 : Part.log ∈ ps) (h3 :
    Part.inv ∈ ps) (h4 : Part.tele ∈ ps) (h5 : Part.contexts ∈ ps) (h6 : Part.versions ∈ ps) (h7 : Part.shadows ∈ ps) (d :
    Dev) (x : Nat) :
    (Dev.devAt d x).without ps = d.without ps := by
  unfold Dev.devAt
  repeat' first
    | with_reducible rfl
    | simp only [Dev.atStep_without, Dev.afterSealed_without, h0, h1, h2, h3, h4, h5, h6, h7]
    | split
    | with_reducible refine (foldl_without ps _ (fun e x => ?_) _ _).trans ?_
    | with_reducible refine (foldl_without_fst ps _ (fun e x => ?_) _ _).trans ?_
    | with_reducible refine (foldl_without_snd ps _ (fun e x => ?_) _ _).trans ?_

theorem Dev.closeCommit_without {ps : List Part} (h0 : Part.inv ∈ ps) (d : Dev) (trans : Nat) (r : CommitResult) (digest :
    RVal) :
    (Dev.closeCommit d trans r digest).without ps = d.without ps := by
  unfold Dev.closeCommit
  repeat' first
    | with_reducible rfl
    | simp only [Dev.modInv_without, Dev.closeTrans_without, h0]
    | split

theorem Dev.putResult_without {ps : List Part} (h0 : Part.inv ∈ ps) (d : Dev) (r : CommitResult) :
    (Dev.putResult d r).without ps = d.without ps := by
  unfold Dev.putResult
  repeat' first
    | with_reducible rfl
    | simp only [Dev.modInv_without, h0]
    | split

theorem Dev.refuseCommit_without {ps : List Part} (h0 : Part.log ∈ ps) (h1 : Part.inv ∈ ps) (h2 : Part.tele ∈ ps) (d : Dev)
    (trans : Nat) (x : Nat) (f : Verdict) :
    (Dev.refuseCommit d trans x f).1.without ps = d.without ps := by
  unfold Dev.refuseCommit
  repeat' first
    | with_reducible rfl
    | simp only [Dev.raise_without, Dev.ctxRefused_without, Dev.closeCommit_without, Dev.putResult_without, h0, h1, h2]
    | split

theorem Dev.refuseCommit_without_of {ps : List Part} (h0 : Part.log ∈ ps) (h1 : Part.inv ∈ ps) (h2 : Part.tele ∈ ps) {d :
    Dev} {trans : Nat} {x : Nat} {f : Verdict} {a9 : CommitResult} {e9 : Dev} (h : Dev.refuseCommit d trans x f = (e9, a9))
    :
    e9.without ps = d.without ps := by
  have k := Dev.refuseCommit_without h0 h1 h2 d trans x f
  rw [h] at k
  exact k

theorem sealCommit_without {ps : List Part} (h0 : Part.inv ∈ ps) (v : Nv) (d : Dev) (t : Trans) (session : Nat) (x : Nat) :
    (sealCommit v d t session x).1.2.without ps = d.without ps := by
  unfold sealCommit
  repeat' first
    | with_reducible rfl
    | simp only [Dev.modInv_without, coldStore_without, Dev.closeCommit_without, Dev.putResult_without, h0]
    | split

theorem commitRequest_without {ps : List Part} (h0 : Part.log ∈ ps) (h1 : Part.inv ∈ ps) (h2 : Part.tele ∈ ps) (v : Nv) (d
    : Dev) (session : Nat) (trans : Nat) (x : Nat) :
    (commitRequest v d session trans x).1.2.without ps = d.without ps := by
  unfold commitRequest
  repeat' first
    | with_reducible rfl
    | simp only [Dev.raise_without, Dev.closeCommit_without, Dev.putResult_without, Dev.refuseCommit_without,
        sealCommit_without, h0, h1, h2]
    | split
    | rw [Dev.refuseCommit_without_of h0 h1 h2 (by assumption)]
    | (rename_i k9; rw [Dev.refuseCommit_without_of h0 h1 h2 k9])
    | (rename_i k9 _; rw [Dev.refuseCommit_without_of h0 h1 h2 k9])
    | (rename_i k9 _ _; rw [Dev.refuseCommit_without_of h0 h1 h2 k9])
    | (rename_i k9 _ _ _; rw [Dev.refuseCommit_without_of h0 h1 h2 k9])

theorem Dev.cancel_without {ps : List Part} (h0 : Part.log ∈ ps) (h1 : Part.inv ∈ ps) (h2 : Part.tele ∈ ps) (d : Dev) (x :
    Nat) :
    (Dev.cancel d x).2.without ps = d.without ps := by
  unfold Dev.cancel
  repeat' first
    | with_reducible rfl
    | simp only [Dev.raise_without, Dev.modInv_without, h0, h1, h2]
    | split

theorem Dev.cancel_without_of {ps : List Part} (h0 : Part.log ∈ ps) (h1 : Part.inv ∈ ps) (h2 : Part.tele ∈ ps) {d : Dev} {x
    : Nat} {a9 : Status} {e9 : Dev} (h : Dev.cancel d x = (a9, e9)) :
    e9.without ps = d.without ps := by
  have k := Dev.cancel_without h0 h1 h2 d x
  rw [h] at k
  exact k

theorem Dev.portsAfresh_without {ps : List Part} (h0 : Part.ports ∈ ps) (h1 : Part.crates ∈ ps) (d : Dev) (n : Nat) :
    (Dev.portsAfresh d n).without ps = d.without ps := by
  unfold Dev.portsAfresh
  repeat' first
    | with_reducible rfl
    | simp only [Dev.modPort_without, Dev.restSpray_without, h0, h1]
    | split
    | with_reducible refine (foldl_without ps _ (fun e x => ?_) _ _).trans ?_
    | with_reducible refine (foldl_without_fst ps _ (fun e x => ?_) _ _).trans ?_
    | with_reducible refine (foldl_without_snd ps _ (fun e x => ?_) _ _).trans ?_

theorem Dev.mapInForce_without {ps : List Part} (h0 : Part.lanes ∈ ps) (h1 : Part.ports ∈ ps) (h2 : Part.crates ∈ ps) (h3 :
    Part.log ∈ ps) (h4 : Part.tele ∈ ps) (h5 : Part.held ∈ ps) (h6 : Part.net ∈ ps) (h7 : Part.waits ∈ ps) (h8 :
    Part.fences ∈ ps) (d : Dev) (n : Nat) :
    (Dev.mapInForce d n).without ps = d.without ps := by
  unfold Dev.mapInForce
  repeat' first
    | with_reducible rfl
    | simp only [Dev.modPort_without, Dev.startTimeout_without, Dev.evalCrate_without, Dev.decideFence_without, h0, h1, h2,
        h3, h4, h5, h6, h7, h8]
    | split
    | with_reducible refine (foldl_without ps _ (fun e x => ?_) _ _).trans ?_
    | with_reducible refine (foldl_without_fst ps _ (fun e x => ?_) _ _).trans ?_
    | with_reducible refine (foldl_without_snd ps _ (fun e x => ?_) _ _).trans ?_

theorem Dev.quiesceTake_without {ps : List Part} (h0 : Part.ports ∈ ps) (h1 : Part.crates ∈ ps) (h2 : Part.inv ∈ ps) (h3 :
    Part.held ∈ ps) (d : Dev) (a : Nat) (crate : Nat) :
    (Dev.quiesceTake d a crate).1.without ps = d.without ps := by
  unfold Dev.quiesceTake
  repeat' first
    | with_reducible rfl
    | simp only [Dev.unhold_without, Dev.modInv_without, Dev.portsAfresh_without, h0, h1, h2, h3]
    | split

theorem Dev.quiesceTake_without_of {ps : List Part} (h0 : Part.ports ∈ ps) (h1 : Part.crates ∈ ps) (h2 : Part.inv ∈ ps) (h3
    : Part.held ∈ ps) {d : Dev} {a : Nat} {crate : Nat} {a9 : Option Nat} {e9 : Dev} (h : Dev.quiesceTake d a crate = (e9,
    a9)) :
    e9.without ps = d.without ps := by
  have k := Dev.quiesceTake_without h0 h1 h2 h3 d a crate
  rw [h] at k
  exact k

theorem Dev.quiesce_without {ps : List Part} (h0 : Part.lanes ∈ ps) (h1 : Part.ports ∈ ps) (h2 : Part.crates ∈ ps) (h3 :
    Part.log ∈ ps) (h4 : Part.inv ∈ ps) (h5 : Part.tele ∈ ps) (h6 : Part.held ∈ ps) (h7 : Part.net ∈ ps) (h8 : Part.waits ∈
    ps) (h9 : Part.fences ∈ ps) (d : Dev) (index : Nat) (sub : Nat) (crate : Nat) :
    (Dev.quiesce d index sub crate).without ps = d.without ps := by
  unfold Dev.quiesce
  repeat' first
    | with_reducible rfl
    | simp only [Dev.notePools_without, Dev.mapInForce_without, Dev.quiesceTake_without, h0, h1, h2, h3, h4, h5, h6, h7,
        h8, h9]
    | split
    | rw [Dev.quiesceTake_without_of h1 h2 h4 h6 (by assumption)]
    | (rename_i k9; rw [Dev.quiesceTake_without_of h1 h2 h4 h6 k9])
    | (rename_i k9 _; rw [Dev.quiesceTake_without_of h1 h2 h4 h6 k9])
    | (rename_i k9 _ _; rw [Dev.quiesceTake_without_of h1 h2 h4 h6 k9])
    | (rename_i k9 _ _ _; rw [Dev.quiesceTake_without_of h1 h2 h4 h6 k9])

theorem Dev.quiesceNow_without {ps : List Part} (h0 : Part.lanes ∈ ps) (h1 : Part.ports ∈ ps) (h2 : Part.crates ∈ ps) (h3 :
    Part.log ∈ ps) (h4 : Part.inv ∈ ps) (h5 : Part.tele ∈ ps) (h6 : Part.held ∈ ps) (h7 : Part.net ∈ ps) (h8 : Part.waits ∈
    ps) (h9 : Part.fences ∈ ps) (d : Dev) (changed : List Nat) :
    (Dev.quiesceNow d changed).1.without ps = d.without ps := by
  unfold Dev.quiesceNow
  repeat' first
    | with_reducible rfl
    | simp only [Dev.quiesceTake_without, Dev.quiesce_without, h0, h1, h2, h3, h4, h5, h6, h7, h8, h9]
    | split
    | with_reducible refine (foldl_without ps _ (fun e x => ?_) _ _).trans ?_
    | with_reducible refine (foldl_without_fst ps _ (fun e x => ?_) _ _).trans ?_
    | with_reducible refine (foldl_without_snd ps _ (fun e x => ?_) _ _).trans ?_
    | rw [Dev.quiesceTake_without_of h1 h2 h4 h6 (by assumption)]
    | (rename_i k9; rw [Dev.quiesceTake_without_of h1 h2 h4 h6 k9])
    | (rename_i k9 _; rw [Dev.quiesceTake_without_of h1 h2 h4 h6 k9])
    | (rename_i k9 _ _; rw [Dev.quiesceTake_without_of h1 h2 h4 h6 k9])
    | (rename_i k9 _ _ _; rw [Dev.quiesceTake_without_of h1 h2 h4 h6 k9])

theorem Dev.quiesceNow_without_of {ps : List Part} (h0 : Part.lanes ∈ ps) (h1 : Part.ports ∈ ps) (h2 : Part.crates ∈ ps)
    (h3 : Part.log ∈ ps) (h4 : Part.inv ∈ ps) (h5 : Part.tele ∈ ps) (h6 : Part.held ∈ ps) (h7 : Part.net ∈ ps) (h8 :
    Part.waits ∈ ps) (h9 : Part.fences ∈ ps) {d : Dev} {changed : List Nat} {a9 : List Nat} {e9 : Dev} (h : Dev.quiesceNow
    d changed = (e9, a9)) :
    e9.without ps = d.without ps := by
  have k := Dev.quiesceNow_without h0 h1 h2 h3 h4 h5 h6 h7 h8 h9 d changed
  rw [h] at k
  exact k

theorem Dev.closeUnlisted_without {ps : List Part} (h0 : Part.attic ∈ ps) (d : Dev) (removed : List Nat) :
    (Dev.closeUnlisted d removed).without ps = d.without ps := by
  unfold Dev.closeUnlisted
  repeat' first
    | with_reducible rfl
    | simp only [Dev.dropSession_without, h0]
    | split
    | with_reducible refine (foldl_without ps _ (fun e x => ?_) _ _).trans ?_
    | with_reducible refine (foldl_without_fst ps _ (fun e x => ?_) _ _).trans ?_
    | with_reducible refine (foldl_without_snd ps _ (fun e x => ?_) _ _).trans ?_

theorem Dev.stepEntries_without {ps : List Part} (h0 : Part.lanes ∈ ps) (h1 : Part.ports ∈ ps) (h2 : Part.crates ∈ ps) (h3
    : Part.hatches ∈ ps) (h4 : Part.modules ∈ ps) (h5 : Part.time ∈ ps) (h6 : Part.log ∈ ps) (h7 : Part.attic ∈ ps) (h8 :
    Part.tele ∈ ps) (h9 : Part.held ∈ ps) (h10 : Part.net ∈ ps) (h11 : Part.waits ∈ ps) (h12 : Part.fences ∈ ps) (d0 : Dev)
    (d : Dev) (changed : List Nat) (mapped : List Nat) :
    (Dev.stepEntries d0 d changed mapped).without ps = d.without ps := by
  unfold Dev.stepEntries
  repeat' first
    | with_reducible rfl
    | simp only [Dev.evalCrate_without, Dev.portsChanged_without, Dev.reviewLoops_without, Dev.roleChanged_without,
        Dev.closeUnlisted_without, h0, h1, h2, h3, h4, h5, h6, h7, h8, h9, h10, h11, h12]
    | split
    | with_reducible refine (foldl_without ps _ (fun e x => ?_) _ _).trans ?_
    | with_reducible refine (foldl_without_fst ps _ (fun e x => ?_) _ _).trans ?_
    | with_reducible refine (foldl_without_snd ps _ (fun e x => ?_) _ _).trans ?_

theorem Dev.contextActions_without {ps : List Part} (h0 : Part.lanes ∈ ps) (h1 : Part.crates ∈ ps) (h2 : Part.stackTab ∈
    ps) (h3 : Part.arb ∈ ps) (h4 : Part.log ∈ ps) (h5 : Part.tele ∈ ps) (h6 : Part.held ∈ ps) (h7 : Part.nextHeld ∈ ps) (h8
    : Part.net ∈ ps) (h9 : Part.waits ∈ ps) (h10 : Part.consumed ∈ ps) (h11 : Part.contexts ∈ ps) (h12 : Part.holding ∈ ps)
    (h13 : Part.nacks ∈ ps) (h14 : Part.out ∈ ps) (h15 : Part.shadows ∈ ps) (d : Dev) (staged : List (Nat × Nat)) :
    (Dev.contextActions d staged).without ps = d.without ps := by
  unfold Dev.contextActions
  repeat' first
    | with_reducible rfl
    | simp only [Dev.installApply_without, Dev.armApply_without, Dev.resetApply_without, Dev.retireApply_without,
        Dev.overrideApply_without, h0, h1, h2, h3, h4, h5, h6, h7, h8, h9, h10, h11, h12, h13, h14, h15]
    | split
    | with_reducible refine (foldl_without ps _ (fun e x => ?_) _ _).trans ?_
    | with_reducible refine (foldl_without_fst ps _ (fun e x => ?_) _ _).trans ?_
    | with_reducible refine (foldl_without_snd ps _ (fun e x => ?_) _ _).trans ?_

theorem Dev.stampApplied_without {ps : List Part} (h0 : Part.inv ∈ ps) (d : Dev) (s : Sealed) :
    (Dev.stampApplied d s).without ps = d.without ps := by
  unfold Dev.stampApplied
  repeat' first
    | with_reducible rfl
    | simp only [Dev.modInv_without, h0]
    | split

theorem Dev.countsAfresh_without {ps : List Part} (h0 : Part.lanes ∈ ps) (h1 : Part.crates ∈ ps) (d : Dev) :
    (Dev.countsAfresh d).without ps = d.without ps := by
  unfold Dev.countsAfresh
  repeat' first
    | with_reducible rfl
    | simp only [without_set_lanes_crates, h0, h1]
    | split

theorem Dev.peaksAfresh_without {ps : List Part} (h0 : Part.lanes ∈ ps) (d : Dev) (due : List Due) :
    (Dev.peaksAfresh d due).without ps = d.without ps := by
  unfold Dev.peaksAfresh
  repeat' first
    | with_reducible rfl
    | simp only [without_set_lanes, h0]
    | split

theorem Dev.reachBoundary_without {ps : List Part} (h0 : Part.time ∈ ps) (d : Dev) :
    (Dev.reachBoundary d).without ps = d.without ps := by
  unfold Dev.reachBoundary
  repeat' first
    | with_reducible rfl
    | simp only [Dev.modTime_without, h0]
    | split

theorem openBoundary_without {ps : List Part} (h0 : Part.lanes ∈ ps) (h1 : Part.crates ∈ ps) (h2 : Part.time ∈ ps) (h3 :
    Part.tele ∈ ps) (h4 : Part.due ∈ ps) (v : Nv) (d : Dev) :
    (openBoundary v d).without ps = d.without ps := by
  unfold openBoundary
  repeat' first
    | with_reducible rfl
    | simp only [Dev.modTime_without, Dev.modTele_without, Dev.countsAfresh_without, Dev.peaksAfresh_without,
        Dev.reachBoundary_without, without_set_due, h0, h1, h2, h3, h4]
    | split

theorem Dev.boundaryReview_without {ps : List Part} (h0 : Part.lanes ∈ ps) (h1 : Part.time ∈ ps) (h2 : Part.log ∈ ps) (h3 :
    Part.tele ∈ ps) (d : Dev) :
    (Dev.boundaryReview d).without ps = d.without ps := by
  unfold Dev.boundaryReview
  repeat' first
    | with_reducible rfl
    | simp only [Dev.servoStep_without, Dev.reviewParent_without, without_set_lanes, h0, h1, h2, h3]
    | split

theorem Dev.planSwitches_without {ps : List Part} (h0 : Part.log ∈ ps) (h1 : Part.tele ∈ ps) (h2 : Part.contexts ∈ ps) (d :
    Dev) :
    (Dev.planSwitches d).without ps = d.without ps := by
  unfold Dev.planSwitches
  repeat' first
    | with_reducible rfl
    | simp only [Dev.planSwitch_without, h0, h1, h2]
    | split
    | with_reducible refine (foldl_without ps _ (fun e x => ?_) _ _).trans ?_
    | with_reducible refine (foldl_without_fst ps _ (fun e x => ?_) _ _).trans ?_
    | with_reducible refine (foldl_without_snd ps _ (fun e x => ?_) _ _).trans ?_

theorem Dev.levels_without {ps : List Part} (h0 : Part.lanes ∈ ps) (h1 : Part.contexts ∈ ps) (d : Dev) :
    (Dev.levels d).without ps = d.without ps := by
  unfold Dev.levels
  repeat' first
    | with_reducible rfl
    | simp only [Dev.computeLevels_without, without_set_lanes, h0, h1]
    | split

theorem execute_without {ps : List Part} (h0 : Part.lanes ∈ ps) (h1 : Part.ports ∈ ps) (h2 : Part.crates ∈ ps) (h3 :
    Part.stackTab ∈ ps) (h4 : Part.arb ∈ ps) (h5 : Part.time ∈ ps) (h6 : Part.log ∈ ps) (h7 : Part.inv ∈ ps) (h8 :
    Part.attic ∈ ps) (h9 : Part.tele ∈ ps) (h10 : Part.held ∈ ps) (h11 : Part.net ∈ ps) (h12 : Part.draws ∈ ps) (v : Nv) (d
    : Dev) (p : Peer) (q : Request) :
    (execute v d p q).1.2.without ps = d.without ps := by
  unfold execute
  repeat' first
    | with_reducible rfl
    | simp only [Dev.openTrans_without, Dev.abortTrans_without, Dev.writeItems_without, commitRequest_without,
        Dev.cancel_without, h0, h1, h2, h3, h4, h5, h6, h7, h8, h9, h10, h11, h12]
    | split
    | rw [Dev.openTrans_without_of h7 (by assumption)]
    | (rename_i k9; rw [Dev.openTrans_without_of h7 k9])
    | (rename_i k9 _; rw [Dev.openTrans_without_of h7 k9])
    | (rename_i k9 _ _; rw [Dev.openTrans_without_of h7 k9])
    | (rename_i k9 _ _ _; rw [Dev.openTrans_without_of h7 k9])
    | rw [Dev.abortTrans_without_of h7 (by assumption)]
    | (rename_i k9; rw [Dev.abortTrans_without_of h7 k9])
    | (rename_i k9 _; rw [Dev.abortTrans_without_of h7 k9])
    | (rename_i k9 _ _; rw [Dev.abortTrans_without_of h7 k9])
    | (rename_i k9 _ _ _; rw [Dev.abortTrans_without_of h7 k9])
    | rw [Dev.cancel_without_of h6 h7 h9 (by assumption)]
    | (rename_i k9; rw [Dev.cancel_without_of h6 h7 h9 k9])
    | (rename_i k9 _; rw [Dev.cancel_without_of h6 h7 h9 k9])
    | (rename_i k9 _ _; rw [Dev.cancel_without_of h6 h7 h9 k9])
    | (rename_i k9 _ _ _; rw [Dev.cancel_without_of h6 h7 h9 k9])

theorem Dev.respond_without {ps : List Part} (h0 : Part.crates ∈ ps) (h1 : Part.log ∈ ps) (h2 : Part.inv ∈ ps) (h3 :
    Part.attic ∈ ps) (h4 : Part.tele ∈ ps) (h5 : Part.held ∈ ps) (h6 : Part.nextHeld ∈ ps) (h7 : Part.net ∈ ps) (h8 :
    Part.waits ∈ ps) (h9 : Part.out ∈ ps) (h10 : Part.atticWaits ∈ ps) (d : Dev) (p : Peer) (m : Message) :
    (Dev.respond d p m).without ps = d.without ps := by
  unfold Dev.respond
  repeat' first
    | with_reducible rfl
    | simp only [Dev.modInv_without, Dev.sendMessage_without, h0, h1, h2, h3, h4, h5, h6, h7, h8, h9, h10]
    | split

theorem Dev.chuteMapWrite_without {ps : List Part} (h0 : Part.chutes ∈ ps) (h1 : Part.inv ∈ ps) (d : Dev) (h : Nat) (map :
    Nat) :
    (Dev.chuteMapWrite d h map).without ps = d.without ps := by
  unfold Dev.chuteMapWrite
  repeat' first
    | with_reducible rfl
    | simp only [Dev.setBase_without, Dev.chuteChanged_without, h0, h1]
    | split

theorem Dev.derate_without {ps : List Part} (h0 : Part.crates ∈ ps) (h1 : Part.inv ∈ ps) (d : Dev) (n : Nat) (v : Nat) :
    (Dev.derate d n v).without ps = d.without ps := by
  unfold Dev.derate
  repeat' first
    | with_reducible rfl
    | simp only [Dev.setBase_without, Dev.derated_without, h0, h1]
    | split

theorem Dev.remap_without {ps : List Part} (h0 : Part.crates ∈ ps) (h1 : Part.log ∈ ps) (h2 : Part.inv ∈ ps) (h3 :
    Part.tele ∈ ps) (h4 : Part.contexts ∈ ps) (h5 : Part.shadows ∈ ps) (d : Dev) (n : Nat) (t : Nat) :
    (Dev.remap d n t).without ps = d.without ps := by
  unfold Dev.remap
  repeat' first
    | with_reducible rfl
    | simp only [Dev.setBase_without, Dev.remapApply_without, h0, h1, h2, h3, h4, h5]
    | split

theorem Dev.flowContextWrite_without {ps : List Part} (h0 : Part.crates ∈ ps) (h1 : Part.flows ∈ ps) (d : Dev) (index :
    Nat) (value : Nat) :
    (Dev.flowContextWrite d index value).without ps = d.without ps := by
  unfold Dev.flowContextWrite
  repeat' first
    | with_reducible rfl
    | simp only [Dev.flowWrite_without, h0, h1]
    | split

theorem Dev.spareCmd_without {ps : List Part} (h0 : Part.modules ∈ ps) (d : Dev) (m : Nat) (k : Nat) :
    (Dev.spareCmd d m k).without ps = d.without ps := by
  unfold Dev.spareCmd
  repeat' first
    | with_reducible rfl
    | simp only [Dev.spareCommand_without, h0]
    | split

theorem Dev.returnCmd_without {ps : List Part} (h0 : Part.lanes ∈ ps) (h1 : Part.ports ∈ ps) (h2 : Part.crates ∈ ps) (h3 :
    Part.hatches ∈ ps) (h4 : Part.modules ∈ ps) (h5 : Part.log ∈ ps) (h6 : Part.tele ∈ ps) (h7 : Part.held ∈ ps) (h8 :
    Part.net ∈ ps) (d : Dev) (m : Nat) (k : Nat) :
    (Dev.returnCmd d m k).without ps = d.without ps := by
  unfold Dev.returnCmd
  repeat' first
    | with_reducible rfl
    | simp only [Dev.returnCommand_without, h0, h1, h2, h3, h4, h5, h6, h7, h8]
    | split

theorem lifeRequest_without {ps : List Part} (h0 : Part.log ∈ ps) (h1 : Part.inv ∈ ps) (h2 : Part.tele ∈ ps) (v : Nv) (d :
    Dev) (session : Nat) (x : Nat) (step : Nat) :
    (lifeRequest v d session x step).2.without ps = d.without ps := by
  unfold lifeRequest
  repeat' first
    | with_reducible rfl
    | simp only [Dev.refuseCommit_without, sealCommit_without, h0, h1, h2]
    | split
    | rw [Dev.refuseCommit_without_of h0 h1 h2 (by assumption)]
    | (rename_i k9; rw [Dev.refuseCommit_without_of h0 h1 h2 k9])
    | (rename_i k9 _; rw [Dev.refuseCommit_without_of h0 h1 h2 k9])
    | (rename_i k9 _ _; rw [Dev.refuseCommit_without_of h0 h1 h2 k9])
    | (rename_i k9 _ _ _; rw [Dev.refuseCommit_without_of h0 h1 h2 k9])

end Sys2Proof.Machine
end

