-- ==== Sys2Proof/WellFormed.lean ====
section
/-! DEFINITION. Which commands are well formed: every operand in the range that the manual's tables give it. No meaning tests
it: a command outside it is one that the hardware cannot be given. -/

namespace Sys2Proof

/-- A lane number (R8). -/
def laneOk (l : Nat) : Bool := decide (l < 1024)

/-- A signed value of a width in bits (R5). -/
def signedOk (w : Nat) (v : Int) : Bool := decide (-(2 ^ (w - 1)) ≤ v ∧ v < 2 ^ (w - 1))

/-- The base header's fields by their widths (Table 03-1). -/
def Hdr.wf (h : Hdr) : Bool :=
  decide (h.version < 16 ∧ h.tc < 8 ∧ h.rsv1 < 32 ∧ h.opcode < 256 ∧ h.rsv3 < 128) &&
  decide (h.dst < 2 ^ 24 ∧ h.src < 2 ^ 24 ∧ h.rsv10 < 8 ∧ h.len < 8192 ∧ h.seq < 65536 ∧ h.ack < 65536) &&
  decide (h.corr < 2 ^ 32 ∧ h.pcheck < 2 ^ 64 ∧ h.hcheck < 2 ^ 32)

/-- The collective extension's fields by their widths (Table 03-2). -/
def Ext.wf (e : Ext) : Bool :=
  decide (e.ctx < 2 ^ 24 ∧ e.gen < 256 ∧ e.chunk < 2 ^ 32 ∧ e.phase < 16 ∧ e.member < 2 ^ 20 ∧ e.alive < 65536) &&
  decide (e.fmt < 16 ∧ e.rsv45 < 4 ∧ e.rsv46 < 4 ∧ e.count < 2 ^ 14)

/-- A MAC header: two addresses, at most two VLAN tags of a TPID of R45, an EtherType. -/
def MacHdr.wf (m : MacHdr) : Bool :=
  decide (m.dst < 2 ^ 48 ∧ m.src < 2 ^ 48 ∧ m.tags.length ≤ 2 ∧ 0x600 ≤ m.ether ∧ m.ether < 65536 ∧ m.ether ≠ 0x8100 ∧
    m.ether ≠ 0x88A8) &&
  m.tags.all (fun t => decide (t / 65536 = 0x8100 ∨ t / 65536 = 0x88A8))

/-- A frame's fields. The payload of a Swent frame is what its header says, less what a frame cut short lacks; pad stands
behind a whole payload only (Table 03-1, R53). -/
def Frame.wf (f : Frame) : Bool :=
  f.hdr.wf && f.ext.all Ext.wf && f.mac.all MacHdr.wf && (f.mac.isSome || !f.raw) &&
  decide (f.payload.length + f.pad.length < 65536) &&
  (f.raw || decide (f.payload.length ≤ f.hdr.len ∧ (f.payload.length < f.hdr.len → f.pad = [])))

/-- An arbiter and one of its requesters (Table 04-6, R245). -/
def Arbiter.wf : Arbiter → Bool
  | .egress lane requester => laneOk lane && decide (requester < 17)
  | .larderWrite crate requester => decide (crate < 128 ∧ requester < 10)
  | .router crate requester => decide (crate < 128 ∧ requester < 25)
  | .larderRead crate requester => decide (crate < 128 ∧ requester < 128)
  | .bridge row direction requester => decide (row < 8 ∧ direction < 2 ∧ requester < 8)
  | .cellar stack requester => decide (stack < 12 ∧ requester < 67)

/-- The lane of an arbiter that stands at one. -/
def Arbiter.lanes : Arbiter → List Nat
  | .egress lane _ => [lane]
  | .larderWrite _ _ => []
  | .router _ _ => []
  | .larderRead _ _ => []
  | .bridge _ _ _ => []
  | .cellar _ _ => []

theorem Arbiter.lanes_lt (a : Arbiter) (h : a.wf = true) : ∀ l ∈ a.lanes, l < 1024 := by
  cases a <;> simp_all [Arbiter.wf, Arbiter.lanes, laneOk]

theorem Arbiter.all_lanes_lt (a : Option Arbiter) (h : a.all Arbiter.wf = true) : ∀ l ∈ a.toList.flatMap Arbiter.lanes, l < 1024 := by
  cases a with
  | none => intro l hl; simp at hl
  | some x => intro l hl; exact Arbiter.lanes_lt x (by simpa using h) l (by simpa using hl)

/-- What a burst holds. -/
def CellarHit.wf : CellarHit → Bool
  | .free => true
  | .frame _ => true
  | .replay lane => laneOk lane

/-- The lane of a burst of a replay buffer. -/
def CellarHit.lanes : CellarHit → List Nat
  | .free => []
  | .frame _ => []
  | .replay lane => [lane]

theorem CellarHit.lanes_lt (a : CellarHit) (h : a.wf = true) : ∀ l ∈ a.lanes, l < 1024 := by
  cases a <;> simp_all [CellarHit.wf, CellarHit.lanes, laneOk]

/-- A verification's readings, as 16-bit signed values. -/
def Tones.wf (t : Tones) : Bool := signedOk 16 t.own && signedOk 16 t.other && signedOk 16 t.noise

/-- An image slot's header and digest (Table 15-3). -/
def ImageSlot.wf (s : ImageSlot) : Bool := decide (s.header < 2 ^ 4096 ∧ s.bodySm3 < 2 ^ 256)

/-- A write of the flash: slots, and bytes of the firmware data (Table 15-2). -/
def FlashWrite.wf (w : FlashWrite) : Bool :=
  w.slotA.all ImageSlot.wf && w.slotB.all ImageSlot.wf && w.data.all (fun p => decide (p.1 < 2 ^ 32 ∧ p.2 < 256))

/-- A message's way and header (Table 14-8). -/
def Peer.wf (p : Peer) : Bool :=
  decide (p.src < 2 ^ 24 ∧ p.session < 65536 ∧ p.version < 16 ∧ p.tag < 65536 ∧ p.target < 2 ^ 64) && p.lane.all laneOk

/-- An item of a READ: an index and a subindex (R302). -/
def ReadItem.wf (r : ReadItem) : Bool := decide (r.index < 65536 ∧ r.sub < 256)

/-- An item of a WRITE: its value fits the length it carries (Table 14-9). -/
def WriteItem.wf (w : WriteItem) : Bool := decide (w.index < 65536 ∧ w.sub < 256 ∧ w.len < 65536 ∧ w.value < 256 ^ w.len)

/-- A message type that Table 14-9 does not list as a request. -/
def otherType (t : Nat) : Bool := decide (t < 256 ∧ ¬ (1 ≤ t ∧ t ≤ 7))

/-- A request's body: at most 1,023 items (Table 14-8). -/
def Request.wf : Request → Bool
  | .read items => decide (items.length < 1024) && items.all ReadItem.wf
  | .write tid items => decide (tid < 65536 ∧ items.length < 1024) && items.all WriteItem.wf
  | .open_ => true
  | .commit tid step => decide (tid < 65536 ∧ step < 2 ^ 64)
  | .abort tid => decide (tid < 65536)
  | .cancel step => decide (step < 2 ^ 64)
  | .status => true
  | .other type => otherType type


/-- Every operand of a command lies in the range the manual gives it. -/
def Instr.wf : Instr → Bool
  | .powerUp => true
  | .powerLoss => true
  | .railOutOfRange rail => decide (rail < 9)
  | .railRecovery missing failed bad => missing.all (fun c => decide (c < 2)) && decide (failed < 2 ^ 12) && decide (bad < 8)
  | .coldReset lowNs => decide (lowNs < 2 ^ 64)
  | .boot missing failed nv => missing.all (fun c => decide (c < 2)) && decide (failed < 2 ^ 12) && decide (nv.bad < 8) && nv.wrote.wf
  | .coldResetRequest x => decide (x < 2 ^ 32)
  | .wipeComplete => true
  | .imageLoaded us => decide (us < 2 ^ 32)
  | .inventoryServiceReady => true
  | .refclkLost c => decide (c < 2)
  | .refclkRestored failed bad => decide (failed < 2 ^ 12) && decide (bad < 8)
  | .thermtrip => true
  | .powerMeasurement watts rails => decide (watts < 65536) && decide (rails.length = 9) && rails.all (fun v => decide (v < 2 ^ 32))
  | .powerCapRaise => true
  | .hotSpotReading n temp => decide (n < 128) && decide (temp < 65536)
  | .thermalFrequencyRaise n => decide (n < 128)
  | .ppsInEdge t => decide (t < 2 ^ 80)
  | .ppsOutPulse => true
  | .laserModuleInserted m => decide (m < 16)
  | .laserModuleRemoved m => decide (m < 16)
  | .pcsLockGained l => decide (l < 1024)
  | .pcsLockLost l => decide (l < 1024)
  | .fecAlignmentTimeout l => decide (l < 1024)
  | .hello l f fcs t => decide (l < 1024) && f.wf && decide (fcs < 2 ^ 32) && decide (t < 2 ^ 80)
  | .helloSend t => decide (t < 2 ^ 80)
  | .link l f fcs t => decide (l < 1024) && f.wf && decide (fcs < 2 ^ 32) && decide (t < 2 ^ 80)
  | .linkSend l t => decide (l < 1024) && decide (t < 2 ^ 80)
  | .lnack l f fcs t => decide (l < 1024) && f.wf && decide (fcs < 2 ^ 32) && decide (t < 2 ^ 80)
  | .lnackSend l t => decide (l < 1024) && decide (t < 2 ^ 80)
  | .step l f fcs t => decide (l < 1024) && f.wf && decide (fcs < 2 ^ 32) && decide (t < 2 ^ 80)
  | .stepSend l t => decide (l < 1024) && decide (t < 2 ^ 80)
  | .data l f t ecc => decide (l < 1024) && f.wf && decide (t < 2 ^ 80) && decide (ecc < 3)
  | .contrib l f fcs p => decide (l < 1024) && f.wf && decide (fcs < 2 ^ 32) && decide (p.at_ < 2 ^ 80) && decide (p.ecc < 3) && p.cut.all Arbiter.wf
  | .result l f t => decide (l < 1024) && f.wf && decide (t < 2 ^ 80)
  | .cnack l f fcs t => decide (l < 1024) && f.wf && decide (fcs < 2 ^ 32) && decide (t < 2 ^ 80)
  | .mgmt l f fcs t => decide (l < 1024) && f.wf && decide (fcs < 2 ^ 32) && decide (t < 2 ^ 80)
  | .ptpFrame l f e => decide (l < 1024) && f.wf && decide (e.fcs < 2 ^ 32) && decide (e.at_ < 2 ^ 80)
  | .foreignFrame l f e => decide (l < 1024) && f.wf && decide (e.fcs < 2 ^ 32) && decide (e.at_ < 2 ^ 80)
  | .frameTail l fcs t => decide (l < 1024) && decide (fcs < 2 ^ 32) && decide (t < 2 ^ 80)
  | .creditReportLate l => decide (l < 1024)
  | .acknowledgementDeadline l => decide (l < 1024)
  | .replay l t => decide (l < 1024) && decide (t < 2 ^ 80)
  | .laneLost l => decide (l < 1024)
  | .absenceTimeout p => decide (p < 1024)
  | .pushArrival l => decide (l < 1024)
  | .descriptor l => decide (l < 1024)
  | .deferReply c => decide (c < 128)
  | .freeEntryAnnouncement egress holder => decide (egress < 128) && decide (holder < 128)
  | .schedulerSelection l => decide (l < 1024)
  | .pull l ecc => decide (l < 1024) && decide (ecc < 3)
  | .frameTransmissionStart l t => decide (l < 1024) && decide (t < 2 ^ 80)
  | .frameTransmissionEnd l => decide (l < 1024)
  | .release lane _ => lane.all laneOk
  | .frameRecordRelease c => decide (c < 128)
  | .multicastDescriptor c => decide (c < 128)
  | .reply c => decide (c < 128)
  | .memberAbsentNotice n => decide (n < 128)
  | .openMapChange c l => decide (c < 128) && decide (l < 1024)
  | .wormCut a _ => a.wf
  | .prepareVersion v => decide (v < 2)
  | .flipToVersion v => decide (v < 2)
  | .versionRetirement => true
  | .shaperRefill l t => decide (l < 1024) && decide (t < 2 ^ 80)
  | .flowContextFetchDone n index => decide (n < 128) && decide (index < 2 ^ 22)
  | .flowContextWrite index value => decide (index < 2 ^ 22) && decide (value < 2 ^ 512)
  | .install record => decide (record < 2 ^ 4096)
  | .arm ctx gen => decide (ctx < 2 ^ 24) && decide (gen < 256)
  | .reset ctx gen => decide (ctx < 2 ^ 24) && decide (gen < 256)
  | .retirePark ctx => decide (ctx < 2 ^ 24)
  | .retireFree ctx => decide (ctx < 2 ^ 24)
  | .holdTimeExpiry n => decide (n < 128)
  | .stragglerTimeout ctx pos group => decide (ctx < 2 ^ 24) && decide (pos < 128) && decide (group < 2 ^ 17)
  | .resultWritten ctx pos g => decide (ctx < 2 ^ 24) && decide (pos < 128) && decide (g.group < 2 ^ 17)
  | .upwardContributionTimeout ctx gen chunk => decide (ctx < 2 ^ 24) && decide (gen < 256) && decide (chunk < 2 ^ 32)
  | .planSwitch => true
  | .planOverrideForceA ctx => decide (ctx < 2 ^ 24)
  | .planOverrideForceB ctx => decide (ctx < 2 ^ 24)
  | .planOverrideReturn ctx => decide (ctx < 2 ^ 24)
  | .combinerDerate n v => decide (n < 128) && decide (v < 256)
  | .combinerRemap n target => decide (n < 128) && decide (target < 256)
  | .remapGroupMove ctx pos group => decide (ctx < 2 ^ 24) && decide (pos < 128) && decide (group < 2 ^ 17)
  | .engineAcknowledgement ctx pos group => decide (ctx < 2 ^ 24) && decide (pos < 128) && decide (group < 2 ^ 17)
  | .spillGroupClearDone ctx pos group => decide (ctx < 2 ^ 24) && decide (pos < 128) && decide (group < 2 ^ 17)
  | .shadowCopy ctx pos group => decide (ctx < 2 ^ 24) && decide (pos < 128) && decide (group < 2 ^ 17)
  | .shadowCompletionNotice ctx pos group => decide (ctx < 2 ^ 24) && decide (pos < 128) && decide (group < 2 ^ 17)
  | .shadowValues ctx pos group operandError resultError => decide (ctx < 2 ^ 24) && decide (pos < 128) && decide (group < 2 ^ 17) && decide (operandError < 2 ^ 64) && decide (resultError < 2 ^ 64)
  | .shelfSlotZeroed ctx pos group => decide (ctx < 2 ^ 24) && decide (pos < 128) && decide (group < 2 ^ 17)
  | .crateHealthStateWrite n v => decide (n < 128) && decide (v < 256)
  | .scrub k ecc hit => decide (k < 12) && decide (ecc < 3) && hit.wf
  | .cellarUncorrectableError k addr hit => decide (k < 12) && decide (addr < 2 ^ 40) && hit.wf
  | .stackFailed k => decide (k < 12)
  | .loopSweepStart l _ => decide (l < 1024)
  | .sweepEnd l _ cands temp => decide (l < 1024) && cands.all (fun v => decide (v ≤ 48000)) && signedOk 16 temp
  | .acquireEnd l _ heater => decide (l < 1024) && decide (heater < 65536)
  | .verifyEnd l _ tones temp => decide (l < 1024) && tones.wf && signedOk 16 temp
  | .trackUpdate l _ feedback _ => decide (l < 1024) && signedOk 32 feedback
  | .ringLostLock l _ => decide (l < 1024)
  | .reverification l _ => decide (l < 1024)
  | .reverificationEnd l _ tones temp => decide (l < 1024) && tones.wf && signedOk 16 temp
  | .lightLost l _ => decide (l < 1024)
  | .lightReturned l _ => decide (l < 1024)
  | .holdLimitExpiry l _ => decide (l < 1024)
  | .faultRetry l _ => decide (l < 1024)
  | .activityWord n power => decide (n < 128) && decide (power < 65536)
  | .laserChannelFailed m k => decide (m < 16) && decide (k < 8)
  | .sparing m => decide (m < 16)
  | .spareTuned m => decide (m < 16)
  | .selectorVerified m => decide (m < 16)
  | .spareCommandSpare m k => decide (m < 16) && decide (k < 8)
  | .spareCommandReturn m k => decide (m < 16) && decide (k < 8)
  | .biasControl m powers eol => decide (m < 16) && decide (powers.length = 8) && powers.all (fun v => decide (v < 65536)) && decide (eol < 256)
  | .receivedPowerMeasurement l power => decide (l < 1024) && decide (power < 65536)
  | .errorMonitorInterval l codewords corrected uncorrectable bits received => decide (l < 1024) && decide (codewords < 2 ^ 64) && decide (corrected < 2 ^ 64) && decide (uncorrectable < 2 ^ 64) && decide (bits < 2 ^ 64) && decide (received < 2 ^ 64)
  | .hatchWarmUpTimeout h => decide (h < 8)
  | .chuteMapWrite h map => decide (h < 8) && decide (map < 2 ^ 128)
  | .chuteProgrammeStart h first again => decide (h < 8) && first.all (fun p => decide (p.1 < 256)) && again.all (fun p => decide (p.1 < 256))
  | .chuteProgrammeEnd h => decide (h < 8)
  | .chutePowerGoodRead h => decide (h < 8)
  | .stepBoundary => true
  | .timeSourceLost => true
  | .nextPpsSecond x => decide (x < 2 ^ 64)
  | .atticFrequencyAdjustment v => signedOk 32 v
  | .atticPhaseAdjustment v => signedOk 64 v
  | .timestampQueueRead n => decide (n < 128)
  | .atticSend f lane stamp insert => f.wf && lane.all laneOk && stamp.all (fun v => decide (v < 65536)) && insert.all (fun v => decide (v < 65536))
  | .read peer items => peer.wf && decide (items.length < 1024) && items.all ReadItem.wf
  | .write peer tid items => peer.wf && decide (tid < 65536) && decide (items.length < 1024) && items.all WriteItem.wf
  | .entryWrite peer tid item => peer.wf && decide (tid < 65536) && item.wf
  | .openTransaction peer => peer.wf
  | .commit peer tid x => peer.wf && decide (tid < 65536) && decide (x < 2 ^ 64)
  | .abort peer tid => peer.wf && decide (tid < 65536)
  | .cancel peer x => peer.wf && decide (x < 2 ^ 64)
  | .status peer => peer.wf
  | .unknownMessageType peer type => peer.wf && otherType type
  | .transactionExpiry id => decide (id < 65536)
  | .commitApply bad => decide (bad < 256)
  | .quiesceEntryInForce index sub crate => decide (index < 65536) && decide (sub < 256) && decide (crate < 128)
  | .coldValueStore => true
  | .init src lane key ra id target => decide (src < 2 ^ 24) && lane.all laneOk && decide (key < 2 ^ 512) && decide (ra < 2 ^ 512) && decide (id < 2 ^ 64) && decide (target < 2 ^ 64)
  | .confirm id sa => decide (id < 65536) && decide (sa < 2 ^ 256)
  | .dataRecord src lane head body wrote => decide (src < 2 ^ 24) && lane.all laneOk && decide (head.length + body.length ≤ 4096) && wrote.wf
  | .close lane head body => lane.all laneOk && decide (head.length + body.length ≤ 4096)
  | .sessionIdleTimeout id => decide (id < 65536)
  | .watchdogService => true
  | .watchdogFirstExpiry => true
  | .watchdogSecondExpiry => true
  | .atticRestartRequest x => decide (x < 2 ^ 32)
  | .firmwareHalt => true
  | .atticMemoryWiped => true
  | .trialConfirm => true
  | .trialWindowExpiry => true
  | .lifeCycleRequest session value x => decide (session < 65536) && decide (value < 2 ^ 576) && decide (x < 2 ^ 64)
  | .lifeCycleTransition bad => decide (bad < 8)
  | .advanceSecurityVersion x _ => decide (x < 2 ^ 32)
  | .revokeFerestumKeySlot k _ => decide (k < 256)
  | .attestationRequest nonce => decide (nonce < 2 ^ 256)
  | .attestationReportReady => true
  | .acknowledge q => decide (q < 2 ^ 32)
  | .noticeSubscription session v => decide (session < 65536) && decide (v < 256)
  | .notice session => decide (session < 65536)
  | .portGroupReset n => decide (n < 128)
  | .arbiterRecordClearAll => true
  | .arbiterStalledFlagClear => true
  | .snapshot => true
  | .snapshotRecordComplete => true
  | .congestionMap => true
  | .namedSnapshotRequest k => decide (k < 2 ^ 64)
  | .congestionMapRequest y => decide (y < 2 ^ 64)
  | .telemetrySubscription session v => decide (session < 65536) && decide (v < 256)
  | .telemetry => true
  | .hatchSensorReading h temps => decide (h < 8) && decide (temps.length = 4) && temps.all (fun v => decide (v < 65536))
  | .laserModuleFault m => decide (m < 16)

/-- The lanes that a command's operands name. -/
def Instr.lanes : Instr → List Nat
  | .powerUp => []
  | .powerLoss => []
  | .railOutOfRange _ => []
  | .railRecovery _ _ _ => []
  | .coldReset _ => []
  | .boot _ _ _ => []
  | .coldResetRequest _ => []
  | .wipeComplete => []
  | .imageLoaded _ => []
  | .inventoryServiceReady => []
  | .refclkLost _ => []
  | .refclkRestored _ _ => []
  | .thermtrip => []
  | .powerMeasurement _ _ => []
  | .powerCapRaise => []
  | .hotSpotReading _ _ => []
  | .thermalFrequencyRaise _ => []
  | .ppsInEdge _ => []
  | .ppsOutPulse => []
  | .laserModuleInserted _ => []
  | .laserModuleRemoved _ => []
  | .pcsLockGained l => [l]
  | .pcsLockLost l => [l]
  | .fecAlignmentTimeout l => [l]
  | .hello l _ _ _ => [l]
  | .helloSend _ => []
  | .link l _ _ _ => [l]
  | .linkSend l _ => [l]
  | .lnack l _ _ _ => [l]
  | .lnackSend l _ => [l]
  | .step l _ _ _ => [l]
  | .stepSend l _ => [l]
  | .data l _ _ _ => [l]
  | .contrib l _ _ p => [l] ++ p.cut.toList.flatMap Arbiter.lanes
  | .result l _ _ => [l]
  | .cnack l _ _ _ => [l]
  | .mgmt l _ _ _ => [l]
  | .ptpFrame l _ _ => [l]
  | .foreignFrame l _ _ => [l]
  | .frameTail l _ _ => [l]
  | .creditReportLate l => [l]
  | .acknowledgementDeadline l => [l]
  | .replay l _ => [l]
  | .laneLost l => [l]
  | .absenceTimeout p => [p]
  | .pushArrival l => [l]
  | .descriptor l => [l]
  | .deferReply _ => []
  | .freeEntryAnnouncement _ _ => []
  | .schedulerSelection l => [l]
  | .pull l _ => [l]
  | .frameTransmissionStart l _ => [l]
  | .frameTransmissionEnd l => [l]
  | .release lane _ => lane.toList
  | .frameRecordRelease _ => []
  | .multicastDescriptor _ => []
  | .reply _ => []
  | .memberAbsentNotice _ => []
  | .openMapChange _ l => [l]
  | .wormCut a _ => a.lanes
  | .prepareVersion _ => []
  | .flipToVersion _ => []
  | .versionRetirement => []
  | .shaperRefill l _ => [l]
  | .flowContextFetchDone _ _ => []
  | .flowContextWrite _ _ => []
  | .install _ => []
  | .arm _ _ => []
  | .reset _ _ => []
  | .retirePark _ => []
  | .retireFree _ => []
  | .holdTimeExpiry _ => []
  | .stragglerTimeout _ _ _ => []
  | .resultWritten _ _ _ => []
  | .upwardContributionTimeout _ _ _ => []
  | .planSwitch => []
  | .planOverrideForceA _ => []
  | .planOverrideForceB _ => []
  | .planOverrideReturn _ => []
  | .combinerDerate _ _ => []
  | .combinerRemap _ _ => []
  | .remapGroupMove _ _ _ => []
  | .engineAcknowledgement _ _ _ => []
  | .spillGroupClearDone _ _ _ => []
  | .shadowCopy _ _ _ => []
  | .shadowCompletionNotice _ _ _ => []
  | .shadowValues _ _ _ _ _ => []
  | .shelfSlotZeroed _ _ _ => []
  | .crateHealthStateWrite _ _ => []
  | .scrub _ _ hit => hit.lanes
  | .cellarUncorrectableError _ _ hit => hit.lanes
  | .stackFailed _ => []
  | .loopSweepStart l _ => [l]
  | .sweepEnd l _ _ _ => [l]
  | .acquireEnd l _ _ => [l]
  | .verifyEnd l _ _ _ => [l]
  | .trackUpdate l _ _ _ => [l]
  | .ringLostLock l _ => [l]
  | .reverification l _ => [l]
  | .reverificationEnd l _ _ _ => [l]
  | .lightLost l _ => [l]
  | .lightReturned l _ => [l]
  | .holdLimitExpiry l _ => [l]
  | .faultRetry l _ => [l]
  | .activityWord _ _ => []
  | .laserChannelFailed _ _ => []
  | .sparing _ => []
  | .spareTuned _ => []
  | .selectorVerified _ => []
  | .spareCommandSpare _ _ => []
  | .spareCommandReturn _ _ => []
  | .biasControl _ _ _ => []
  | .receivedPowerMeasurement l _ => [l]
  | .errorMonitorInterval l _ _ _ _ _ => [l]
  | .hatchWarmUpTimeout _ => []
  | .chuteMapWrite _ _ => []
  | .chuteProgrammeStart _ _ _ => []
  | .chuteProgrammeEnd _ => []
  | .chutePowerGoodRead _ => []
  | .stepBoundary => []
  | .timeSourceLost => []
  | .nextPpsSecond _ => []
  | .atticFrequencyAdjustment _ => []
  | .atticPhaseAdjustment _ => []
  | .timestampQueueRead _ => []
  | .atticSend _ lane _ _ => lane.toList
  | .read peer _ => peer.lane.toList
  | .write peer _ _ => peer.lane.toList
  | .entryWrite peer _ _ => peer.lane.toList
  | .openTransaction peer => peer.lane.toList
  | .commit peer _ _ => peer.lane.toList
  | .abort peer _ => peer.lane.toList
  | .cancel peer _ => peer.lane.toList
  | .status peer => peer.lane.toList
  | .unknownMessageType peer _ => peer.lane.toList
  | .transactionExpiry _ => []
  | .commitApply _ => []
  | .quiesceEntryInForce _ _ _ => []
  | .coldValueStore => []
  | .init _ lane _ _ _ _ => lane.toList
  | .confirm _ _ => []
  | .dataRecord _ lane _ _ _ => lane.toList
  | .close lane _ _ => lane.toList
  | .sessionIdleTimeout _ => []
  | .watchdogService => []
  | .watchdogFirstExpiry => []
  | .watchdogSecondExpiry => []
  | .atticRestartRequest _ => []
  | .firmwareHalt => []
  | .atticMemoryWiped => []
  | .trialConfirm => []
  | .trialWindowExpiry => []
  | .lifeCycleRequest _ _ _ => []
  | .lifeCycleTransition _ => []
  | .advanceSecurityVersion _ _ => []
  | .revokeFerestumKeySlot _ _ => []
  | .attestationRequest _ => []
  | .attestationReportReady => []
  | .acknowledge _ => []
  | .noticeSubscription _ _ => []
  | .notice _ => []
  | .portGroupReset _ => []
  | .arbiterRecordClearAll => []
  | .arbiterStalledFlagClear => []
  | .snapshot => []
  | .snapshotRecordComplete => []
  | .congestionMap => []
  | .namedSnapshotRequest _ => []
  | .congestionMapRequest _ => []
  | .telemetrySubscription _ _ => []
  | .telemetry => []
  | .hatchSensorReading _ _ => []
  | .laserModuleFault _ => []

end Sys2Proof
end

