-- ==== Sys2Proof/Laws/PerInstr.lean ====
section
/-! SUPPORT. A law of every command: the lanes that a well-formed command names exist. -/

set_option Elab.async false
set_option linter.unusedSimpArgs false

namespace Sys2Proof.Laws

/-- A command that is well formed names only lanes of the device (R8). -/
def Lanes.Statement (i : Instr) : Prop := i.wf = true → ∀ l ∈ i.lanes, l < 1024

theorem Lanes.powerUp : Lanes.Statement (.powerUp) := by
  intro _ l hl; cases hl
theorem Lanes.powerLoss : Lanes.Statement (.powerLoss) := by
  intro _ l hl; cases hl
theorem Lanes.railOutOfRange (rail : Nat) : Lanes.Statement (.railOutOfRange rail) := by
  intro _ l hl; cases hl
theorem Lanes.railRecovery (missing : Option Nat) (failed : Nat) (bad : Nat) : Lanes.Statement (.railRecovery missing failed bad) := by
  intro _ l hl; cases hl
theorem Lanes.coldReset (lowNs : Nat) : Lanes.Statement (.coldReset lowNs) := by
  intro _ l hl; cases hl
theorem Lanes.boot (missing : Option Nat) (failed : Nat) (nv : BootNv) : Lanes.Statement (.boot missing failed nv) := by
  intro _ l hl; cases hl
theorem Lanes.coldResetRequest (x : Nat) : Lanes.Statement (.coldResetRequest x) := by
  intro _ l hl; cases hl
theorem Lanes.wipeComplete : Lanes.Statement (.wipeComplete) := by
  intro _ l hl; cases hl
theorem Lanes.imageLoaded (us : Nat) : Lanes.Statement (.imageLoaded us) := by
  intro _ l hl; cases hl
theorem Lanes.inventoryServiceReady : Lanes.Statement (.inventoryServiceReady) := by
  intro _ l hl; cases hl
theorem Lanes.refclkLost (c : Nat) : Lanes.Statement (.refclkLost c) := by
  intro _ l hl; cases hl
theorem Lanes.refclkRestored (failed : Nat) (bad : Nat) : Lanes.Statement (.refclkRestored failed bad) := by
  intro _ l hl; cases hl
theorem Lanes.thermtrip : Lanes.Statement (.thermtrip) := by
  intro _ l hl; cases hl
theorem Lanes.powerMeasurement (watts : Nat) (rails : List Nat) : Lanes.Statement (.powerMeasurement watts rails) := by
  intro _ l hl; cases hl
theorem Lanes.powerCapRaise : Lanes.Statement (.powerCapRaise) := by
  intro _ l hl; cases hl
theorem Lanes.hotSpotReading (n : Nat) (temp : Nat) : Lanes.Statement (.hotSpotReading n temp) := by
  intro _ l hl; cases hl
theorem Lanes.thermalFrequencyRaise (n : Nat) : Lanes.Statement (.thermalFrequencyRaise n) := by
  intro _ l hl; cases hl
theorem Lanes.ppsInEdge (t : FabricTime) : Lanes.Statement (.ppsInEdge t) := by
  intro _ l hl; cases hl
theorem Lanes.ppsOutPulse : Lanes.Statement (.ppsOutPulse) := by
  intro _ l hl; cases hl
theorem Lanes.laserModuleInserted (m : Nat) : Lanes.Statement (.laserModuleInserted m) := by
  intro _ l hl; cases hl
theorem Lanes.laserModuleRemoved (m : Nat) : Lanes.Statement (.laserModuleRemoved m) := by
  intro _ l hl; cases hl
theorem Lanes.pcsLockGained (l : Nat) : Lanes.Statement (.pcsLockGained l) := by
  intro h l hl
  simp_all [Instr.wf, Instr.lanes, laneOk]
theorem Lanes.pcsLockLost (l : Nat) : Lanes.Statement (.pcsLockLost l) := by
  intro h l hl
  simp_all [Instr.wf, Instr.lanes, laneOk]
theorem Lanes.fecAlignmentTimeout (l : Nat) : Lanes.Statement (.fecAlignmentTimeout l) := by
  intro h l hl
  simp_all [Instr.wf, Instr.lanes, laneOk]
theorem Lanes.hello (l : Nat) (f : Frame) (fcs : Nat) (t : FabricTime) : Lanes.Statement (.hello l f fcs t) := by
  intro h l hl
  simp_all [Instr.wf, Instr.lanes, laneOk]
theorem Lanes.helloSend (t : FabricTime) : Lanes.Statement (.helloSend t) := by
  intro _ l hl; cases hl
theorem Lanes.link (l : Nat) (f : Frame) (fcs : Nat) (t : FabricTime) : Lanes.Statement (.link l f fcs t) := by
  intro h l hl
  simp_all [Instr.wf, Instr.lanes, laneOk]
theorem Lanes.linkSend (l : Nat) (t : FabricTime) : Lanes.Statement (.linkSend l t) := by
  intro h l hl
  simp_all [Instr.wf, Instr.lanes, laneOk]
theorem Lanes.lnack (l : Nat) (f : Frame) (fcs : Nat) (t : FabricTime) : Lanes.Statement (.lnack l f fcs t) := by
  intro h l hl
  simp_all [Instr.wf, Instr.lanes, laneOk]
theorem Lanes.lnackSend (l : Nat) (t : FabricTime) : Lanes.Statement (.lnackSend l t) := by
  intro h l hl
  simp_all [Instr.wf, Instr.lanes, laneOk]
theorem Lanes.step (l : Nat) (f : Frame) (fcs : Nat) (t : FabricTime) : Lanes.Statement (.step l f fcs t) := by
  intro h l hl
  simp_all [Instr.wf, Instr.lanes, laneOk]
theorem Lanes.stepSend (l : Nat) (t : FabricTime) : Lanes.Statement (.stepSend l t) := by
  intro h l hl
  simp_all [Instr.wf, Instr.lanes, laneOk]
theorem Lanes.data (l : Nat) (f : Frame) (t : FabricTime) (ecc : Nat) : Lanes.Statement (.data l f t ecc) := by
  intro h l hl
  simp_all [Instr.wf, Instr.lanes, laneOk]
theorem Lanes.contrib (l : Nat) (f : Frame) (fcs : Nat) (p : Passage) : Lanes.Statement (.contrib l f fcs p) := by
  intro h l' hl
  simp only [Instr.wf, laneOk, Bool.and_eq_true, decide_eq_true_eq] at h
  simp only [Instr.lanes, List.mem_append, List.mem_singleton] at hl
  rcases hl with rfl | hl
  · simp_all
  · exact Arbiter.all_lanes_lt p.cut (by simp_all) l' hl
theorem Lanes.result (l : Nat) (f : Frame) (t : FabricTime) : Lanes.Statement (.result l f t) := by
  intro h l hl
  simp_all [Instr.wf, Instr.lanes, laneOk]
theorem Lanes.cnack (l : Nat) (f : Frame) (fcs : Nat) (t : FabricTime) : Lanes.Statement (.cnack l f fcs t) := by
  intro h l hl
  simp_all [Instr.wf, Instr.lanes, laneOk]
theorem Lanes.mgmt (l : Nat) (f : Frame) (fcs : Nat) (t : FabricTime) : Lanes.Statement (.mgmt l f fcs t) := by
  intro h l hl
  simp_all [Instr.wf, Instr.lanes, laneOk]
theorem Lanes.ptpFrame (l : Nat) (f : Frame) (e : Arrived) : Lanes.Statement (.ptpFrame l f e) := by
  intro h l hl
  simp_all [Instr.wf, Instr.lanes, laneOk]
theorem Lanes.foreignFrame (l : Nat) (f : Frame) (e : Arrived) : Lanes.Statement (.foreignFrame l f e) := by
  intro h l hl
  simp_all [Instr.wf, Instr.lanes, laneOk]
theorem Lanes.frameTail (l : Nat) (fcs : Nat) (t : FabricTime) : Lanes.Statement (.frameTail l fcs t) := by
  intro h l hl
  simp_all [Instr.wf, Instr.lanes, laneOk]
theorem Lanes.creditReportLate (l : Nat) : Lanes.Statement (.creditReportLate l) := by
  intro h l hl
  simp_all [Instr.wf, Instr.lanes, laneOk]
theorem Lanes.acknowledgementDeadline (l : Nat) : Lanes.Statement (.acknowledgementDeadline l) := by
  intro h l hl
  simp_all [Instr.wf, Instr.lanes, laneOk]
theorem Lanes.replay (l : Nat) (t : FabricTime) : Lanes.Statement (.replay l t) := by
  intro h l hl
  simp_all [Instr.wf, Instr.lanes, laneOk]
theorem Lanes.laneLost (l : Nat) : Lanes.Statement (.laneLost l) := by
  intro h l hl
  simp_all [Instr.wf, Instr.lanes, laneOk]
theorem Lanes.absenceTimeout (p : Nat) : Lanes.Statement (.absenceTimeout p) := by
  intro h l hl
  simp_all [Instr.wf, Instr.lanes, laneOk]
theorem Lanes.pushArrival (l : Nat) : Lanes.Statement (.pushArrival l) := by
  intro h l hl
  simp_all [Instr.wf, Instr.lanes, laneOk]
theorem Lanes.descriptor (l : Nat) : Lanes.Statement (.descriptor l) := by
  intro h l hl
  simp_all [Instr.wf, Instr.lanes, laneOk]
theorem Lanes.deferReply (c : Nat) : Lanes.Statement (.deferReply c) := by
  intro _ l hl; cases hl
theorem Lanes.freeEntryAnnouncement (egress : Nat) (holder : Nat) : Lanes.Statement (.freeEntryAnnouncement egress holder) := by
  intro _ l hl; cases hl
theorem Lanes.schedulerSelection (l : Nat) : Lanes.Statement (.schedulerSelection l) := by
  intro h l hl
  simp_all [Instr.wf, Instr.lanes, laneOk]
theorem Lanes.pull (l : Nat) (ecc : Nat) : Lanes.Statement (.pull l ecc) := by
  intro h l hl
  simp_all [Instr.wf, Instr.lanes, laneOk]
theorem Lanes.frameTransmissionStart (l : Nat) (t : FabricTime) : Lanes.Statement (.frameTransmissionStart l t) := by
  intro h l hl
  simp_all [Instr.wf, Instr.lanes, laneOk]
theorem Lanes.frameTransmissionEnd (l : Nat) : Lanes.Statement (.frameTransmissionEnd l) := by
  intro h l hl
  simp_all [Instr.wf, Instr.lanes, laneOk]
theorem Lanes.release (lane : Option Nat) (held : Nat) : Lanes.Statement (.release lane held) := by
  intro h l hl
  simp_all [Instr.wf, Instr.lanes, laneOk]
theorem Lanes.frameRecordRelease (c : Nat) : Lanes.Statement (.frameRecordRelease c) := by
  intro _ l hl; cases hl
theorem Lanes.multicastDescriptor (c : Nat) : Lanes.Statement (.multicastDescriptor c) := by
  intro _ l hl; cases hl
theorem Lanes.reply (c : Nat) : Lanes.Statement (.reply c) := by
  intro _ l hl; cases hl
theorem Lanes.memberAbsentNotice (n : Nat) : Lanes.Statement (.memberAbsentNotice n) := by
  intro _ l hl; cases hl
theorem Lanes.openMapChange (c : Nat) (l : Nat) : Lanes.Statement (.openMapChange c l) := by
  intro h l hl
  simp_all [Instr.wf, Instr.lanes, laneOk]
theorem Lanes.wormCut (a : Arbiter) (held : Nat) : Lanes.Statement (.wormCut a held) := by
  intro h l hl
  refine Arbiter.lanes_lt a ?_ l hl
  simp_all [Instr.wf]
theorem Lanes.prepareVersion (v : Nat) : Lanes.Statement (.prepareVersion v) := by
  intro _ l hl; cases hl
theorem Lanes.flipToVersion (v : Nat) : Lanes.Statement (.flipToVersion v) := by
  intro _ l hl; cases hl
theorem Lanes.versionRetirement : Lanes.Statement (.versionRetirement) := by
  intro _ l hl; cases hl
theorem Lanes.shaperRefill (l : Nat) (t : FabricTime) : Lanes.Statement (.shaperRefill l t) := by
  intro h l hl
  simp_all [Instr.wf, Instr.lanes, laneOk]
theorem Lanes.flowContextFetchDone (n : Nat) (index : Nat) : Lanes.Statement (.flowContextFetchDone n index) := by
  intro _ l hl; cases hl
theorem Lanes.flowContextWrite (index : Nat) (value : Nat) : Lanes.Statement (.flowContextWrite index value) := by
  intro _ l hl; cases hl
theorem Lanes.install (record : Nat) : Lanes.Statement (.install record) := by
  intro _ l hl; cases hl
theorem Lanes.arm (ctx : Nat) (gen : Nat) : Lanes.Statement (.arm ctx gen) := by
  intro _ l hl; cases hl
theorem Lanes.reset (ctx : Nat) (gen : Nat) : Lanes.Statement (.reset ctx gen) := by
  intro _ l hl; cases hl
theorem Lanes.retirePark (ctx : Nat) : Lanes.Statement (.retirePark ctx) := by
  intro _ l hl; cases hl
theorem Lanes.retireFree (ctx : Nat) : Lanes.Statement (.retireFree ctx) := by
  intro _ l hl; cases hl
theorem Lanes.holdTimeExpiry (n : Nat) : Lanes.Statement (.holdTimeExpiry n) := by
  intro _ l hl; cases hl
theorem Lanes.stragglerTimeout (ctx : Nat) (pos : Nat) (group : Nat) : Lanes.Statement (.stragglerTimeout ctx pos group) := by
  intro _ l hl; cases hl
theorem Lanes.resultWritten (ctx : Nat) (pos : Nat) (g : Drained) : Lanes.Statement (.resultWritten ctx pos g) := by
  intro _ l hl; cases hl
theorem Lanes.upwardContributionTimeout (ctx : Nat) (gen : Nat) (chunk : Nat) : Lanes.Statement (.upwardContributionTimeout ctx gen chunk) := by
  intro _ l hl; cases hl
theorem Lanes.planSwitch : Lanes.Statement (.planSwitch) := by
  intro _ l hl; cases hl
theorem Lanes.planOverrideForceA (ctx : Nat) : Lanes.Statement (.planOverrideForceA ctx) := by
  intro _ l hl; cases hl
theorem Lanes.planOverrideForceB (ctx : Nat) : Lanes.Statement (.planOverrideForceB ctx) := by
  intro _ l hl; cases hl
theorem Lanes.planOverrideReturn (ctx : Nat) : Lanes.Statement (.planOverrideReturn ctx) := by
  intro _ l hl; cases hl
theorem Lanes.combinerDerate (n : Nat) (v : Nat) : Lanes.Statement (.combinerDerate n v) := by
  intro _ l hl; cases hl
theorem Lanes.combinerRemap (n : Nat) (target : Nat) : Lanes.Statement (.combinerRemap n target) := by
  intro _ l hl; cases hl
theorem Lanes.remapGroupMove (ctx : Nat) (pos : Nat) (group : Nat) : Lanes.Statement (.remapGroupMove ctx pos group) := by
  intro _ l hl; cases hl
theorem Lanes.engineAcknowledgement (ctx : Nat) (pos : Nat) (group : Nat) : Lanes.Statement (.engineAcknowledgement ctx pos group) := by
  intro _ l hl; cases hl
theorem Lanes.spillGroupClearDone (ctx : Nat) (pos : Nat) (group : Nat) : Lanes.Statement (.spillGroupClearDone ctx pos group) := by
  intro _ l hl; cases hl
theorem Lanes.shadowCopy (ctx : Nat) (pos : Nat) (group : Nat) : Lanes.Statement (.shadowCopy ctx pos group) := by
  intro _ l hl; cases hl
theorem Lanes.shadowCompletionNotice (ctx : Nat) (pos : Nat) (group : Nat) : Lanes.Statement (.shadowCompletionNotice ctx pos group) := by
  intro _ l hl; cases hl
theorem Lanes.shadowValues (ctx : Nat) (pos : Nat) (group : Nat) (operandError : Nat) (resultError : Nat) : Lanes.Statement (.shadowValues ctx pos group operandError resultError) := by
  intro _ l hl; cases hl
theorem Lanes.shelfSlotZeroed (ctx : Nat) (pos : Nat) (group : Nat) : Lanes.Statement (.shelfSlotZeroed ctx pos group) := by
  intro _ l hl; cases hl
theorem Lanes.crateHealthStateWrite (n : Nat) (v : Nat) : Lanes.Statement (.crateHealthStateWrite n v) := by
  intro _ l hl; cases hl
theorem Lanes.scrub (k : Nat) (ecc : Nat) (hit : CellarHit) : Lanes.Statement (.scrub k ecc hit) := by
  intro h l hl
  refine CellarHit.lanes_lt hit ?_ l hl
  simp_all [Instr.wf]
theorem Lanes.cellarUncorrectableError (k : Nat) (addr : Nat) (hit : CellarHit) : Lanes.Statement (.cellarUncorrectableError k addr hit) := by
  intro h l hl
  refine CellarHit.lanes_lt hit ?_ l hl
  simp_all [Instr.wf]
theorem Lanes.stackFailed (k : Nat) : Lanes.Statement (.stackFailed k) := by
  intro _ l hl; cases hl
theorem Lanes.loopSweepStart (l : Nat) (drop : Bool) : Lanes.Statement (.loopSweepStart l drop) := by
  intro h l hl
  simp_all [Instr.wf, Instr.lanes, laneOk]
theorem Lanes.sweepEnd (l : Nat) (drop : Bool) (cands : List Nat) (temp : Int) : Lanes.Statement (.sweepEnd l drop cands temp) := by
  intro h l hl
  simp_all [Instr.wf, Instr.lanes, laneOk]
theorem Lanes.acquireEnd (l : Nat) (drop : Bool) (heater : Nat) : Lanes.Statement (.acquireEnd l drop heater) := by
  intro h l hl
  simp_all [Instr.wf, Instr.lanes, laneOk]
theorem Lanes.verifyEnd (l : Nat) (drop : Bool) (tones : Tones) (temp : Int) : Lanes.Statement (.verifyEnd l drop tones temp) := by
  intro h l hl
  simp_all [Instr.wf, Instr.lanes, laneOk]
theorem Lanes.trackUpdate (l : Nat) (drop : Bool) (feedback : Int) (detuned : Bool) : Lanes.Statement (.trackUpdate l drop feedback detuned) := by
  intro h l hl
  simp_all [Instr.wf, Instr.lanes, laneOk]
theorem Lanes.ringLostLock (l : Nat) (drop : Bool) : Lanes.Statement (.ringLostLock l drop) := by
  intro h l hl
  simp_all [Instr.wf, Instr.lanes, laneOk]
theorem Lanes.reverification (l : Nat) (drop : Bool) : Lanes.Statement (.reverification l drop) := by
  intro h l hl
  simp_all [Instr.wf, Instr.lanes, laneOk]
theorem Lanes.reverificationEnd (l : Nat) (drop : Bool) (tones : Tones) (temp : Int) : Lanes.Statement (.reverificationEnd l drop tones temp) := by
  intro h l hl
  simp_all [Instr.wf, Instr.lanes, laneOk]
theorem Lanes.lightLost (l : Nat) (drop : Bool) : Lanes.Statement (.lightLost l drop) := by
  intro h l hl
  simp_all [Instr.wf, Instr.lanes, laneOk]
theorem Lanes.lightReturned (l : Nat) (drop : Bool) : Lanes.Statement (.lightReturned l drop) := by
  intro h l hl
  simp_all [Instr.wf, Instr.lanes, laneOk]
theorem Lanes.holdLimitExpiry (l : Nat) (drop : Bool) : Lanes.Statement (.holdLimitExpiry l drop) := by
  intro h l hl
  simp_all [Instr.wf, Instr.lanes, laneOk]
theorem Lanes.faultRetry (l : Nat) (drop : Bool) : Lanes.Statement (.faultRetry l drop) := by
  intro h l hl
  simp_all [Instr.wf, Instr.lanes, laneOk]
theorem Lanes.activityWord (n : Nat) (power : Nat) : Lanes.Statement (.activityWord n power) := by
  intro _ l hl; cases hl
theorem Lanes.laserChannelFailed (m : Nat) (k : Nat) : Lanes.Statement (.laserChannelFailed m k) := by
  intro _ l hl; cases hl
theorem Lanes.sparing (m : Nat) : Lanes.Statement (.sparing m) := by
  intro _ l hl; cases hl
theorem Lanes.spareTuned (m : Nat) : Lanes.Statement (.spareTuned m) := by
  intro _ l hl; cases hl
theorem Lanes.selectorVerified (m : Nat) : Lanes.Statement (.selectorVerified m) := by
  intro _ l hl; cases hl
theorem Lanes.spareCommandSpare (m : Nat) (k : Nat) : Lanes.Statement (.spareCommandSpare m k) := by
  intro _ l hl; cases hl
theorem Lanes.spareCommandReturn (m : Nat) (k : Nat) : Lanes.Statement (.spareCommandReturn m k) := by
  intro _ l hl; cases hl
theorem Lanes.biasControl (m : Nat) (powers : List Nat) (eol : Nat) : Lanes.Statement (.biasControl m powers eol) := by
  intro _ l hl; cases hl
theorem Lanes.receivedPowerMeasurement (l : Nat) (power : Nat) : Lanes.Statement (.receivedPowerMeasurement l power) := by
  intro h l hl
  simp_all [Instr.wf, Instr.lanes, laneOk]
theorem Lanes.errorMonitorInterval (l : Nat) (codewords : Nat) (corrected : Nat) (uncorrectable : Nat) (bits : Nat) (received : Nat) : Lanes.Statement (.errorMonitorInterval l codewords corrected uncorrectable bits received) := by
  intro h l hl
  simp_all [Instr.wf, Instr.lanes, laneOk]
theorem Lanes.hatchWarmUpTimeout (h : Nat) : Lanes.Statement (.hatchWarmUpTimeout h) := by
  intro _ l hl; cases hl
theorem Lanes.chuteMapWrite (h : Nat) (map : Nat) : Lanes.Statement (.chuteMapWrite h map) := by
  intro _ l hl; cases hl
theorem Lanes.chuteProgrammeStart (h : Nat) (first : List (Nat × Cell)) (again : List (Nat × Cell)) : Lanes.Statement (.chuteProgrammeStart h first again) := by
  intro _ l hl; cases hl
theorem Lanes.chuteProgrammeEnd (h : Nat) : Lanes.Statement (.chuteProgrammeEnd h) := by
  intro _ l hl; cases hl
theorem Lanes.chutePowerGoodRead (h : Nat) : Lanes.Statement (.chutePowerGoodRead h) := by
  intro _ l hl; cases hl
theorem Lanes.stepBoundary : Lanes.Statement (.stepBoundary) := by
  intro _ l hl; cases hl
theorem Lanes.timeSourceLost : Lanes.Statement (.timeSourceLost) := by
  intro _ l hl; cases hl
theorem Lanes.nextPpsSecond (x : Nat) : Lanes.Statement (.nextPpsSecond x) := by
  intro _ l hl; cases hl
theorem Lanes.atticFrequencyAdjustment (v : Int) : Lanes.Statement (.atticFrequencyAdjustment v) := by
  intro _ l hl; cases hl
theorem Lanes.atticPhaseAdjustment (v : Int) : Lanes.Statement (.atticPhaseAdjustment v) := by
  intro _ l hl; cases hl
theorem Lanes.timestampQueueRead (n : Nat) : Lanes.Statement (.timestampQueueRead n) := by
  intro _ l hl; cases hl
theorem Lanes.atticSend (f : Frame) (lane : Option Nat) (stamp : Option Nat) (insert : Option Nat) : Lanes.Statement (.atticSend f lane stamp insert) := by
  intro h l hl
  simp_all [Instr.wf, Instr.lanes, laneOk]
theorem Lanes.read (peer : Peer) (items : List ReadItem) : Lanes.Statement (.read peer items) := by
  intro h l hl
  simp_all [Instr.wf, Instr.lanes, laneOk, Peer.wf]
theorem Lanes.write (peer : Peer) (tid : Nat) (items : List WriteItem) : Lanes.Statement (.write peer tid items) := by
  intro h l hl
  simp_all [Instr.wf, Instr.lanes, laneOk, Peer.wf]
theorem Lanes.entryWrite (peer : Peer) (tid : Nat) (item : WriteItem) : Lanes.Statement (.entryWrite peer tid item) := by
  intro h l hl
  simp_all [Instr.wf, Instr.lanes, laneOk, Peer.wf]
theorem Lanes.openTransaction (peer : Peer) : Lanes.Statement (.openTransaction peer) := by
  intro h l hl
  simp_all [Instr.wf, Instr.lanes, laneOk, Peer.wf]
theorem Lanes.commit (peer : Peer) (tid : Nat) (x : Nat) : Lanes.Statement (.commit peer tid x) := by
  intro h l hl
  simp_all [Instr.wf, Instr.lanes, laneOk, Peer.wf]
theorem Lanes.abort (peer : Peer) (tid : Nat) : Lanes.Statement (.abort peer tid) := by
  intro h l hl
  simp_all [Instr.wf, Instr.lanes, laneOk, Peer.wf]
theorem Lanes.cancel (peer : Peer) (x : Nat) : Lanes.Statement (.cancel peer x) := by
  intro h l hl
  simp_all [Instr.wf, Instr.lanes, laneOk, Peer.wf]
theorem Lanes.status (peer : Peer) : Lanes.Statement (.status peer) := by
  intro h l hl
  simp_all [Instr.wf, Instr.lanes, laneOk, Peer.wf]
theorem Lanes.unknownMessageType (peer : Peer) (type : Nat) : Lanes.Statement (.unknownMessageType peer type) := by
  intro h l hl
  simp_all [Instr.wf, Instr.lanes, laneOk, Peer.wf]
theorem Lanes.transactionExpiry (id : Nat) : Lanes.Statement (.transactionExpiry id) := by
  intro _ l hl; cases hl
theorem Lanes.commitApply (bad : Nat) : Lanes.Statement (.commitApply bad) := by
  intro _ l hl; cases hl
theorem Lanes.quiesceEntryInForce (index : Nat) (sub : Nat) (crate : Nat) : Lanes.Statement (.quiesceEntryInForce index sub crate) := by
  intro _ l hl; cases hl
theorem Lanes.coldValueStore : Lanes.Statement (.coldValueStore) := by
  intro _ l hl; cases hl
theorem Lanes.init (src : Nat) (lane : Option Nat) (key : Nat) (ra : Nat) (id : Nat) (target : Nat) : Lanes.Statement (.init src lane key ra id target) := by
  intro h l hl
  simp_all [Instr.wf, Instr.lanes, laneOk]
theorem Lanes.confirm (id : Nat) (sa : Nat) : Lanes.Statement (.confirm id sa) := by
  intro _ l hl; cases hl
theorem Lanes.dataRecord (src : Nat) (lane : Option Nat) (head body : List Byte) (wrote : FlashWrite) : Lanes.Statement (.dataRecord src lane head body wrote) := by
  intro h l hl
  simp_all [Instr.wf, Instr.lanes, laneOk]
theorem Lanes.close (lane : Option Nat) (head body : List Byte) : Lanes.Statement (.close lane head body) := by
  intro h l hl
  simp_all [Instr.wf, Instr.lanes, laneOk]
theorem Lanes.sessionIdleTimeout (id : Nat) : Lanes.Statement (.sessionIdleTimeout id) := by
  intro _ l hl; cases hl
theorem Lanes.watchdogService : Lanes.Statement (.watchdogService) := by
  intro _ l hl; cases hl
theorem Lanes.watchdogFirstExpiry : Lanes.Statement (.watchdogFirstExpiry) := by
  intro _ l hl; cases hl
theorem Lanes.watchdogSecondExpiry : Lanes.Statement (.watchdogSecondExpiry) := by
  intro _ l hl; cases hl
theorem Lanes.atticRestartRequest (x : Nat) : Lanes.Statement (.atticRestartRequest x) := by
  intro _ l hl; cases hl
theorem Lanes.firmwareHalt : Lanes.Statement (.firmwareHalt) := by
  intro _ l hl; cases hl
theorem Lanes.atticMemoryWiped : Lanes.Statement (.atticMemoryWiped) := by
  intro _ l hl; cases hl
theorem Lanes.trialConfirm : Lanes.Statement (.trialConfirm) := by
  intro _ l hl; cases hl
theorem Lanes.trialWindowExpiry : Lanes.Statement (.trialWindowExpiry) := by
  intro _ l hl; cases hl
theorem Lanes.lifeCycleRequest (session : Nat) (value : Nat) (x : Nat) : Lanes.Statement (.lifeCycleRequest session value x) := by
  intro _ l hl; cases hl
theorem Lanes.lifeCycleTransition (bad : Nat) : Lanes.Statement (.lifeCycleTransition bad) := by
  intro _ l hl; cases hl
theorem Lanes.advanceSecurityVersion (x : Nat) (fails : Bool) : Lanes.Statement (.advanceSecurityVersion x fails) := by
  intro _ l hl; cases hl
theorem Lanes.revokeFerestumKeySlot (k : Nat) (fails : Bool) : Lanes.Statement (.revokeFerestumKeySlot k fails) := by
  intro _ l hl; cases hl
theorem Lanes.attestationRequest (nonce : Nat) : Lanes.Statement (.attestationRequest nonce) := by
  intro _ l hl; cases hl
theorem Lanes.attestationReportReady : Lanes.Statement (.attestationReportReady) := by
  intro _ l hl; cases hl
theorem Lanes.acknowledge (q : Nat) : Lanes.Statement (.acknowledge q) := by
  intro _ l hl; cases hl
theorem Lanes.noticeSubscription (session : Nat) (v : Nat) : Lanes.Statement (.noticeSubscription session v) := by
  intro _ l hl; cases hl
theorem Lanes.notice (session : Nat) : Lanes.Statement (.notice session) := by
  intro _ l hl; cases hl
theorem Lanes.portGroupReset (n : Nat) : Lanes.Statement (.portGroupReset n) := by
  intro _ l hl; cases hl
theorem Lanes.arbiterRecordClearAll : Lanes.Statement (.arbiterRecordClearAll) := by
  intro _ l hl; cases hl
theorem Lanes.arbiterStalledFlagClear : Lanes.Statement (.arbiterStalledFlagClear) := by
  intro _ l hl; cases hl
theorem Lanes.snapshot : Lanes.Statement (.snapshot) := by
  intro _ l hl; cases hl
theorem Lanes.snapshotRecordComplete : Lanes.Statement (.snapshotRecordComplete) := by
  intro _ l hl; cases hl
theorem Lanes.congestionMap : Lanes.Statement (.congestionMap) := by
  intro _ l hl; cases hl
theorem Lanes.namedSnapshotRequest (k : Nat) : Lanes.Statement (.namedSnapshotRequest k) := by
  intro _ l hl; cases hl
theorem Lanes.congestionMapRequest (y : Nat) : Lanes.Statement (.congestionMapRequest y) := by
  intro _ l hl; cases hl
theorem Lanes.telemetrySubscription (session : Nat) (v : Nat) : Lanes.Statement (.telemetrySubscription session v) := by
  intro _ l hl; cases hl
theorem Lanes.telemetry : Lanes.Statement (.telemetry) := by
  intro _ l hl; cases hl
theorem Lanes.hatchSensorReading (h : Nat) (temps : List Nat) : Lanes.Statement (.hatchSensorReading h temps) := by
  intro _ l hl; cases hl
theorem Lanes.laserModuleFault (m : Nat) : Lanes.Statement (.laserModuleFault m) := by
  intro _ l hl; cases hl

end Sys2Proof.Laws
end

