-- ==== Sys2Proof/Laws/Tab.lean ====
section
/-! SUPPORT. What the operations on sparse tables do: a read after a write, and the canonical form they keep. -/

set_option Elab.async false

namespace Sys2Proof.Machine

variable {α : Type}

theorem Tab.look_filter_ne (dflt : α) (n m : Nat) (l : List (Nat × α)) (h : m ≠ n) :
    Tab.look dflt (l.filter (fun p => decide (p.1 ≠ n))) m = Tab.look dflt l m := by
  induction l with
  | nil => rfl
  | cons p t ih =>
    obtain ⟨k, v⟩ := p
    by_cases hk : k = n
    · subst hk
      have : ¬ k = m := fun e => h e.symm
      simpa [Tab.look, this] using ih
    · by_cases hm : k = m
      · simp [Tab.look, hm, h]
      · simp [Tab.look, hk, hm]; simpa using ih

theorem Tab.look_filter_self (dflt : α) (n : Nat) (l : List (Nat × α)) :
    Tab.look dflt (l.filter (fun p => decide (p.1 ≠ n))) n = dflt := by
  induction l with
  | nil => rfl
  | cons p t ih =>
    obtain ⟨k, v⟩ := p
    by_cases hk : k = n <;> simp [Tab.look, hk] <;> simpa using ih

theorem Tab.look_ins (dflt : α) (n m : Nat) (x : α) (l : List (Nat × α)) (h : ∀ p ∈ l, p.1 ≠ n) :
    Tab.look dflt (Tab.ins n x l) m = if m = n then x else Tab.look dflt l m := by
  induction l with
  | nil => simp [Tab.ins, Tab.look, eq_comm]
  | cons p t ih =>
    obtain ⟨k, v⟩ := p
    have hk : k ≠ n := h (k, v) (by simp)
    have ht := ih (fun q hq => h q (by simp [hq]))
    unfold Tab.ins
    split
    · simp [Tab.look, eq_comm]
    · simp only [Tab.look, ht]
      split <;> simp_all

/-- A read after a write: the value written at its key, every other key as before. -/
theorem Tab.get_put [DecidableEq α] (dflt : α) (t : Tab α) (n m : Nat) (x : α) :
    (t.put dflt n x).get dflt m = if m = n then x else t.get dflt m := by
  unfold Tab.put Tab.get
  by_cases hx : x = dflt
  · by_cases hm : m = n
    · subst hm; simp only [hx, if_true]; exact Tab.look_filter_self _ _ _
    · simp only [hx, if_true, if_neg hm]; exact Tab.look_filter_ne _ _ _ _ hm
  · simp only [if_neg hx]
    rw [Tab.look_ins _ _ _ _ _ (by intro p hp; simpa using (List.mem_filter.mp hp).2)]
    split
    · rfl
    · rename_i hm; exact Tab.look_filter_ne _ _ _ _ hm

@[simp] theorem Tab.get_put_self [DecidableEq α] (dflt : α) (t : Tab α) (n : Nat) (x : α) :
    (t.put dflt n x).get dflt n = x := by simp [Tab.get_put]

theorem Tab.get_put_ne [DecidableEq α] (dflt : α) (t : Tab α) {n m : Nat} (x : α) (h : m ≠ n) :
    (t.put dflt n x).get dflt m = t.get dflt m := by simp [Tab.get_put, h]

@[simp] theorem Tab.get_upd_self [DecidableEq α] (dflt : α) (t : Tab α) (n : Nat) (f : α → α) :
    (t.upd dflt n f).get dflt n = f (t.get dflt n) := by simp [Tab.upd]

theorem Tab.get_upd [DecidableEq α] (dflt : α) (t : Tab α) (n m : Nat) (f : α → α) :
    (t.upd dflt n f).get dflt m = if m = n then f (t.get dflt n) else t.get dflt m := by
  simp [Tab.upd, Tab.get_put]

theorem Tab.get_upd_ne [DecidableEq α] (dflt : α) (t : Tab α) {n m : Nat} (f : α → α) (h : m ≠ n) :
    (t.upd dflt n f).get dflt m = t.get dflt m := by simp [Tab.upd, Tab.get_put, h]

@[simp] theorem Tab.get_empty (dflt : α) (n : Nat) : (({} : Tab α)).get dflt n = dflt := rfl

theorem Tab.rising_iff (l : List (Nat × α)) : Tab.rising l = true ↔ l.Pairwise (fun a b => a.1 < b.1) := by
  induction l with
  | nil => simp [Tab.rising]
  | cons p t ih =>
    cases t with
    | nil => simp [Tab.rising]
    | cons q r =>
      simp only [Tab.rising, Bool.and_eq_true, decide_eq_true_eq, ih, List.pairwise_cons]
      constructor
      · rintro ⟨h, h2, h3⟩
        refine ⟨?_, h2, h3⟩
        intro x hx
        rcases List.mem_cons.mp hx with rfl | hx
        · exact h
        · exact Nat.lt_trans h (h2 x hx)
      · rintro ⟨h, h2, h3⟩
        exact ⟨h q (by simp), h2, h3⟩

theorem Tab.mem_ins (n : Nat) (x : α) (l : List (Nat × α)) (p : Nat × α) :
    p ∈ Tab.ins n x l ↔ p = (n, x) ∨ p ∈ l := by
  induction l with
  | nil => simp [Tab.ins]
  | cons q t ih =>
    unfold Tab.ins
    split
    · simp
    · simp only [List.mem_cons, ih]
      exact ⟨fun h => h.elim (fun e => .inr (.inl e)) (fun h => h.elim .inl (fun h => .inr (.inr h))),
        fun h => h.elim (fun e => .inr (.inl e)) (fun h => h.elim .inl (fun h => .inr (.inr h)))⟩

theorem Tab.pairwise_ins (n : Nat) (x : α) (l : List (Nat × α)) (h : l.Pairwise (fun a b => a.1 < b.1))
    (hn : ∀ p ∈ l, p.1 ≠ n) : (Tab.ins n x l).Pairwise (fun a b => a.1 < b.1) := by
  induction l with
  | nil => simp [Tab.ins]
  | cons q t ih =>
    obtain ⟨h1, h2⟩ := List.pairwise_cons.mp h
    have hq := hn q (by simp)
    unfold Tab.ins
    split
    · rename_i hlt
      refine List.pairwise_cons.mpr ⟨?_, h⟩
      intro p hp
      rcases List.mem_cons.mp hp with rfl | hp
      · exact hlt
      · exact Nat.lt_trans hlt (h1 p hp)
    · rename_i hge
      refine List.pairwise_cons.mpr ⟨?_, ih h2 (fun p hp => hn p (by simp [hp]))⟩
      intro p hp
      rcases (Tab.mem_ins _ _ _ _).mp hp with rfl | hp
      · exact Nat.lt_of_le_of_ne (Nat.le_of_not_lt hge) hq
      · exact h1 p hp

/-- A write keeps the canonical form. -/
theorem Tab.wf_put [DecidableEq α] (dflt : α) (t : Tab α) (n : Nat) (x : α) (h : t.wf dflt = true) :
    (t.put dflt n x).wf dflt = true := by
  simp only [Tab.wf, Bool.and_eq_true, Tab.rising_iff, List.all_eq_true, decide_eq_true_eq] at h ⊢
  obtain ⟨h1, h2⟩ := h
  have f1 := h1.filter (fun p => decide (p.1 ≠ n))
  have f2 : ∀ p ∈ t.cells.filter (fun p => decide (p.1 ≠ n)), p.2 ≠ dflt := fun p hp => h2 p (List.mem_filter.mp hp).1
  unfold Tab.put
  by_cases hx : x = dflt
  · simp only [hx, if_true]
    exact ⟨f1, f2⟩
  · simp only [if_neg hx]
    refine ⟨Tab.pairwise_ins _ _ _ f1 (by intro p hp; simpa using (List.mem_filter.mp hp).2), ?_⟩
    intro p hp
    rcases (Tab.mem_ins _ _ _ _).mp hp with rfl | hp
    · exact hx
    · exact f2 p hp

theorem Tab.wf_upd [DecidableEq α] (dflt : α) (t : Tab α) (n : Nat) (f : α → α) (h : t.wf dflt = true) :
    (t.upd dflt n f).wf dflt = true := Tab.wf_put _ _ _ _ h

theorem Tab.look_mapCells [DecidableEq α] (dflt : α) (f : Nat → α → α) (l : List (Nat × α)) (n : Nat)
    (h : f n dflt = dflt) : Tab.look dflt (Tab.mapCells dflt f l) n = f n (Tab.look dflt l n) := by
  induction l with
  | nil => exact h.symm
  | cons p t ih =>
    obtain ⟨k, v⟩ := p
    simp only [Tab.mapCells]
    by_cases hk : k = n
    · subst hk
      split
      · rename_i e
        rw [Tab.look_filter_self]; simp [Tab.look, e]
      · simp [Tab.look]
    · split
      · rw [Tab.look_filter_ne _ _ _ _ (fun e => hk e.symm), ih]; simp [Tab.look, hk]
      · simp [Tab.look, hk, ih]

/-- A change of every value by a function that keeps the default. -/
theorem Tab.get_mapAll [DecidableEq α] (dflt : α) (t : Tab α) (f : Nat → α → α) (n : Nat) (h : f n dflt = dflt) :
    (t.mapAll dflt f).get dflt n = f n (t.get dflt n) := Tab.look_mapCells _ _ _ _ h

theorem Tab.mem_mapCells [DecidableEq α] (dflt : α) (f : Nat → α → α) (l : List (Nat × α)) (p : Nat × α)
    (h : p ∈ Tab.mapCells dflt f l) : p.2 ≠ dflt ∧ ∃ q ∈ l, q.1 = p.1 := by
  induction l with
  | nil => cases h
  | cons q t ih =>
    obtain ⟨k, v⟩ := q
    simp only [Tab.mapCells] at h
    split at h
    · obtain ⟨h1, r, h2, h3⟩ := ih (List.mem_filter.mp h).1
      exact ⟨h1, r, List.mem_cons_of_mem _ h2, h3⟩
    · rename_i hk
      rcases List.mem_cons.mp h with rfl | h
      · exact ⟨hk, (k, v), by simp, rfl⟩
      · obtain ⟨h1, r, h2, h3⟩ := ih h
        exact ⟨h1, r, List.mem_cons_of_mem _ h2, h3⟩

/-- A change of every value keeps the canonical form. -/
theorem Tab.wf_mapAll [DecidableEq α] (dflt : α) (t : Tab α) (f : Nat → α → α) (h : t.wf dflt = true) :
    (t.mapAll dflt f).wf dflt = true := by
  simp only [Tab.wf, Bool.and_eq_true, Tab.rising_iff, List.all_eq_true, decide_eq_true_eq] at h ⊢
  refine ⟨?_, fun p hp => (Tab.mem_mapCells _ _ _ _ hp).1⟩
  obtain ⟨h1, -⟩ := h
  unfold Tab.mapAll
  generalize t.cells = l at h1
  induction l with
  | nil => simp [Tab.mapCells]
  | cons q r ih =>
    obtain ⟨k, v⟩ := q
    obtain ⟨ha, hb⟩ := List.pairwise_cons.mp h1
    simp only [Tab.mapCells]
    split
    · exact (ih hb).filter _
    · refine List.pairwise_cons.mpr ⟨?_, ih hb⟩
      intro p hp
      obtain ⟨-, w, hw, e⟩ := Tab.mem_mapCells _ _ _ _ hp
      exact e ▸ ha w hw

end Sys2Proof.Machine
end

