-- ==== Sys2Proof/Laws/Reset.lean ====
section
/-! SUPPORT. What a cold reset keeps of the non-volatile state, and how the tables that it builds read. -/

set_option Elab.async false

namespace Sys2Proof.Machine

/-- Two non-volatile states that agree but for the Chutes. -/
def KeepNv (v w : Nv) : Prop := w.fuses = v.fuses ∧ w.flash = v.flash ∧ w.calibration = v.calibration
/-- A change of a Chute keeps the rest of the non-volatile state. -/
theorem KeepNv.modChute {v w : Nv} (h : KeepNv v w) (k f) : KeepNv v (w.modChute k f) := h
/-- A cut of one Chute's programme changes that Chute and draws free values, nothing else (R278). -/
theorem chuteCut_keep (v : Nv) (d : Dev) (h : Nat) : KeepNv v (chuteCut v d h).1 ∧ (chuteCut v d h).2.without [.draws] = d.without [.draws] := by
  unfold chuteCut
  split
  · exact ⟨⟨rfl, rfl, rfl⟩, rfl⟩
  · simp only []
    have gen : ∀ (l : List (Nat × Cell × Cell)) (a : Nv × Dev) (v0 : Nv) (d0 : Dev), KeepNv v0 a.1 → a.2.without [.draws] = d0.without [.draws] →
      KeepNv v0 (l.foldl (fun (a : Nv × Dev) p => let (r, d) := a.2.draw; (if r % 3 = 0 then a.1 else a.1.modChute h (fun n => n.setCell p.1 (if r % 3 = 1 then p.2.1 else .uncertain)), d)) a).1 ∧
      (l.foldl (fun (a : Nv × Dev) p => let (r, d) := a.2.draw; (if r % 3 = 0 then a.1 else a.1.modChute h (fun n => n.setCell p.1 (if r % 3 = 1 then p.2.1 else .uncertain)), d)) a).2.without [.draws] = d0.without [.draws] := by
      intro l
      induction l with
      | nil => intro a v0 d0 h1 h2; exact ⟨h1, h2⟩
      | cons p t ih =>
        intro a v0 d0 h1 h2
        refine ih _ v0 d0 ?_ ?_
        · show KeepNv v0 (if a.2.draw.1 % 3 = 0 then a.1 else _)
          split <;> exact h1
        · simp only [Dev.draw]; rw [← h2]; rfl
    exact gen _ _ v d ⟨rfl, rfl, rfl⟩ rfl
/-- When the Chute drivers stop, only the Chutes and the free values drawn change (R278). -/
theorem stopChutes_keep (v : Nv) (d : Dev) : KeepNv v (stopChutes v d).1 ∧ (stopChutes v d).2.without [.draws] = d.without [.draws] := by
  unfold stopChutes
  generalize List.range 8 = l
  suffices h : ∀ (l : List Nat) (a : Nv × Dev), KeepNv v a.1 → a.2.without [.draws] = d.without [.draws] →
     KeepNv v (l.foldl (fun a h => chuteCut a.1 a.2 h) a).1 ∧ (l.foldl (fun a h => chuteCut a.1 a.2 h) a).2.without [.draws] = d.without [.draws] from h l (v, d) ⟨rfl, rfl, rfl⟩ rfl
  intro l
  induction l with
  | nil => intro a h1 h2; exact ⟨h1, h2⟩
  | cons p t ih =>
    intro a h1 h2
    have k := chuteCut_keep a.1 a.2 p
    refine ih _ ?_ ?_
    · obtain ⟨⟨a1, a2, a3⟩, _⟩ := k; exact ⟨a1.trans h1.1, a2.trans h1.2.1, a3.trans h1.2.2⟩
    · exact k.2.trans h2
/-- A table filled from a list reads what was put. -/
theorem foldl_put_get {α} [DecidableEq α] (dflt : α) (f : Nat → α) (l : List Nat) (t : Tab α) (n : Nat) :
   (l.foldl (fun t m => t.put dflt m (f m)) t).get dflt n = if n ∈ l then f n else t.get dflt n := by
  induction l generalizing t with
  | nil => simp
  | cons m r ih => simp only [List.foldl_cons, ih, Tab.get_put]; by_cases h : n ∈ r <;> by_cases h2 : n = m <;> simp_all
/-- What a put table lists. -/
theorem mem_put {p : Nat × Nat} {t : Tab Nat} {n x} (h : p ∈ (t.put 0 n x).cells) : p = (n, x) ∨ p ∈ t.cells := by
  unfold Tab.put at h; simp only at h
  split at h
  · exact .inr (List.mem_filter.mp h).1
  · rcases (Tab.mem_ins _ _ _ _).mp h with rfl | h
    · exact .inl rfl
    · exact .inr (List.mem_filter.mp h).1
/-- What a table filled from a list lists. -/
theorem foldl_put_mem {β} (g : β → Nat) (f : β → Nat) (l : List β) (t : Tab Nat) (p) :
   p ∈ (l.foldl (fun t m => t.put 0 (g m) (f m)) t).cells → p ∈ t.cells ∨ ∃ m ∈ l, p.1 = g m := by
  induction l generalizing t with
  | nil => intro h; exact .inl h
  | cons m r ih =>
    intro h
    rcases ih _ h with h | ⟨m', h1, h2⟩
    · rcases mem_put h with rfl | h
      · exact .inr ⟨m, by simp, rfl⟩
      · exact .inl h
    · exact .inr ⟨m', by simp [h1], h2⟩
/-- A cold reset, part by part (Table 16-5). -/
theorem coldReset_eq (v : Nv) (d : Dev) : coldReset v d =
    let r := stopChutes v d
    let e : Dev := {
      chutes := chutesAfresh r.1
      modules := (List.range 16).foldl (fun (t : Tab Module) m => t.put {} m { present := (r.2.module m).present, status := b2n (r.2.module m).present }) {}
      inv := { base := keptMaps r.1 r.2 }
      board := r.2.board
      attic := { failSeen := r.2.attic.failSeen }
      out := r.2.out, draws := r.2.draws, mac := r.1.fuses.mac
      time := { ppsOut := r.2.time.ppsOut } }
    (r.1, e) := by
  unfold coldReset
  generalize stopChutes v d = r
  rfl
/-- The Chute map that a cold reset keeps (R278, R314). -/
theorem keptMaps_get (v : Nv) (d : Dev) (h : Nat) (hh : h < 8) : (keptMaps v d).get 0 (ad (0x3400 + h) 1) = 
   if (d.chute h).programming then mapOfCells (v.chute h).cells.cells else d.baseOf (0x3400 + h) 1 := by
  unfold keptMaps
  have g : ∀ (l : List Nat) (t : Tab Nat), (l.foldl (fun (b : Tab Nat) h => b.put 0 (ad (0x3400 + h) 1) (if (d.chute h).programming then mapOfCells (v.chute h).cells.cells else d.baseOf (0x3400 + h) 1)) t).get 0 (ad (0x3400 + h) 1)
     = if h ∈ l then (if (d.chute h).programming then mapOfCells (v.chute h).cells.cells else d.baseOf (0x3400 + h) 1) else t.get 0 (ad (0x3400 + h) 1) := by
    intro l
    induction l with
    | nil => intro t; simp
    | cons m r ih =>
      intro t
      rw [List.foldl_cons, ih, Tab.get_put]
      by_cases h1 : h ∈ r
      · simp [h1]
      · by_cases h2 : h = m
        · subst h2; simp
        · have : ¬ ad (0x3400 + h) 1 = ad (0x3400 + m) 1 := by unfold ad; omega
          simp [h1, h2, this]
  have := g (List.range 8) {}
  rw [if_pos (by simpa using hh)] at this
  exact this

end Sys2Proof.Machine
end

