-- ==== Sys2Proof/Laws/State.lean ====
section
/-! SUPPORT. What each elementary update of the state leaves as it was, field by field, and what it makes of its own, so that no
proof unfolds a record update. -/

set_option Elab.async false

namespace Sys2Proof.Machine

/-! ## The whole state -/

@[simp] theorem State.setDev_dev (s : State) (d : Dev) : (s.setDev d).dev = d := rfl
@[simp] theorem State.setDev_nv (s : State) (d : Dev) : (s.setDev d).nv = s.nv := rfl
@[simp] theorem State.setDev_pending (s : State) (d : Dev) : (s.setDev d).pending = s.pending := rfl
@[simp] theorem State.setAll_dev (s : State) (r : Nv × Dev) : (s.setAll r).dev = r.2 := rfl
@[simp] theorem State.setAll_nv (s : State) (r : Nv × Dev) : (s.setAll r).nv = r.1 := rfl
@[simp] theorem State.setAll_pending (s : State) (r : Nv × Dev) : (s.setAll r).pending = s.pending := rfl
/-- A command without effect leaves the state itself. -/
@[simp] theorem State.setDev_same (s : State) : s.setDev s.dev = s := rfl
/-- A command without effect on either part of the state leaves the state itself. -/
@[simp] theorem State.setAll_same (s : State) : s.setAll (s.nv, s.dev) = s := rfl

/-! ## modLane -/

@[simp] theorem Dev.modLane_ports (d : Dev) (l : Nat) (f : Lane → Lane) : (d.modLane l f).ports = d.ports := rfl
@[simp] theorem Dev.modLane_crates (d : Dev) (l : Nat) (f : Lane → Lane) : (d.modLane l f).crates = d.crates := rfl
@[simp] theorem Dev.modLane_chutes (d : Dev) (l : Nat) (f : Lane → Lane) : (d.modLane l f).chutes = d.chutes := rfl
@[simp] theorem Dev.modLane_hatches (d : Dev) (l : Nat) (f : Lane → Lane) : (d.modLane l f).hatches = d.hatches := rfl
@[simp] theorem Dev.modLane_modules (d : Dev) (l : Nat) (f : Lane → Lane) : (d.modLane l f).modules = d.modules := rfl
@[simp] theorem Dev.modLane_stackTab (d : Dev) (l : Nat) (f : Lane → Lane) : (d.modLane l f).stackTab = d.stackTab := rfl
@[simp] theorem Dev.modLane_arb (d : Dev) (l : Nat) (f : Lane → Lane) : (d.modLane l f).arb = d.arb := rfl
@[simp] theorem Dev.modLane_time (d : Dev) (l : Nat) (f : Lane → Lane) : (d.modLane l f).time = d.time := rfl
@[simp] theorem Dev.modLane_log (d : Dev) (l : Nat) (f : Lane → Lane) : (d.modLane l f).log = d.log := rfl
@[simp] theorem Dev.modLane_inv (d : Dev) (l : Nat) (f : Lane → Lane) : (d.modLane l f).inv = d.inv := rfl
@[simp] theorem Dev.modLane_attic (d : Dev) (l : Nat) (f : Lane → Lane) : (d.modLane l f).attic = d.attic := rfl
@[simp] theorem Dev.modLane_tele (d : Dev) (l : Nat) (f : Lane → Lane) : (d.modLane l f).tele = d.tele := rfl
@[simp] theorem Dev.modLane_power (d : Dev) (l : Nat) (f : Lane → Lane) : (d.modLane l f).power = d.power := rfl
@[simp] theorem Dev.modLane_board (d : Dev) (l : Nat) (f : Lane → Lane) : (d.modLane l f).board = d.board := rfl
@[simp] theorem Dev.modLane_held (d : Dev) (l : Nat) (f : Lane → Lane) : (d.modLane l f).held = d.held := rfl
@[simp] theorem Dev.modLane_nextHeld (d : Dev) (l : Nat) (f : Lane → Lane) : (d.modLane l f).nextHeld = d.nextHeld := rfl
@[simp] theorem Dev.modLane_net (d : Dev) (l : Nat) (f : Lane → Lane) : (d.modLane l f).net = d.net := rfl
@[simp] theorem Dev.modLane_waits (d : Dev) (l : Nat) (f : Lane → Lane) : (d.modLane l f).waits = d.waits := rfl
@[simp] theorem Dev.modLane_consumed (d : Dev) (l : Nat) (f : Lane → Lane) : (d.modLane l f).consumed = d.consumed := rfl
@[simp] theorem Dev.modLane_contexts (d : Dev) (l : Nat) (f : Lane → Lane) : (d.modLane l f).contexts = d.contexts := rfl
@[simp] theorem Dev.modLane_holding (d : Dev) (l : Nat) (f : Lane → Lane) : (d.modLane l f).holding = d.holding := rfl
@[simp] theorem Dev.modLane_nacks (d : Dev) (l : Nat) (f : Lane → Lane) : (d.modLane l f).nacks = d.nacks := rfl
@[simp] theorem Dev.modLane_shadowRecs (d : Dev) (l : Nat) (f : Lane → Lane) : (d.modLane l f).shadowRecs = d.shadowRecs := rfl
@[simp] theorem Dev.modLane_versions (d : Dev) (l : Nat) (f : Lane → Lane) : (d.modLane l f).versions = d.versions := rfl
@[simp] theorem Dev.modLane_flows (d : Dev) (l : Nat) (f : Lane → Lane) : (d.modLane l f).flows = d.flows := rfl
@[simp] theorem Dev.modLane_fences (d : Dev) (l : Nat) (f : Lane → Lane) : (d.modLane l f).fences = d.fences := rfl
@[simp] theorem Dev.modLane_due (d : Dev) (l : Nat) (f : Lane → Lane) : (d.modLane l f).due = d.due := rfl
@[simp] theorem Dev.modLane_out (d : Dev) (l : Nat) (f : Lane → Lane) : (d.modLane l f).out = d.out := rfl
@[simp] theorem Dev.modLane_draws (d : Dev) (l : Nat) (f : Lane → Lane) : (d.modLane l f).draws = d.draws := rfl
@[simp] theorem Dev.modLane_mac (d : Dev) (l : Nat) (f : Lane → Lane) : (d.modLane l f).mac = d.mac := rfl
@[simp] theorem Dev.modLane_shadows (d : Dev) (l : Nat) (f : Lane → Lane) : (d.modLane l f).shadows = d.shadows := rfl
@[simp] theorem Dev.modLane_atticWaits (d : Dev) (l : Nat) (f : Lane → Lane) : (d.modLane l f).atticWaits = d.atticWaits := rfl
/-- `modLane` changes the one that it names. -/
@[simp] theorem Dev.modLane_lane (d : Dev) (l m : Nat) (f : Lane → Lane) :
    (d.modLane l f).lane m = if m = l then f (d.lane l) else d.lane m := Tab.get_upd _ _ _ _ _

/-! ## modPort -/

@[simp] theorem Dev.modPort_lanes (d : Dev) (p : Nat) (f : Port → Port) : (d.modPort p f).lanes = d.lanes := rfl
@[simp] theorem Dev.modPort_crates (d : Dev) (p : Nat) (f : Port → Port) : (d.modPort p f).crates = d.crates := rfl
@[simp] theorem Dev.modPort_chutes (d : Dev) (p : Nat) (f : Port → Port) : (d.modPort p f).chutes = d.chutes := rfl
@[simp] theorem Dev.modPort_hatches (d : Dev) (p : Nat) (f : Port → Port) : (d.modPort p f).hatches = d.hatches := rfl
@[simp] theorem Dev.modPort_modules (d : Dev) (p : Nat) (f : Port → Port) : (d.modPort p f).modules = d.modules := rfl
@[simp] theorem Dev.modPort_stackTab (d : Dev) (p : Nat) (f : Port → Port) : (d.modPort p f).stackTab = d.stackTab := rfl
@[simp] theorem Dev.modPort_arb (d : Dev) (p : Nat) (f : Port → Port) : (d.modPort p f).arb = d.arb := rfl
@[simp] theorem Dev.modPort_time (d : Dev) (p : Nat) (f : Port → Port) : (d.modPort p f).time = d.time := rfl
@[simp] theorem Dev.modPort_log (d : Dev) (p : Nat) (f : Port → Port) : (d.modPort p f).log = d.log := rfl
@[simp] theorem Dev.modPort_inv (d : Dev) (p : Nat) (f : Port → Port) : (d.modPort p f).inv = d.inv := rfl
@[simp] theorem Dev.modPort_attic (d : Dev) (p : Nat) (f : Port → Port) : (d.modPort p f).attic = d.attic := rfl
@[simp] theorem Dev.modPort_tele (d : Dev) (p : Nat) (f : Port → Port) : (d.modPort p f).tele = d.tele := rfl
@[simp] theorem Dev.modPort_power (d : Dev) (p : Nat) (f : Port → Port) : (d.modPort p f).power = d.power := rfl
@[simp] theorem Dev.modPort_board (d : Dev) (p : Nat) (f : Port → Port) : (d.modPort p f).board = d.board := rfl
@[simp] theorem Dev.modPort_held (d : Dev) (p : Nat) (f : Port → Port) : (d.modPort p f).held = d.held := rfl
@[simp] theorem Dev.modPort_nextHeld (d : Dev) (p : Nat) (f : Port → Port) : (d.modPort p f).nextHeld = d.nextHeld := rfl
@[simp] theorem Dev.modPort_net (d : Dev) (p : Nat) (f : Port → Port) : (d.modPort p f).net = d.net := rfl
@[simp] theorem Dev.modPort_waits (d : Dev) (p : Nat) (f : Port → Port) : (d.modPort p f).waits = d.waits := rfl
@[simp] theorem Dev.modPort_consumed (d : Dev) (p : Nat) (f : Port → Port) : (d.modPort p f).consumed = d.consumed := rfl
@[simp] theorem Dev.modPort_contexts (d : Dev) (p : Nat) (f : Port → Port) : (d.modPort p f).contexts = d.contexts := rfl
@[simp] theorem Dev.modPort_holding (d : Dev) (p : Nat) (f : Port → Port) : (d.modPort p f).holding = d.holding := rfl
@[simp] theorem Dev.modPort_nacks (d : Dev) (p : Nat) (f : Port → Port) : (d.modPort p f).nacks = d.nacks := rfl
@[simp] theorem Dev.modPort_shadowRecs (d : Dev) (p : Nat) (f : Port → Port) : (d.modPort p f).shadowRecs = d.shadowRecs := rfl
@[simp] theorem Dev.modPort_versions (d : Dev) (p : Nat) (f : Port → Port) : (d.modPort p f).versions = d.versions := rfl
@[simp] theorem Dev.modPort_flows (d : Dev) (p : Nat) (f : Port → Port) : (d.modPort p f).flows = d.flows := rfl
@[simp] theorem Dev.modPort_fences (d : Dev) (p : Nat) (f : Port → Port) : (d.modPort p f).fences = d.fences := rfl
@[simp] theorem Dev.modPort_due (d : Dev) (p : Nat) (f : Port → Port) : (d.modPort p f).due = d.due := rfl
@[simp] theorem Dev.modPort_out (d : Dev) (p : Nat) (f : Port → Port) : (d.modPort p f).out = d.out := rfl
@[simp] theorem Dev.modPort_draws (d : Dev) (p : Nat) (f : Port → Port) : (d.modPort p f).draws = d.draws := rfl
@[simp] theorem Dev.modPort_mac (d : Dev) (p : Nat) (f : Port → Port) : (d.modPort p f).mac = d.mac := rfl
@[simp] theorem Dev.modPort_shadows (d : Dev) (p : Nat) (f : Port → Port) : (d.modPort p f).shadows = d.shadows := rfl
@[simp] theorem Dev.modPort_atticWaits (d : Dev) (p : Nat) (f : Port → Port) : (d.modPort p f).atticWaits = d.atticWaits := rfl
/-- `modPort` changes the one that it names. -/
@[simp] theorem Dev.modPort_port (d : Dev) (p q : Nat) (f : Port → Port) :
    (d.modPort p f).port q = if q = p then f (d.port p) else d.port q := Tab.get_upd _ _ _ _ _

/-! ## modCrate -/

@[simp] theorem Dev.modCrate_lanes (d : Dev) (n : Nat) (f : Crate → Crate) : (d.modCrate n f).lanes = d.lanes := rfl
@[simp] theorem Dev.modCrate_ports (d : Dev) (n : Nat) (f : Crate → Crate) : (d.modCrate n f).ports = d.ports := rfl
@[simp] theorem Dev.modCrate_chutes (d : Dev) (n : Nat) (f : Crate → Crate) : (d.modCrate n f).chutes = d.chutes := rfl
@[simp] theorem Dev.modCrate_hatches (d : Dev) (n : Nat) (f : Crate → Crate) : (d.modCrate n f).hatches = d.hatches := rfl
@[simp] theorem Dev.modCrate_modules (d : Dev) (n : Nat) (f : Crate → Crate) : (d.modCrate n f).modules = d.modules := rfl
@[simp] theorem Dev.modCrate_stackTab (d : Dev) (n : Nat) (f : Crate → Crate) : (d.modCrate n f).stackTab = d.stackTab := rfl
@[simp] theorem Dev.modCrate_arb (d : Dev) (n : Nat) (f : Crate → Crate) : (d.modCrate n f).arb = d.arb := rfl
@[simp] theorem Dev.modCrate_time (d : Dev) (n : Nat) (f : Crate → Crate) : (d.modCrate n f).time = d.time := rfl
@[simp] theorem Dev.modCrate_log (d : Dev) (n : Nat) (f : Crate → Crate) : (d.modCrate n f).log = d.log := rfl
@[simp] theorem Dev.modCrate_inv (d : Dev) (n : Nat) (f : Crate → Crate) : (d.modCrate n f).inv = d.inv := rfl
@[simp] theorem Dev.modCrate_attic (d : Dev) (n : Nat) (f : Crate → Crate) : (d.modCrate n f).attic = d.attic := rfl
@[simp] theorem Dev.modCrate_tele (d : Dev) (n : Nat) (f : Crate → Crate) : (d.modCrate n f).tele = d.tele := rfl
@[simp] theorem Dev.modCrate_power (d : Dev) (n : Nat) (f : Crate → Crate) : (d.modCrate n f).power = d.power := rfl
@[simp] theorem Dev.modCrate_board (d : Dev) (n : Nat) (f : Crate → Crate) : (d.modCrate n f).board = d.board := rfl
@[simp] theorem Dev.modCrate_held (d : Dev) (n : Nat) (f : Crate → Crate) : (d.modCrate n f).held = d.held := rfl
@[simp] theorem Dev.modCrate_nextHeld (d : Dev) (n : Nat) (f : Crate → Crate) : (d.modCrate n f).nextHeld = d.nextHeld := rfl
@[simp] theorem Dev.modCrate_net (d : Dev) (n : Nat) (f : Crate → Crate) : (d.modCrate n f).net = d.net := rfl
@[simp] theorem Dev.modCrate_waits (d : Dev) (n : Nat) (f : Crate → Crate) : (d.modCrate n f).waits = d.waits := rfl
@[simp] theorem Dev.modCrate_consumed (d : Dev) (n : Nat) (f : Crate → Crate) : (d.modCrate n f).consumed = d.consumed := rfl
@[simp] theorem Dev.modCrate_contexts (d : Dev) (n : Nat) (f : Crate → Crate) : (d.modCrate n f).contexts = d.contexts := rfl
@[simp] theorem Dev.modCrate_holding (d : Dev) (n : Nat) (f : Crate → Crate) : (d.modCrate n f).holding = d.holding := rfl
@[simp] theorem Dev.modCrate_nacks (d : Dev) (n : Nat) (f : Crate → Crate) : (d.modCrate n f).nacks = d.nacks := rfl
@[simp] theorem Dev.modCrate_shadowRecs (d : Dev) (n : Nat) (f : Crate → Crate) : (d.modCrate n f).shadowRecs = d.shadowRecs := rfl
@[simp] theorem Dev.modCrate_versions (d : Dev) (n : Nat) (f : Crate → Crate) : (d.modCrate n f).versions = d.versions := rfl
@[simp] theorem Dev.modCrate_flows (d : Dev) (n : Nat) (f : Crate → Crate) : (d.modCrate n f).flows = d.flows := rfl
@[simp] theorem Dev.modCrate_fences (d : Dev) (n : Nat) (f : Crate → Crate) : (d.modCrate n f).fences = d.fences := rfl
@[simp] theorem Dev.modCrate_due (d : Dev) (n : Nat) (f : Crate → Crate) : (d.modCrate n f).due = d.due := rfl
@[simp] theorem Dev.modCrate_out (d : Dev) (n : Nat) (f : Crate → Crate) : (d.modCrate n f).out = d.out := rfl
@[simp] theorem Dev.modCrate_draws (d : Dev) (n : Nat) (f : Crate → Crate) : (d.modCrate n f).draws = d.draws := rfl
@[simp] theorem Dev.modCrate_mac (d : Dev) (n : Nat) (f : Crate → Crate) : (d.modCrate n f).mac = d.mac := rfl
@[simp] theorem Dev.modCrate_shadows (d : Dev) (n : Nat) (f : Crate → Crate) : (d.modCrate n f).shadows = d.shadows := rfl
@[simp] theorem Dev.modCrate_atticWaits (d : Dev) (n : Nat) (f : Crate → Crate) : (d.modCrate n f).atticWaits = d.atticWaits := rfl
/-- `modCrate` changes the one that it names. -/
@[simp] theorem Dev.modCrate_crate (d : Dev) (n m : Nat) (f : Crate → Crate) :
    (d.modCrate n f).crate m = if m = n then f (d.crate n) else d.crate m := Tab.get_upd _ _ _ _ _

/-! ## modPath -/

@[simp] theorem Dev.modPath_lanes (d : Dev) (n : Nat) (f : CratePath → CratePath) : (d.modPath n f).lanes = d.lanes := rfl
@[simp] theorem Dev.modPath_ports (d : Dev) (n : Nat) (f : CratePath → CratePath) : (d.modPath n f).ports = d.ports := rfl
@[simp] theorem Dev.modPath_chutes (d : Dev) (n : Nat) (f : CratePath → CratePath) : (d.modPath n f).chutes = d.chutes := rfl
@[simp] theorem Dev.modPath_hatches (d : Dev) (n : Nat) (f : CratePath → CratePath) : (d.modPath n f).hatches = d.hatches := rfl
@[simp] theorem Dev.modPath_modules (d : Dev) (n : Nat) (f : CratePath → CratePath) : (d.modPath n f).modules = d.modules := rfl
@[simp] theorem Dev.modPath_stackTab (d : Dev) (n : Nat) (f : CratePath → CratePath) : (d.modPath n f).stackTab = d.stackTab := rfl
@[simp] theorem Dev.modPath_arb (d : Dev) (n : Nat) (f : CratePath → CratePath) : (d.modPath n f).arb = d.arb := rfl
@[simp] theorem Dev.modPath_time (d : Dev) (n : Nat) (f : CratePath → CratePath) : (d.modPath n f).time = d.time := rfl
@[simp] theorem Dev.modPath_log (d : Dev) (n : Nat) (f : CratePath → CratePath) : (d.modPath n f).log = d.log := rfl
@[simp] theorem Dev.modPath_inv (d : Dev) (n : Nat) (f : CratePath → CratePath) : (d.modPath n f).inv = d.inv := rfl
@[simp] theorem Dev.modPath_attic (d : Dev) (n : Nat) (f : CratePath → CratePath) : (d.modPath n f).attic = d.attic := rfl
@[simp] theorem Dev.modPath_tele (d : Dev) (n : Nat) (f : CratePath → CratePath) : (d.modPath n f).tele = d.tele := rfl
@[simp] theorem Dev.modPath_power (d : Dev) (n : Nat) (f : CratePath → CratePath) : (d.modPath n f).power = d.power := rfl
@[simp] theorem Dev.modPath_board (d : Dev) (n : Nat) (f : CratePath → CratePath) : (d.modPath n f).board = d.board := rfl
@[simp] theorem Dev.modPath_held (d : Dev) (n : Nat) (f : CratePath → CratePath) : (d.modPath n f).held = d.held := rfl
@[simp] theorem Dev.modPath_nextHeld (d : Dev) (n : Nat) (f : CratePath → CratePath) : (d.modPath n f).nextHeld = d.nextHeld := rfl
@[simp] theorem Dev.modPath_net (d : Dev) (n : Nat) (f : CratePath → CratePath) : (d.modPath n f).net = d.net := rfl
@[simp] theorem Dev.modPath_waits (d : Dev) (n : Nat) (f : CratePath → CratePath) : (d.modPath n f).waits = d.waits := rfl
@[simp] theorem Dev.modPath_consumed (d : Dev) (n : Nat) (f : CratePath → CratePath) : (d.modPath n f).consumed = d.consumed := rfl
@[simp] theorem Dev.modPath_contexts (d : Dev) (n : Nat) (f : CratePath → CratePath) : (d.modPath n f).contexts = d.contexts := rfl
@[simp] theorem Dev.modPath_holding (d : Dev) (n : Nat) (f : CratePath → CratePath) : (d.modPath n f).holding = d.holding := rfl
@[simp] theorem Dev.modPath_nacks (d : Dev) (n : Nat) (f : CratePath → CratePath) : (d.modPath n f).nacks = d.nacks := rfl
@[simp] theorem Dev.modPath_shadowRecs (d : Dev) (n : Nat) (f : CratePath → CratePath) : (d.modPath n f).shadowRecs = d.shadowRecs := rfl
@[simp] theorem Dev.modPath_versions (d : Dev) (n : Nat) (f : CratePath → CratePath) : (d.modPath n f).versions = d.versions := rfl
@[simp] theorem Dev.modPath_flows (d : Dev) (n : Nat) (f : CratePath → CratePath) : (d.modPath n f).flows = d.flows := rfl
@[simp] theorem Dev.modPath_fences (d : Dev) (n : Nat) (f : CratePath → CratePath) : (d.modPath n f).fences = d.fences := rfl
@[simp] theorem Dev.modPath_due (d : Dev) (n : Nat) (f : CratePath → CratePath) : (d.modPath n f).due = d.due := rfl
@[simp] theorem Dev.modPath_out (d : Dev) (n : Nat) (f : CratePath → CratePath) : (d.modPath n f).out = d.out := rfl
@[simp] theorem Dev.modPath_draws (d : Dev) (n : Nat) (f : CratePath → CratePath) : (d.modPath n f).draws = d.draws := rfl
@[simp] theorem Dev.modPath_mac (d : Dev) (n : Nat) (f : CratePath → CratePath) : (d.modPath n f).mac = d.mac := rfl
@[simp] theorem Dev.modPath_shadows (d : Dev) (n : Nat) (f : CratePath → CratePath) : (d.modPath n f).shadows = d.shadows := rfl
@[simp] theorem Dev.modPath_atticWaits (d : Dev) (n : Nat) (f : CratePath → CratePath) : (d.modPath n f).atticWaits = d.atticWaits := rfl

/-! ## modEgress -/

@[simp] theorem Dev.modEgress_ports (d : Dev) (l : Nat) (f : Egress → Egress) : (d.modEgress l f).ports = d.ports := rfl
@[simp] theorem Dev.modEgress_crates (d : Dev) (l : Nat) (f : Egress → Egress) : (d.modEgress l f).crates = d.crates := rfl
@[simp] theorem Dev.modEgress_chutes (d : Dev) (l : Nat) (f : Egress → Egress) : (d.modEgress l f).chutes = d.chutes := rfl
@[simp] theorem Dev.modEgress_hatches (d : Dev) (l : Nat) (f : Egress → Egress) : (d.modEgress l f).hatches = d.hatches := rfl
@[simp] theorem Dev.modEgress_modules (d : Dev) (l : Nat) (f : Egress → Egress) : (d.modEgress l f).modules = d.modules := rfl
@[simp] theorem Dev.modEgress_stackTab (d : Dev) (l : Nat) (f : Egress → Egress) : (d.modEgress l f).stackTab = d.stackTab := rfl
@[simp] theorem Dev.modEgress_arb (d : Dev) (l : Nat) (f : Egress → Egress) : (d.modEgress l f).arb = d.arb := rfl
@[simp] theorem Dev.modEgress_time (d : Dev) (l : Nat) (f : Egress → Egress) : (d.modEgress l f).time = d.time := rfl
@[simp] theorem Dev.modEgress_log (d : Dev) (l : Nat) (f : Egress → Egress) : (d.modEgress l f).log = d.log := rfl
@[simp] theorem Dev.modEgress_inv (d : Dev) (l : Nat) (f : Egress → Egress) : (d.modEgress l f).inv = d.inv := rfl
@[simp] theorem Dev.modEgress_attic (d : Dev) (l : Nat) (f : Egress → Egress) : (d.modEgress l f).attic = d.attic := rfl
@[simp] theorem Dev.modEgress_tele (d : Dev) (l : Nat) (f : Egress → Egress) : (d.modEgress l f).tele = d.tele := rfl
@[simp] theorem Dev.modEgress_power (d : Dev) (l : Nat) (f : Egress → Egress) : (d.modEgress l f).power = d.power := rfl
@[simp] theorem Dev.modEgress_board (d : Dev) (l : Nat) (f : Egress → Egress) : (d.modEgress l f).board = d.board := rfl
@[simp] theorem Dev.modEgress_held (d : Dev) (l : Nat) (f : Egress → Egress) : (d.modEgress l f).held = d.held := rfl
@[simp] theorem Dev.modEgress_nextHeld (d : Dev) (l : Nat) (f : Egress → Egress) : (d.modEgress l f).nextHeld = d.nextHeld := rfl
@[simp] theorem Dev.modEgress_net (d : Dev) (l : Nat) (f : Egress → Egress) : (d.modEgress l f).net = d.net := rfl
@[simp] theorem Dev.modEgress_waits (d : Dev) (l : Nat) (f : Egress → Egress) : (d.modEgress l f).waits = d.waits := rfl
@[simp] theorem Dev.modEgress_consumed (d : Dev) (l : Nat) (f : Egress → Egress) : (d.modEgress l f).consumed = d.consumed := rfl
@[simp] theorem Dev.modEgress_contexts (d : Dev) (l : Nat) (f : Egress → Egress) : (d.modEgress l f).contexts = d.contexts := rfl
@[simp] theorem Dev.modEgress_holding (d : Dev) (l : Nat) (f : Egress → Egress) : (d.modEgress l f).holding = d.holding := rfl
@[simp] theorem Dev.modEgress_nacks (d : Dev) (l : Nat) (f : Egress → Egress) : (d.modEgress l f).nacks = d.nacks := rfl
@[simp] theorem Dev.modEgress_shadowRecs (d : Dev) (l : Nat) (f : Egress → Egress) : (d.modEgress l f).shadowRecs = d.shadowRecs := rfl
@[simp] theorem Dev.modEgress_versions (d : Dev) (l : Nat) (f : Egress → Egress) : (d.modEgress l f).versions = d.versions := rfl
@[simp] theorem Dev.modEgress_flows (d : Dev) (l : Nat) (f : Egress → Egress) : (d.modEgress l f).flows = d.flows := rfl
@[simp] theorem Dev.modEgress_fences (d : Dev) (l : Nat) (f : Egress → Egress) : (d.modEgress l f).fences = d.fences := rfl
@[simp] theorem Dev.modEgress_due (d : Dev) (l : Nat) (f : Egress → Egress) : (d.modEgress l f).due = d.due := rfl
@[simp] theorem Dev.modEgress_out (d : Dev) (l : Nat) (f : Egress → Egress) : (d.modEgress l f).out = d.out := rfl
@[simp] theorem Dev.modEgress_draws (d : Dev) (l : Nat) (f : Egress → Egress) : (d.modEgress l f).draws = d.draws := rfl
@[simp] theorem Dev.modEgress_mac (d : Dev) (l : Nat) (f : Egress → Egress) : (d.modEgress l f).mac = d.mac := rfl
@[simp] theorem Dev.modEgress_shadows (d : Dev) (l : Nat) (f : Egress → Egress) : (d.modEgress l f).shadows = d.shadows := rfl
@[simp] theorem Dev.modEgress_atticWaits (d : Dev) (l : Nat) (f : Egress → Egress) : (d.modEgress l f).atticWaits = d.atticWaits := rfl

/-! ## modStack -/

@[simp] theorem Dev.modStack_lanes (d : Dev) (k : Nat) (f : Stack → Stack) : (d.modStack k f).lanes = d.lanes := rfl
@[simp] theorem Dev.modStack_ports (d : Dev) (k : Nat) (f : Stack → Stack) : (d.modStack k f).ports = d.ports := rfl
@[simp] theorem Dev.modStack_crates (d : Dev) (k : Nat) (f : Stack → Stack) : (d.modStack k f).crates = d.crates := rfl
@[simp] theorem Dev.modStack_chutes (d : Dev) (k : Nat) (f : Stack → Stack) : (d.modStack k f).chutes = d.chutes := rfl
@[simp] theorem Dev.modStack_hatches (d : Dev) (k : Nat) (f : Stack → Stack) : (d.modStack k f).hatches = d.hatches := rfl
@[simp] theorem Dev.modStack_modules (d : Dev) (k : Nat) (f : Stack → Stack) : (d.modStack k f).modules = d.modules := rfl
@[simp] theorem Dev.modStack_arb (d : Dev) (k : Nat) (f : Stack → Stack) : (d.modStack k f).arb = d.arb := rfl
@[simp] theorem Dev.modStack_time (d : Dev) (k : Nat) (f : Stack → Stack) : (d.modStack k f).time = d.time := rfl
@[simp] theorem Dev.modStack_log (d : Dev) (k : Nat) (f : Stack → Stack) : (d.modStack k f).log = d.log := rfl
@[simp] theorem Dev.modStack_inv (d : Dev) (k : Nat) (f : Stack → Stack) : (d.modStack k f).inv = d.inv := rfl
@[simp] theorem Dev.modStack_attic (d : Dev) (k : Nat) (f : Stack → Stack) : (d.modStack k f).attic = d.attic := rfl
@[simp] theorem Dev.modStack_tele (d : Dev) (k : Nat) (f : Stack → Stack) : (d.modStack k f).tele = d.tele := rfl
@[simp] theorem Dev.modStack_power (d : Dev) (k : Nat) (f : Stack → Stack) : (d.modStack k f).power = d.power := rfl
@[simp] theorem Dev.modStack_board (d : Dev) (k : Nat) (f : Stack → Stack) : (d.modStack k f).board = d.board := rfl
@[simp] theorem Dev.modStack_held (d : Dev) (k : Nat) (f : Stack → Stack) : (d.modStack k f).held = d.held := rfl
@[simp] theorem Dev.modStack_nextHeld (d : Dev) (k : Nat) (f : Stack → Stack) : (d.modStack k f).nextHeld = d.nextHeld := rfl
@[simp] theorem Dev.modStack_net (d : Dev) (k : Nat) (f : Stack → Stack) : (d.modStack k f).net = d.net := rfl
@[simp] theorem Dev.modStack_waits (d : Dev) (k : Nat) (f : Stack → Stack) : (d.modStack k f).waits = d.waits := rfl
@[simp] theorem Dev.modStack_consumed (d : Dev) (k : Nat) (f : Stack → Stack) : (d.modStack k f).consumed = d.consumed := rfl
@[simp] theorem Dev.modStack_contexts (d : Dev) (k : Nat) (f : Stack → Stack) : (d.modStack k f).contexts = d.contexts := rfl
@[simp] theorem Dev.modStack_holding (d : Dev) (k : Nat) (f : Stack → Stack) : (d.modStack k f).holding = d.holding := rfl
@[simp] theorem Dev.modStack_nacks (d : Dev) (k : Nat) (f : Stack → Stack) : (d.modStack k f).nacks = d.nacks := rfl
@[simp] theorem Dev.modStack_shadowRecs (d : Dev) (k : Nat) (f : Stack → Stack) : (d.modStack k f).shadowRecs = d.shadowRecs := rfl
@[simp] theorem Dev.modStack_versions (d : Dev) (k : Nat) (f : Stack → Stack) : (d.modStack k f).versions = d.versions := rfl
@[simp] theorem Dev.modStack_flows (d : Dev) (k : Nat) (f : Stack → Stack) : (d.modStack k f).flows = d.flows := rfl
@[simp] theorem Dev.modStack_fences (d : Dev) (k : Nat) (f : Stack → Stack) : (d.modStack k f).fences = d.fences := rfl
@[simp] theorem Dev.modStack_due (d : Dev) (k : Nat) (f : Stack → Stack) : (d.modStack k f).due = d.due := rfl
@[simp] theorem Dev.modStack_out (d : Dev) (k : Nat) (f : Stack → Stack) : (d.modStack k f).out = d.out := rfl
@[simp] theorem Dev.modStack_draws (d : Dev) (k : Nat) (f : Stack → Stack) : (d.modStack k f).draws = d.draws := rfl
@[simp] theorem Dev.modStack_mac (d : Dev) (k : Nat) (f : Stack → Stack) : (d.modStack k f).mac = d.mac := rfl
@[simp] theorem Dev.modStack_shadows (d : Dev) (k : Nat) (f : Stack → Stack) : (d.modStack k f).shadows = d.shadows := rfl
@[simp] theorem Dev.modStack_atticWaits (d : Dev) (k : Nat) (f : Stack → Stack) : (d.modStack k f).atticWaits = d.atticWaits := rfl
/-- `modStack` changes the one that it names. -/
@[simp] theorem Dev.modStack_stack (d : Dev) (k j : Nat) (f : Stack → Stack) :
    (d.modStack k f).stack j = if j = k then f (d.stack k) else d.stack j := Tab.get_upd _ _ _ _ _

/-! ## modChute -/

@[simp] theorem Dev.modChute_lanes (d : Dev) (h : Nat) (f : Chute → Chute) : (d.modChute h f).lanes = d.lanes := rfl
@[simp] theorem Dev.modChute_ports (d : Dev) (h : Nat) (f : Chute → Chute) : (d.modChute h f).ports = d.ports := rfl
@[simp] theorem Dev.modChute_crates (d : Dev) (h : Nat) (f : Chute → Chute) : (d.modChute h f).crates = d.crates := rfl
@[simp] theorem Dev.modChute_hatches (d : Dev) (h : Nat) (f : Chute → Chute) : (d.modChute h f).hatches = d.hatches := rfl
@[simp] theorem Dev.modChute_modules (d : Dev) (h : Nat) (f : Chute → Chute) : (d.modChute h f).modules = d.modules := rfl
@[simp] theorem Dev.modChute_stackTab (d : Dev) (h : Nat) (f : Chute → Chute) : (d.modChute h f).stackTab = d.stackTab := rfl
@[simp] theorem Dev.modChute_arb (d : Dev) (h : Nat) (f : Chute → Chute) : (d.modChute h f).arb = d.arb := rfl
@[simp] theorem Dev.modChute_time (d : Dev) (h : Nat) (f : Chute → Chute) : (d.modChute h f).time = d.time := rfl
@[simp] theorem Dev.modChute_log (d : Dev) (h : Nat) (f : Chute → Chute) : (d.modChute h f).log = d.log := rfl
@[simp] theorem Dev.modChute_inv (d : Dev) (h : Nat) (f : Chute → Chute) : (d.modChute h f).inv = d.inv := rfl
@[simp] theorem Dev.modChute_attic (d : Dev) (h : Nat) (f : Chute → Chute) : (d.modChute h f).attic = d.attic := rfl
@[simp] theorem Dev.modChute_tele (d : Dev) (h : Nat) (f : Chute → Chute) : (d.modChute h f).tele = d.tele := rfl
@[simp] theorem Dev.modChute_power (d : Dev) (h : Nat) (f : Chute → Chute) : (d.modChute h f).power = d.power := rfl
@[simp] theorem Dev.modChute_board (d : Dev) (h : Nat) (f : Chute → Chute) : (d.modChute h f).board = d.board := rfl
@[simp] theorem Dev.modChute_held (d : Dev) (h : Nat) (f : Chute → Chute) : (d.modChute h f).held = d.held := rfl
@[simp] theorem Dev.modChute_nextHeld (d : Dev) (h : Nat) (f : Chute → Chute) : (d.modChute h f).nextHeld = d.nextHeld := rfl
@[simp] theorem Dev.modChute_net (d : Dev) (h : Nat) (f : Chute → Chute) : (d.modChute h f).net = d.net := rfl
@[simp] theorem Dev.modChute_waits (d : Dev) (h : Nat) (f : Chute → Chute) : (d.modChute h f).waits = d.waits := rfl
@[simp] theorem Dev.modChute_consumed (d : Dev) (h : Nat) (f : Chute → Chute) : (d.modChute h f).consumed = d.consumed := rfl
@[simp] theorem Dev.modChute_contexts (d : Dev) (h : Nat) (f : Chute → Chute) : (d.modChute h f).contexts = d.contexts := rfl
@[simp] theorem Dev.modChute_holding (d : Dev) (h : Nat) (f : Chute → Chute) : (d.modChute h f).holding = d.holding := rfl
@[simp] theorem Dev.modChute_nacks (d : Dev) (h : Nat) (f : Chute → Chute) : (d.modChute h f).nacks = d.nacks := rfl
@[simp] theorem Dev.modChute_shadowRecs (d : Dev) (h : Nat) (f : Chute → Chute) : (d.modChute h f).shadowRecs = d.shadowRecs := rfl
@[simp] theorem Dev.modChute_versions (d : Dev) (h : Nat) (f : Chute → Chute) : (d.modChute h f).versions = d.versions := rfl
@[simp] theorem Dev.modChute_flows (d : Dev) (h : Nat) (f : Chute → Chute) : (d.modChute h f).flows = d.flows := rfl
@[simp] theorem Dev.modChute_fences (d : Dev) (h : Nat) (f : Chute → Chute) : (d.modChute h f).fences = d.fences := rfl
@[simp] theorem Dev.modChute_due (d : Dev) (h : Nat) (f : Chute → Chute) : (d.modChute h f).due = d.due := rfl
@[simp] theorem Dev.modChute_out (d : Dev) (h : Nat) (f : Chute → Chute) : (d.modChute h f).out = d.out := rfl
@[simp] theorem Dev.modChute_draws (d : Dev) (h : Nat) (f : Chute → Chute) : (d.modChute h f).draws = d.draws := rfl
@[simp] theorem Dev.modChute_mac (d : Dev) (h : Nat) (f : Chute → Chute) : (d.modChute h f).mac = d.mac := rfl
@[simp] theorem Dev.modChute_shadows (d : Dev) (h : Nat) (f : Chute → Chute) : (d.modChute h f).shadows = d.shadows := rfl
@[simp] theorem Dev.modChute_atticWaits (d : Dev) (h : Nat) (f : Chute → Chute) : (d.modChute h f).atticWaits = d.atticWaits := rfl
/-- `modChute` changes the one that it names. -/
@[simp] theorem Dev.modChute_chute (d : Dev) (h j : Nat) (f : Chute → Chute) :
    (d.modChute h f).chute j = if j = h then f (d.chute h) else d.chute j := Tab.get_upd _ _ _ _ _

/-! ## modHatch -/

@[simp] theorem Dev.modHatch_lanes (d : Dev) (h : Nat) (f : Hatch → Hatch) : (d.modHatch h f).lanes = d.lanes := rfl
@[simp] theorem Dev.modHatch_ports (d : Dev) (h : Nat) (f : Hatch → Hatch) : (d.modHatch h f).ports = d.ports := rfl
@[simp] theorem Dev.modHatch_crates (d : Dev) (h : Nat) (f : Hatch → Hatch) : (d.modHatch h f).crates = d.crates := rfl
@[simp] theorem Dev.modHatch_chutes (d : Dev) (h : Nat) (f : Hatch → Hatch) : (d.modHatch h f).chutes = d.chutes := rfl
@[simp] theorem Dev.modHatch_modules (d : Dev) (h : Nat) (f : Hatch → Hatch) : (d.modHatch h f).modules = d.modules := rfl
@[simp] theorem Dev.modHatch_stackTab (d : Dev) (h : Nat) (f : Hatch → Hatch) : (d.modHatch h f).stackTab = d.stackTab := rfl
@[simp] theorem Dev.modHatch_arb (d : Dev) (h : Nat) (f : Hatch → Hatch) : (d.modHatch h f).arb = d.arb := rfl
@[simp] theorem Dev.modHatch_time (d : Dev) (h : Nat) (f : Hatch → Hatch) : (d.modHatch h f).time = d.time := rfl
@[simp] theorem Dev.modHatch_log (d : Dev) (h : Nat) (f : Hatch → Hatch) : (d.modHatch h f).log = d.log := rfl
@[simp] theorem Dev.modHatch_inv (d : Dev) (h : Nat) (f : Hatch → Hatch) : (d.modHatch h f).inv = d.inv := rfl
@[simp] theorem Dev.modHatch_attic (d : Dev) (h : Nat) (f : Hatch → Hatch) : (d.modHatch h f).attic = d.attic := rfl
@[simp] theorem Dev.modHatch_tele (d : Dev) (h : Nat) (f : Hatch → Hatch) : (d.modHatch h f).tele = d.tele := rfl
@[simp] theorem Dev.modHatch_power (d : Dev) (h : Nat) (f : Hatch → Hatch) : (d.modHatch h f).power = d.power := rfl
@[simp] theorem Dev.modHatch_board (d : Dev) (h : Nat) (f : Hatch → Hatch) : (d.modHatch h f).board = d.board := rfl
@[simp] theorem Dev.modHatch_held (d : Dev) (h : Nat) (f : Hatch → Hatch) : (d.modHatch h f).held = d.held := rfl
@[simp] theorem Dev.modHatch_nextHeld (d : Dev) (h : Nat) (f : Hatch → Hatch) : (d.modHatch h f).nextHeld = d.nextHeld := rfl
@[simp] theorem Dev.modHatch_net (d : Dev) (h : Nat) (f : Hatch → Hatch) : (d.modHatch h f).net = d.net := rfl
@[simp] theorem Dev.modHatch_waits (d : Dev) (h : Nat) (f : Hatch → Hatch) : (d.modHatch h f).waits = d.waits := rfl
@[simp] theorem Dev.modHatch_consumed (d : Dev) (h : Nat) (f : Hatch → Hatch) : (d.modHatch h f).consumed = d.consumed := rfl
@[simp] theorem Dev.modHatch_contexts (d : Dev) (h : Nat) (f : Hatch → Hatch) : (d.modHatch h f).contexts = d.contexts := rfl
@[simp] theorem Dev.modHatch_holding (d : Dev) (h : Nat) (f : Hatch → Hatch) : (d.modHatch h f).holding = d.holding := rfl
@[simp] theorem Dev.modHatch_nacks (d : Dev) (h : Nat) (f : Hatch → Hatch) : (d.modHatch h f).nacks = d.nacks := rfl
@[simp] theorem Dev.modHatch_shadowRecs (d : Dev) (h : Nat) (f : Hatch → Hatch) : (d.modHatch h f).shadowRecs = d.shadowRecs := rfl
@[simp] theorem Dev.modHatch_versions (d : Dev) (h : Nat) (f : Hatch → Hatch) : (d.modHatch h f).versions = d.versions := rfl
@[simp] theorem Dev.modHatch_flows (d : Dev) (h : Nat) (f : Hatch → Hatch) : (d.modHatch h f).flows = d.flows := rfl
@[simp] theorem Dev.modHatch_fences (d : Dev) (h : Nat) (f : Hatch → Hatch) : (d.modHatch h f).fences = d.fences := rfl
@[simp] theorem Dev.modHatch_due (d : Dev) (h : Nat) (f : Hatch → Hatch) : (d.modHatch h f).due = d.due := rfl
@[simp] theorem Dev.modHatch_out (d : Dev) (h : Nat) (f : Hatch → Hatch) : (d.modHatch h f).out = d.out := rfl
@[simp] theorem Dev.modHatch_draws (d : Dev) (h : Nat) (f : Hatch → Hatch) : (d.modHatch h f).draws = d.draws := rfl
@[simp] theorem Dev.modHatch_mac (d : Dev) (h : Nat) (f : Hatch → Hatch) : (d.modHatch h f).mac = d.mac := rfl
@[simp] theorem Dev.modHatch_shadows (d : Dev) (h : Nat) (f : Hatch → Hatch) : (d.modHatch h f).shadows = d.shadows := rfl
@[simp] theorem Dev.modHatch_atticWaits (d : Dev) (h : Nat) (f : Hatch → Hatch) : (d.modHatch h f).atticWaits = d.atticWaits := rfl
/-- `modHatch` changes the one that it names. -/
@[simp] theorem Dev.modHatch_hatch (d : Dev) (h j : Nat) (f : Hatch → Hatch) :
    (d.modHatch h f).hatch j = if j = h then f (d.hatch h) else d.hatch j := Tab.get_upd _ _ _ _ _

/-! ## modModule -/

@[simp] theorem Dev.modModule_lanes (d : Dev) (m : Nat) (f : Module → Module) : (d.modModule m f).lanes = d.lanes := rfl
@[simp] theorem Dev.modModule_ports (d : Dev) (m : Nat) (f : Module → Module) : (d.modModule m f).ports = d.ports := rfl
@[simp] theorem Dev.modModule_crates (d : Dev) (m : Nat) (f : Module → Module) : (d.modModule m f).crates = d.crates := rfl
@[simp] theorem Dev.modModule_chutes (d : Dev) (m : Nat) (f : Module → Module) : (d.modModule m f).chutes = d.chutes := rfl
@[simp] theorem Dev.modModule_hatches (d : Dev) (m : Nat) (f : Module → Module) : (d.modModule m f).hatches = d.hatches := rfl
@[simp] theorem Dev.modModule_stackTab (d : Dev) (m : Nat) (f : Module → Module) : (d.modModule m f).stackTab = d.stackTab := rfl
@[simp] theorem Dev.modModule_arb (d : Dev) (m : Nat) (f : Module → Module) : (d.modModule m f).arb = d.arb := rfl
@[simp] theorem Dev.modModule_time (d : Dev) (m : Nat) (f : Module → Module) : (d.modModule m f).time = d.time := rfl
@[simp] theorem Dev.modModule_log (d : Dev) (m : Nat) (f : Module → Module) : (d.modModule m f).log = d.log := rfl
@[simp] theorem Dev.modModule_inv (d : Dev) (m : Nat) (f : Module → Module) : (d.modModule m f).inv = d.inv := rfl
@[simp] theorem Dev.modModule_attic (d : Dev) (m : Nat) (f : Module → Module) : (d.modModule m f).attic = d.attic := rfl
@[simp] theorem Dev.modModule_tele (d : Dev) (m : Nat) (f : Module → Module) : (d.modModule m f).tele = d.tele := rfl
@[simp] theorem Dev.modModule_power (d : Dev) (m : Nat) (f : Module → Module) : (d.modModule m f).power = d.power := rfl
@[simp] theorem Dev.modModule_board (d : Dev) (m : Nat) (f : Module → Module) : (d.modModule m f).board = d.board := rfl
@[simp] theorem Dev.modModule_held (d : Dev) (m : Nat) (f : Module → Module) : (d.modModule m f).held = d.held := rfl
@[simp] theorem Dev.modModule_nextHeld (d : Dev) (m : Nat) (f : Module → Module) : (d.modModule m f).nextHeld = d.nextHeld := rfl
@[simp] theorem Dev.modModule_net (d : Dev) (m : Nat) (f : Module → Module) : (d.modModule m f).net = d.net := rfl
@[simp] theorem Dev.modModule_waits (d : Dev) (m : Nat) (f : Module → Module) : (d.modModule m f).waits = d.waits := rfl
@[simp] theorem Dev.modModule_consumed (d : Dev) (m : Nat) (f : Module → Module) : (d.modModule m f).consumed = d.consumed := rfl
@[simp] theorem Dev.modModule_contexts (d : Dev) (m : Nat) (f : Module → Module) : (d.modModule m f).contexts = d.contexts := rfl
@[simp] theorem Dev.modModule_holding (d : Dev) (m : Nat) (f : Module → Module) : (d.modModule m f).holding = d.holding := rfl
@[simp] theorem Dev.modModule_nacks (d : Dev) (m : Nat) (f : Module → Module) : (d.modModule m f).nacks = d.nacks := rfl
@[simp] theorem Dev.modModule_shadowRecs (d : Dev) (m : Nat) (f : Module → Module) : (d.modModule m f).shadowRecs = d.shadowRecs := rfl
@[simp] theorem Dev.modModule_versions (d : Dev) (m : Nat) (f : Module → Module) : (d.modModule m f).versions = d.versions := rfl
@[simp] theorem Dev.modModule_flows (d : Dev) (m : Nat) (f : Module → Module) : (d.modModule m f).flows = d.flows := rfl
@[simp] theorem Dev.modModule_fences (d : Dev) (m : Nat) (f : Module → Module) : (d.modModule m f).fences = d.fences := rfl
@[simp] theorem Dev.modModule_due (d : Dev) (m : Nat) (f : Module → Module) : (d.modModule m f).due = d.due := rfl
@[simp] theorem Dev.modModule_out (d : Dev) (m : Nat) (f : Module → Module) : (d.modModule m f).out = d.out := rfl
@[simp] theorem Dev.modModule_draws (d : Dev) (m : Nat) (f : Module → Module) : (d.modModule m f).draws = d.draws := rfl
@[simp] theorem Dev.modModule_mac (d : Dev) (m : Nat) (f : Module → Module) : (d.modModule m f).mac = d.mac := rfl
@[simp] theorem Dev.modModule_shadows (d : Dev) (m : Nat) (f : Module → Module) : (d.modModule m f).shadows = d.shadows := rfl
@[simp] theorem Dev.modModule_atticWaits (d : Dev) (m : Nat) (f : Module → Module) : (d.modModule m f).atticWaits = d.atticWaits := rfl
/-- `modModule` changes the one that it names. -/
@[simp] theorem Dev.modModule_module (d : Dev) (m j : Nat) (f : Module → Module) :
    (d.modModule m f).module j = if j = m then f (d.module m) else d.module j := Tab.get_upd _ _ _ _ _

/-! ## modTime -/

@[simp] theorem Dev.modTime_lanes (d : Dev) (f : TimeUnit → TimeUnit) : (d.modTime f).lanes = d.lanes := rfl
@[simp] theorem Dev.modTime_ports (d : Dev) (f : TimeUnit → TimeUnit) : (d.modTime f).ports = d.ports := rfl
@[simp] theorem Dev.modTime_crates (d : Dev) (f : TimeUnit → TimeUnit) : (d.modTime f).crates = d.crates := rfl
@[simp] theorem Dev.modTime_chutes (d : Dev) (f : TimeUnit → TimeUnit) : (d.modTime f).chutes = d.chutes := rfl
@[simp] theorem Dev.modTime_hatches (d : Dev) (f : TimeUnit → TimeUnit) : (d.modTime f).hatches = d.hatches := rfl
@[simp] theorem Dev.modTime_modules (d : Dev) (f : TimeUnit → TimeUnit) : (d.modTime f).modules = d.modules := rfl
@[simp] theorem Dev.modTime_stackTab (d : Dev) (f : TimeUnit → TimeUnit) : (d.modTime f).stackTab = d.stackTab := rfl
@[simp] theorem Dev.modTime_arb (d : Dev) (f : TimeUnit → TimeUnit) : (d.modTime f).arb = d.arb := rfl
@[simp] theorem Dev.modTime_log (d : Dev) (f : TimeUnit → TimeUnit) : (d.modTime f).log = d.log := rfl
@[simp] theorem Dev.modTime_inv (d : Dev) (f : TimeUnit → TimeUnit) : (d.modTime f).inv = d.inv := rfl
@[simp] theorem Dev.modTime_attic (d : Dev) (f : TimeUnit → TimeUnit) : (d.modTime f).attic = d.attic := rfl
@[simp] theorem Dev.modTime_tele (d : Dev) (f : TimeUnit → TimeUnit) : (d.modTime f).tele = d.tele := rfl
@[simp] theorem Dev.modTime_power (d : Dev) (f : TimeUnit → TimeUnit) : (d.modTime f).power = d.power := rfl
@[simp] theorem Dev.modTime_board (d : Dev) (f : TimeUnit → TimeUnit) : (d.modTime f).board = d.board := rfl
@[simp] theorem Dev.modTime_held (d : Dev) (f : TimeUnit → TimeUnit) : (d.modTime f).held = d.held := rfl
@[simp] theorem Dev.modTime_nextHeld (d : Dev) (f : TimeUnit → TimeUnit) : (d.modTime f).nextHeld = d.nextHeld := rfl
@[simp] theorem Dev.modTime_net (d : Dev) (f : TimeUnit → TimeUnit) : (d.modTime f).net = d.net := rfl
@[simp] theorem Dev.modTime_waits (d : Dev) (f : TimeUnit → TimeUnit) : (d.modTime f).waits = d.waits := rfl
@[simp] theorem Dev.modTime_consumed (d : Dev) (f : TimeUnit → TimeUnit) : (d.modTime f).consumed = d.consumed := rfl
@[simp] theorem Dev.modTime_contexts (d : Dev) (f : TimeUnit → TimeUnit) : (d.modTime f).contexts = d.contexts := rfl
@[simp] theorem Dev.modTime_holding (d : Dev) (f : TimeUnit → TimeUnit) : (d.modTime f).holding = d.holding := rfl
@[simp] theorem Dev.modTime_nacks (d : Dev) (f : TimeUnit → TimeUnit) : (d.modTime f).nacks = d.nacks := rfl
@[simp] theorem Dev.modTime_shadowRecs (d : Dev) (f : TimeUnit → TimeUnit) : (d.modTime f).shadowRecs = d.shadowRecs := rfl
@[simp] theorem Dev.modTime_versions (d : Dev) (f : TimeUnit → TimeUnit) : (d.modTime f).versions = d.versions := rfl
@[simp] theorem Dev.modTime_flows (d : Dev) (f : TimeUnit → TimeUnit) : (d.modTime f).flows = d.flows := rfl
@[simp] theorem Dev.modTime_fences (d : Dev) (f : TimeUnit → TimeUnit) : (d.modTime f).fences = d.fences := rfl
@[simp] theorem Dev.modTime_due (d : Dev) (f : TimeUnit → TimeUnit) : (d.modTime f).due = d.due := rfl
@[simp] theorem Dev.modTime_out (d : Dev) (f : TimeUnit → TimeUnit) : (d.modTime f).out = d.out := rfl
@[simp] theorem Dev.modTime_draws (d : Dev) (f : TimeUnit → TimeUnit) : (d.modTime f).draws = d.draws := rfl
@[simp] theorem Dev.modTime_mac (d : Dev) (f : TimeUnit → TimeUnit) : (d.modTime f).mac = d.mac := rfl
@[simp] theorem Dev.modTime_shadows (d : Dev) (f : TimeUnit → TimeUnit) : (d.modTime f).shadows = d.shadows := rfl
@[simp] theorem Dev.modTime_atticWaits (d : Dev) (f : TimeUnit → TimeUnit) : (d.modTime f).atticWaits = d.atticWaits := rfl

/-! ## modInv -/

@[simp] theorem Dev.modInv_lanes (d : Dev) (f : Inv → Inv) : (d.modInv f).lanes = d.lanes := rfl
@[simp] theorem Dev.modInv_ports (d : Dev) (f : Inv → Inv) : (d.modInv f).ports = d.ports := rfl
@[simp] theorem Dev.modInv_crates (d : Dev) (f : Inv → Inv) : (d.modInv f).crates = d.crates := rfl
@[simp] theorem Dev.modInv_chutes (d : Dev) (f : Inv → Inv) : (d.modInv f).chutes = d.chutes := rfl
@[simp] theorem Dev.modInv_hatches (d : Dev) (f : Inv → Inv) : (d.modInv f).hatches = d.hatches := rfl
@[simp] theorem Dev.modInv_modules (d : Dev) (f : Inv → Inv) : (d.modInv f).modules = d.modules := rfl
@[simp] theorem Dev.modInv_stackTab (d : Dev) (f : Inv → Inv) : (d.modInv f).stackTab = d.stackTab := rfl
@[simp] theorem Dev.modInv_arb (d : Dev) (f : Inv → Inv) : (d.modInv f).arb = d.arb := rfl
@[simp] theorem Dev.modInv_time (d : Dev) (f : Inv → Inv) : (d.modInv f).time = d.time := rfl
@[simp] theorem Dev.modInv_log (d : Dev) (f : Inv → Inv) : (d.modInv f).log = d.log := rfl
@[simp] theorem Dev.modInv_attic (d : Dev) (f : Inv → Inv) : (d.modInv f).attic = d.attic := rfl
@[simp] theorem Dev.modInv_tele (d : Dev) (f : Inv → Inv) : (d.modInv f).tele = d.tele := rfl
@[simp] theorem Dev.modInv_power (d : Dev) (f : Inv → Inv) : (d.modInv f).power = d.power := rfl
@[simp] theorem Dev.modInv_board (d : Dev) (f : Inv → Inv) : (d.modInv f).board = d.board := rfl
@[simp] theorem Dev.modInv_held (d : Dev) (f : Inv → Inv) : (d.modInv f).held = d.held := rfl
@[simp] theorem Dev.modInv_nextHeld (d : Dev) (f : Inv → Inv) : (d.modInv f).nextHeld = d.nextHeld := rfl
@[simp] theorem Dev.modInv_net (d : Dev) (f : Inv → Inv) : (d.modInv f).net = d.net := rfl
@[simp] theorem Dev.modInv_waits (d : Dev) (f : Inv → Inv) : (d.modInv f).waits = d.waits := rfl
@[simp] theorem Dev.modInv_consumed (d : Dev) (f : Inv → Inv) : (d.modInv f).consumed = d.consumed := rfl
@[simp] theorem Dev.modInv_contexts (d : Dev) (f : Inv → Inv) : (d.modInv f).contexts = d.contexts := rfl
@[simp] theorem Dev.modInv_holding (d : Dev) (f : Inv → Inv) : (d.modInv f).holding = d.holding := rfl
@[simp] theorem Dev.modInv_nacks (d : Dev) (f : Inv → Inv) : (d.modInv f).nacks = d.nacks := rfl
@[simp] theorem Dev.modInv_shadowRecs (d : Dev) (f : Inv → Inv) : (d.modInv f).shadowRecs = d.shadowRecs := rfl
@[simp] theorem Dev.modInv_versions (d : Dev) (f : Inv → Inv) : (d.modInv f).versions = d.versions := rfl
@[simp] theorem Dev.modInv_flows (d : Dev) (f : Inv → Inv) : (d.modInv f).flows = d.flows := rfl
@[simp] theorem Dev.modInv_fences (d : Dev) (f : Inv → Inv) : (d.modInv f).fences = d.fences := rfl
@[simp] theorem Dev.modInv_due (d : Dev) (f : Inv → Inv) : (d.modInv f).due = d.due := rfl
@[simp] theorem Dev.modInv_out (d : Dev) (f : Inv → Inv) : (d.modInv f).out = d.out := rfl
@[simp] theorem Dev.modInv_draws (d : Dev) (f : Inv → Inv) : (d.modInv f).draws = d.draws := rfl
@[simp] theorem Dev.modInv_mac (d : Dev) (f : Inv → Inv) : (d.modInv f).mac = d.mac := rfl
@[simp] theorem Dev.modInv_shadows (d : Dev) (f : Inv → Inv) : (d.modInv f).shadows = d.shadows := rfl
@[simp] theorem Dev.modInv_atticWaits (d : Dev) (f : Inv → Inv) : (d.modInv f).atticWaits = d.atticWaits := rfl

/-! ## modAttic -/

@[simp] theorem Dev.modAttic_lanes (d : Dev) (f : Attic → Attic) : (d.modAttic f).lanes = d.lanes := rfl
@[simp] theorem Dev.modAttic_ports (d : Dev) (f : Attic → Attic) : (d.modAttic f).ports = d.ports := rfl
@[simp] theorem Dev.modAttic_crates (d : Dev) (f : Attic → Attic) : (d.modAttic f).crates = d.crates := rfl
@[simp] theorem Dev.modAttic_chutes (d : Dev) (f : Attic → Attic) : (d.modAttic f).chutes = d.chutes := rfl
@[simp] theorem Dev.modAttic_hatches (d : Dev) (f : Attic → Attic) : (d.modAttic f).hatches = d.hatches := rfl
@[simp] theorem Dev.modAttic_modules (d : Dev) (f : Attic → Attic) : (d.modAttic f).modules = d.modules := rfl
@[simp] theorem Dev.modAttic_stackTab (d : Dev) (f : Attic → Attic) : (d.modAttic f).stackTab = d.stackTab := rfl
@[simp] theorem Dev.modAttic_arb (d : Dev) (f : Attic → Attic) : (d.modAttic f).arb = d.arb := rfl
@[simp] theorem Dev.modAttic_time (d : Dev) (f : Attic → Attic) : (d.modAttic f).time = d.time := rfl
@[simp] theorem Dev.modAttic_log (d : Dev) (f : Attic → Attic) : (d.modAttic f).log = d.log := rfl
@[simp] theorem Dev.modAttic_inv (d : Dev) (f : Attic → Attic) : (d.modAttic f).inv = d.inv := rfl
@[simp] theorem Dev.modAttic_tele (d : Dev) (f : Attic → Attic) : (d.modAttic f).tele = d.tele := rfl
@[simp] theorem Dev.modAttic_power (d : Dev) (f : Attic → Attic) : (d.modAttic f).power = d.power := rfl
@[simp] theorem Dev.modAttic_board (d : Dev) (f : Attic → Attic) : (d.modAttic f).board = d.board := rfl
@[simp] theorem Dev.modAttic_held (d : Dev) (f : Attic → Attic) : (d.modAttic f).held = d.held := rfl
@[simp] theorem Dev.modAttic_nextHeld (d : Dev) (f : Attic → Attic) : (d.modAttic f).nextHeld = d.nextHeld := rfl
@[simp] theorem Dev.modAttic_net (d : Dev) (f : Attic → Attic) : (d.modAttic f).net = d.net := rfl
@[simp] theorem Dev.modAttic_waits (d : Dev) (f : Attic → Attic) : (d.modAttic f).waits = d.waits := rfl
@[simp] theorem Dev.modAttic_consumed (d : Dev) (f : Attic → Attic) : (d.modAttic f).consumed = d.consumed := rfl
@[simp] theorem Dev.modAttic_contexts (d : Dev) (f : Attic → Attic) : (d.modAttic f).contexts = d.contexts := rfl
@[simp] theorem Dev.modAttic_holding (d : Dev) (f : Attic → Attic) : (d.modAttic f).holding = d.holding := rfl
@[simp] theorem Dev.modAttic_nacks (d : Dev) (f : Attic → Attic) : (d.modAttic f).nacks = d.nacks := rfl
@[simp] theorem Dev.modAttic_shadowRecs (d : Dev) (f : Attic → Attic) : (d.modAttic f).shadowRecs = d.shadowRecs := rfl
@[simp] theorem Dev.modAttic_versions (d : Dev) (f : Attic → Attic) : (d.modAttic f).versions = d.versions := rfl
@[simp] theorem Dev.modAttic_flows (d : Dev) (f : Attic → Attic) : (d.modAttic f).flows = d.flows := rfl
@[simp] theorem Dev.modAttic_fences (d : Dev) (f : Attic → Attic) : (d.modAttic f).fences = d.fences := rfl
@[simp] theorem Dev.modAttic_due (d : Dev) (f : Attic → Attic) : (d.modAttic f).due = d.due := rfl
@[simp] theorem Dev.modAttic_out (d : Dev) (f : Attic → Attic) : (d.modAttic f).out = d.out := rfl
@[simp] theorem Dev.modAttic_draws (d : Dev) (f : Attic → Attic) : (d.modAttic f).draws = d.draws := rfl
@[simp] theorem Dev.modAttic_mac (d : Dev) (f : Attic → Attic) : (d.modAttic f).mac = d.mac := rfl
@[simp] theorem Dev.modAttic_shadows (d : Dev) (f : Attic → Attic) : (d.modAttic f).shadows = d.shadows := rfl
@[simp] theorem Dev.modAttic_atticWaits (d : Dev) (f : Attic → Attic) : (d.modAttic f).atticWaits = d.atticWaits := rfl

/-! ## modTele -/

@[simp] theorem Dev.modTele_lanes (d : Dev) (f : Telemetry → Telemetry) : (d.modTele f).lanes = d.lanes := rfl
@[simp] theorem Dev.modTele_ports (d : Dev) (f : Telemetry → Telemetry) : (d.modTele f).ports = d.ports := rfl
@[simp] theorem Dev.modTele_crates (d : Dev) (f : Telemetry → Telemetry) : (d.modTele f).crates = d.crates := rfl
@[simp] theorem Dev.modTele_chutes (d : Dev) (f : Telemetry → Telemetry) : (d.modTele f).chutes = d.chutes := rfl
@[simp] theorem Dev.modTele_hatches (d : Dev) (f : Telemetry → Telemetry) : (d.modTele f).hatches = d.hatches := rfl
@[simp] theorem Dev.modTele_modules (d : Dev) (f : Telemetry → Telemetry) : (d.modTele f).modules = d.modules := rfl
@[simp] theorem Dev.modTele_stackTab (d : Dev) (f : Telemetry → Telemetry) : (d.modTele f).stackTab = d.stackTab := rfl
@[simp] theorem Dev.modTele_arb (d : Dev) (f : Telemetry → Telemetry) : (d.modTele f).arb = d.arb := rfl
@[simp] theorem Dev.modTele_time (d : Dev) (f : Telemetry → Telemetry) : (d.modTele f).time = d.time := rfl
@[simp] theorem Dev.modTele_log (d : Dev) (f : Telemetry → Telemetry) : (d.modTele f).log = d.log := rfl
@[simp] theorem Dev.modTele_inv (d : Dev) (f : Telemetry → Telemetry) : (d.modTele f).inv = d.inv := rfl
@[simp] theorem Dev.modTele_attic (d : Dev) (f : Telemetry → Telemetry) : (d.modTele f).attic = d.attic := rfl
@[simp] theorem Dev.modTele_power (d : Dev) (f : Telemetry → Telemetry) : (d.modTele f).power = d.power := rfl
@[simp] theorem Dev.modTele_board (d : Dev) (f : Telemetry → Telemetry) : (d.modTele f).board = d.board := rfl
@[simp] theorem Dev.modTele_held (d : Dev) (f : Telemetry → Telemetry) : (d.modTele f).held = d.held := rfl
@[simp] theorem Dev.modTele_nextHeld (d : Dev) (f : Telemetry → Telemetry) : (d.modTele f).nextHeld = d.nextHeld := rfl
@[simp] theorem Dev.modTele_net (d : Dev) (f : Telemetry → Telemetry) : (d.modTele f).net = d.net := rfl
@[simp] theorem Dev.modTele_waits (d : Dev) (f : Telemetry → Telemetry) : (d.modTele f).waits = d.waits := rfl
@[simp] theorem Dev.modTele_consumed (d : Dev) (f : Telemetry → Telemetry) : (d.modTele f).consumed = d.consumed := rfl
@[simp] theorem Dev.modTele_contexts (d : Dev) (f : Telemetry → Telemetry) : (d.modTele f).contexts = d.contexts := rfl
@[simp] theorem Dev.modTele_holding (d : Dev) (f : Telemetry → Telemetry) : (d.modTele f).holding = d.holding := rfl
@[simp] theorem Dev.modTele_nacks (d : Dev) (f : Telemetry → Telemetry) : (d.modTele f).nacks = d.nacks := rfl
@[simp] theorem Dev.modTele_shadowRecs (d : Dev) (f : Telemetry → Telemetry) : (d.modTele f).shadowRecs = d.shadowRecs := rfl
@[simp] theorem Dev.modTele_versions (d : Dev) (f : Telemetry → Telemetry) : (d.modTele f).versions = d.versions := rfl
@[simp] theorem Dev.modTele_flows (d : Dev) (f : Telemetry → Telemetry) : (d.modTele f).flows = d.flows := rfl
@[simp] theorem Dev.modTele_fences (d : Dev) (f : Telemetry → Telemetry) : (d.modTele f).fences = d.fences := rfl
@[simp] theorem Dev.modTele_due (d : Dev) (f : Telemetry → Telemetry) : (d.modTele f).due = d.due := rfl
@[simp] theorem Dev.modTele_out (d : Dev) (f : Telemetry → Telemetry) : (d.modTele f).out = d.out := rfl
@[simp] theorem Dev.modTele_draws (d : Dev) (f : Telemetry → Telemetry) : (d.modTele f).draws = d.draws := rfl
@[simp] theorem Dev.modTele_mac (d : Dev) (f : Telemetry → Telemetry) : (d.modTele f).mac = d.mac := rfl
@[simp] theorem Dev.modTele_shadows (d : Dev) (f : Telemetry → Telemetry) : (d.modTele f).shadows = d.shadows := rfl
@[simp] theorem Dev.modTele_atticWaits (d : Dev) (f : Telemetry → Telemetry) : (d.modTele f).atticWaits = d.atticWaits := rfl

/-! ## putCtx -/

@[simp] theorem Dev.putCtx_lanes (d : Dev) (c : Nat) (x : Option Context) : (d.putCtx c x).lanes = d.lanes := rfl
@[simp] theorem Dev.putCtx_ports (d : Dev) (c : Nat) (x : Option Context) : (d.putCtx c x).ports = d.ports := rfl
@[simp] theorem Dev.putCtx_crates (d : Dev) (c : Nat) (x : Option Context) : (d.putCtx c x).crates = d.crates := rfl
@[simp] theorem Dev.putCtx_chutes (d : Dev) (c : Nat) (x : Option Context) : (d.putCtx c x).chutes = d.chutes := rfl
@[simp] theorem Dev.putCtx_hatches (d : Dev) (c : Nat) (x : Option Context) : (d.putCtx c x).hatches = d.hatches := rfl
@[simp] theorem Dev.putCtx_modules (d : Dev) (c : Nat) (x : Option Context) : (d.putCtx c x).modules = d.modules := rfl
@[simp] theorem Dev.putCtx_stackTab (d : Dev) (c : Nat) (x : Option Context) : (d.putCtx c x).stackTab = d.stackTab := rfl
@[simp] theorem Dev.putCtx_arb (d : Dev) (c : Nat) (x : Option Context) : (d.putCtx c x).arb = d.arb := rfl
@[simp] theorem Dev.putCtx_time (d : Dev) (c : Nat) (x : Option Context) : (d.putCtx c x).time = d.time := rfl
@[simp] theorem Dev.putCtx_log (d : Dev) (c : Nat) (x : Option Context) : (d.putCtx c x).log = d.log := rfl
@[simp] theorem Dev.putCtx_inv (d : Dev) (c : Nat) (x : Option Context) : (d.putCtx c x).inv = d.inv := rfl
@[simp] theorem Dev.putCtx_attic (d : Dev) (c : Nat) (x : Option Context) : (d.putCtx c x).attic = d.attic := rfl
@[simp] theorem Dev.putCtx_tele (d : Dev) (c : Nat) (x : Option Context) : (d.putCtx c x).tele = d.tele := rfl
@[simp] theorem Dev.putCtx_power (d : Dev) (c : Nat) (x : Option Context) : (d.putCtx c x).power = d.power := rfl
@[simp] theorem Dev.putCtx_board (d : Dev) (c : Nat) (x : Option Context) : (d.putCtx c x).board = d.board := rfl
@[simp] theorem Dev.putCtx_held (d : Dev) (c : Nat) (x : Option Context) : (d.putCtx c x).held = d.held := rfl
@[simp] theorem Dev.putCtx_nextHeld (d : Dev) (c : Nat) (x : Option Context) : (d.putCtx c x).nextHeld = d.nextHeld := rfl
@[simp] theorem Dev.putCtx_net (d : Dev) (c : Nat) (x : Option Context) : (d.putCtx c x).net = d.net := rfl
@[simp] theorem Dev.putCtx_waits (d : Dev) (c : Nat) (x : Option Context) : (d.putCtx c x).waits = d.waits := rfl
@[simp] theorem Dev.putCtx_consumed (d : Dev) (c : Nat) (x : Option Context) : (d.putCtx c x).consumed = d.consumed := rfl
@[simp] theorem Dev.putCtx_holding (d : Dev) (c : Nat) (x : Option Context) : (d.putCtx c x).holding = d.holding := rfl
@[simp] theorem Dev.putCtx_nacks (d : Dev) (c : Nat) (x : Option Context) : (d.putCtx c x).nacks = d.nacks := rfl
@[simp] theorem Dev.putCtx_shadowRecs (d : Dev) (c : Nat) (x : Option Context) : (d.putCtx c x).shadowRecs = d.shadowRecs := rfl
@[simp] theorem Dev.putCtx_versions (d : Dev) (c : Nat) (x : Option Context) : (d.putCtx c x).versions = d.versions := rfl
@[simp] theorem Dev.putCtx_flows (d : Dev) (c : Nat) (x : Option Context) : (d.putCtx c x).flows = d.flows := rfl
@[simp] theorem Dev.putCtx_fences (d : Dev) (c : Nat) (x : Option Context) : (d.putCtx c x).fences = d.fences := rfl
@[simp] theorem Dev.putCtx_due (d : Dev) (c : Nat) (x : Option Context) : (d.putCtx c x).due = d.due := rfl
@[simp] theorem Dev.putCtx_out (d : Dev) (c : Nat) (x : Option Context) : (d.putCtx c x).out = d.out := rfl
@[simp] theorem Dev.putCtx_draws (d : Dev) (c : Nat) (x : Option Context) : (d.putCtx c x).draws = d.draws := rfl
@[simp] theorem Dev.putCtx_mac (d : Dev) (c : Nat) (x : Option Context) : (d.putCtx c x).mac = d.mac := rfl
@[simp] theorem Dev.putCtx_shadows (d : Dev) (c : Nat) (x : Option Context) : (d.putCtx c x).shadows = d.shadows := rfl
@[simp] theorem Dev.putCtx_atticWaits (d : Dev) (c : Nat) (x : Option Context) : (d.putCtx c x).atticWaits = d.atticWaits := rfl
/-- `putCtx` changes the one that it names. -/
@[simp] theorem Dev.putCtx_ctxAt (d : Dev) (c e : Nat) (x : Option Context) :
    (d.putCtx c x).ctxAt e = if e = c then x else d.ctxAt e := Tab.get_put _ _ _ _ _

/-! ## putHeld -/

@[simp] theorem Dev.putHeld_lanes (d : Dev) (h : Nat) (x : Held) : (d.putHeld h x).lanes = d.lanes := rfl
@[simp] theorem Dev.putHeld_ports (d : Dev) (h : Nat) (x : Held) : (d.putHeld h x).ports = d.ports := rfl
@[simp] theorem Dev.putHeld_crates (d : Dev) (h : Nat) (x : Held) : (d.putHeld h x).crates = d.crates := rfl
@[simp] theorem Dev.putHeld_chutes (d : Dev) (h : Nat) (x : Held) : (d.putHeld h x).chutes = d.chutes := rfl
@[simp] theorem Dev.putHeld_hatches (d : Dev) (h : Nat) (x : Held) : (d.putHeld h x).hatches = d.hatches := rfl
@[simp] theorem Dev.putHeld_modules (d : Dev) (h : Nat) (x : Held) : (d.putHeld h x).modules = d.modules := rfl
@[simp] theorem Dev.putHeld_stackTab (d : Dev) (h : Nat) (x : Held) : (d.putHeld h x).stackTab = d.stackTab := rfl
@[simp] theorem Dev.putHeld_arb (d : Dev) (h : Nat) (x : Held) : (d.putHeld h x).arb = d.arb := rfl
@[simp] theorem Dev.putHeld_time (d : Dev) (h : Nat) (x : Held) : (d.putHeld h x).time = d.time := rfl
@[simp] theorem Dev.putHeld_log (d : Dev) (h : Nat) (x : Held) : (d.putHeld h x).log = d.log := rfl
@[simp] theorem Dev.putHeld_inv (d : Dev) (h : Nat) (x : Held) : (d.putHeld h x).inv = d.inv := rfl
@[simp] theorem Dev.putHeld_attic (d : Dev) (h : Nat) (x : Held) : (d.putHeld h x).attic = d.attic := rfl
@[simp] theorem Dev.putHeld_tele (d : Dev) (h : Nat) (x : Held) : (d.putHeld h x).tele = d.tele := rfl
@[simp] theorem Dev.putHeld_power (d : Dev) (h : Nat) (x : Held) : (d.putHeld h x).power = d.power := rfl
@[simp] theorem Dev.putHeld_board (d : Dev) (h : Nat) (x : Held) : (d.putHeld h x).board = d.board := rfl
@[simp] theorem Dev.putHeld_nextHeld (d : Dev) (h : Nat) (x : Held) : (d.putHeld h x).nextHeld = d.nextHeld := rfl
@[simp] theorem Dev.putHeld_net (d : Dev) (h : Nat) (x : Held) : (d.putHeld h x).net = d.net := rfl
@[simp] theorem Dev.putHeld_waits (d : Dev) (h : Nat) (x : Held) : (d.putHeld h x).waits = d.waits := rfl
@[simp] theorem Dev.putHeld_consumed (d : Dev) (h : Nat) (x : Held) : (d.putHeld h x).consumed = d.consumed := rfl
@[simp] theorem Dev.putHeld_contexts (d : Dev) (h : Nat) (x : Held) : (d.putHeld h x).contexts = d.contexts := rfl
@[simp] theorem Dev.putHeld_holding (d : Dev) (h : Nat) (x : Held) : (d.putHeld h x).holding = d.holding := rfl
@[simp] theorem Dev.putHeld_nacks (d : Dev) (h : Nat) (x : Held) : (d.putHeld h x).nacks = d.nacks := rfl
@[simp] theorem Dev.putHeld_shadowRecs (d : Dev) (h : Nat) (x : Held) : (d.putHeld h x).shadowRecs = d.shadowRecs := rfl
@[simp] theorem Dev.putHeld_versions (d : Dev) (h : Nat) (x : Held) : (d.putHeld h x).versions = d.versions := rfl
@[simp] theorem Dev.putHeld_flows (d : Dev) (h : Nat) (x : Held) : (d.putHeld h x).flows = d.flows := rfl
@[simp] theorem Dev.putHeld_fences (d : Dev) (h : Nat) (x : Held) : (d.putHeld h x).fences = d.fences := rfl
@[simp] theorem Dev.putHeld_due (d : Dev) (h : Nat) (x : Held) : (d.putHeld h x).due = d.due := rfl
@[simp] theorem Dev.putHeld_out (d : Dev) (h : Nat) (x : Held) : (d.putHeld h x).out = d.out := rfl
@[simp] theorem Dev.putHeld_draws (d : Dev) (h : Nat) (x : Held) : (d.putHeld h x).draws = d.draws := rfl
@[simp] theorem Dev.putHeld_mac (d : Dev) (h : Nat) (x : Held) : (d.putHeld h x).mac = d.mac := rfl
@[simp] theorem Dev.putHeld_shadows (d : Dev) (h : Nat) (x : Held) : (d.putHeld h x).shadows = d.shadows := rfl
@[simp] theorem Dev.putHeld_atticWaits (d : Dev) (h : Nat) (x : Held) : (d.putHeld h x).atticWaits = d.atticWaits := rfl
/-- `putHeld` changes the one that it names. -/
@[simp] theorem Dev.putHeld_heldAt (d : Dev) (h k : Nat) (x : Held) :
    (d.putHeld h x).heldAt k = if k = h then some x else d.heldAt k := Tab.get_put _ _ _ _ _

/-! ## send -/

@[simp] theorem Dev.send_lanes (d : Dev) (m : Msg) : (d.send m).lanes = d.lanes := rfl
@[simp] theorem Dev.send_ports (d : Dev) (m : Msg) : (d.send m).ports = d.ports := rfl
@[simp] theorem Dev.send_crates (d : Dev) (m : Msg) : (d.send m).crates = d.crates := rfl
@[simp] theorem Dev.send_chutes (d : Dev) (m : Msg) : (d.send m).chutes = d.chutes := rfl
@[simp] theorem Dev.send_hatches (d : Dev) (m : Msg) : (d.send m).hatches = d.hatches := rfl
@[simp] theorem Dev.send_modules (d : Dev) (m : Msg) : (d.send m).modules = d.modules := rfl
@[simp] theorem Dev.send_stackTab (d : Dev) (m : Msg) : (d.send m).stackTab = d.stackTab := rfl
@[simp] theorem Dev.send_arb (d : Dev) (m : Msg) : (d.send m).arb = d.arb := rfl
@[simp] theorem Dev.send_time (d : Dev) (m : Msg) : (d.send m).time = d.time := rfl
@[simp] theorem Dev.send_log (d : Dev) (m : Msg) : (d.send m).log = d.log := rfl
@[simp] theorem Dev.send_inv (d : Dev) (m : Msg) : (d.send m).inv = d.inv := rfl
@[simp] theorem Dev.send_attic (d : Dev) (m : Msg) : (d.send m).attic = d.attic := rfl
@[simp] theorem Dev.send_tele (d : Dev) (m : Msg) : (d.send m).tele = d.tele := rfl
@[simp] theorem Dev.send_power (d : Dev) (m : Msg) : (d.send m).power = d.power := rfl
@[simp] theorem Dev.send_board (d : Dev) (m : Msg) : (d.send m).board = d.board := rfl
@[simp] theorem Dev.send_held (d : Dev) (m : Msg) : (d.send m).held = d.held := rfl
@[simp] theorem Dev.send_nextHeld (d : Dev) (m : Msg) : (d.send m).nextHeld = d.nextHeld := rfl
@[simp] theorem Dev.send_waits (d : Dev) (m : Msg) : (d.send m).waits = d.waits := rfl
@[simp] theorem Dev.send_consumed (d : Dev) (m : Msg) : (d.send m).consumed = d.consumed := rfl
@[simp] theorem Dev.send_contexts (d : Dev) (m : Msg) : (d.send m).contexts = d.contexts := rfl
@[simp] theorem Dev.send_holding (d : Dev) (m : Msg) : (d.send m).holding = d.holding := rfl
@[simp] theorem Dev.send_nacks (d : Dev) (m : Msg) : (d.send m).nacks = d.nacks := rfl
@[simp] theorem Dev.send_shadowRecs (d : Dev) (m : Msg) : (d.send m).shadowRecs = d.shadowRecs := rfl
@[simp] theorem Dev.send_versions (d : Dev) (m : Msg) : (d.send m).versions = d.versions := rfl
@[simp] theorem Dev.send_flows (d : Dev) (m : Msg) : (d.send m).flows = d.flows := rfl
@[simp] theorem Dev.send_fences (d : Dev) (m : Msg) : (d.send m).fences = d.fences := rfl
@[simp] theorem Dev.send_due (d : Dev) (m : Msg) : (d.send m).due = d.due := rfl
@[simp] theorem Dev.send_out (d : Dev) (m : Msg) : (d.send m).out = d.out := rfl
@[simp] theorem Dev.send_draws (d : Dev) (m : Msg) : (d.send m).draws = d.draws := rfl
@[simp] theorem Dev.send_mac (d : Dev) (m : Msg) : (d.send m).mac = d.mac := rfl
@[simp] theorem Dev.send_shadows (d : Dev) (m : Msg) : (d.send m).shadows = d.shadows := rfl
@[simp] theorem Dev.send_atticWaits (d : Dev) (m : Msg) : (d.send m).atticWaits = d.atticWaits := rfl

/-! ## setNet -/

@[simp] theorem Dev.setNet_lanes (d : Dev) (n : List Msg) : (d.setNet n).lanes = d.lanes := rfl
@[simp] theorem Dev.setNet_ports (d : Dev) (n : List Msg) : (d.setNet n).ports = d.ports := rfl
@[simp] theorem Dev.setNet_crates (d : Dev) (n : List Msg) : (d.setNet n).crates = d.crates := rfl
@[simp] theorem Dev.setNet_chutes (d : Dev) (n : List Msg) : (d.setNet n).chutes = d.chutes := rfl
@[simp] theorem Dev.setNet_hatches (d : Dev) (n : List Msg) : (d.setNet n).hatches = d.hatches := rfl
@[simp] theorem Dev.setNet_modules (d : Dev) (n : List Msg) : (d.setNet n).modules = d.modules := rfl
@[simp] theorem Dev.setNet_stackTab (d : Dev) (n : List Msg) : (d.setNet n).stackTab = d.stackTab := rfl
@[simp] theorem Dev.setNet_arb (d : Dev) (n : List Msg) : (d.setNet n).arb = d.arb := rfl
@[simp] theorem Dev.setNet_time (d : Dev) (n : List Msg) : (d.setNet n).time = d.time := rfl
@[simp] theorem Dev.setNet_log (d : Dev) (n : List Msg) : (d.setNet n).log = d.log := rfl
@[simp] theorem Dev.setNet_inv (d : Dev) (n : List Msg) : (d.setNet n).inv = d.inv := rfl
@[simp] theorem Dev.setNet_attic (d : Dev) (n : List Msg) : (d.setNet n).attic = d.attic := rfl
@[simp] theorem Dev.setNet_tele (d : Dev) (n : List Msg) : (d.setNet n).tele = d.tele := rfl
@[simp] theorem Dev.setNet_power (d : Dev) (n : List Msg) : (d.setNet n).power = d.power := rfl
@[simp] theorem Dev.setNet_board (d : Dev) (n : List Msg) : (d.setNet n).board = d.board := rfl
@[simp] theorem Dev.setNet_held (d : Dev) (n : List Msg) : (d.setNet n).held = d.held := rfl
@[simp] theorem Dev.setNet_nextHeld (d : Dev) (n : List Msg) : (d.setNet n).nextHeld = d.nextHeld := rfl
@[simp] theorem Dev.setNet_waits (d : Dev) (n : List Msg) : (d.setNet n).waits = d.waits := rfl
@[simp] theorem Dev.setNet_consumed (d : Dev) (n : List Msg) : (d.setNet n).consumed = d.consumed := rfl
@[simp] theorem Dev.setNet_contexts (d : Dev) (n : List Msg) : (d.setNet n).contexts = d.contexts := rfl
@[simp] theorem Dev.setNet_holding (d : Dev) (n : List Msg) : (d.setNet n).holding = d.holding := rfl
@[simp] theorem Dev.setNet_nacks (d : Dev) (n : List Msg) : (d.setNet n).nacks = d.nacks := rfl
@[simp] theorem Dev.setNet_shadowRecs (d : Dev) (n : List Msg) : (d.setNet n).shadowRecs = d.shadowRecs := rfl
@[simp] theorem Dev.setNet_versions (d : Dev) (n : List Msg) : (d.setNet n).versions = d.versions := rfl
@[simp] theorem Dev.setNet_flows (d : Dev) (n : List Msg) : (d.setNet n).flows = d.flows := rfl
@[simp] theorem Dev.setNet_fences (d : Dev) (n : List Msg) : (d.setNet n).fences = d.fences := rfl
@[simp] theorem Dev.setNet_due (d : Dev) (n : List Msg) : (d.setNet n).due = d.due := rfl
@[simp] theorem Dev.setNet_out (d : Dev) (n : List Msg) : (d.setNet n).out = d.out := rfl
@[simp] theorem Dev.setNet_draws (d : Dev) (n : List Msg) : (d.setNet n).draws = d.draws := rfl
@[simp] theorem Dev.setNet_mac (d : Dev) (n : List Msg) : (d.setNet n).mac = d.mac := rfl
@[simp] theorem Dev.setNet_shadows (d : Dev) (n : List Msg) : (d.setNet n).shadows = d.shadows := rfl
@[simp] theorem Dev.setNet_atticWaits (d : Dev) (n : List Msg) : (d.setNet n).atticWaits = d.atticWaits := rfl

/-! ## emit -/

@[simp] theorem Dev.emit_lanes (d : Dev) (o : Out) : (d.emit o).lanes = d.lanes := rfl
@[simp] theorem Dev.emit_ports (d : Dev) (o : Out) : (d.emit o).ports = d.ports := rfl
@[simp] theorem Dev.emit_crates (d : Dev) (o : Out) : (d.emit o).crates = d.crates := rfl
@[simp] theorem Dev.emit_chutes (d : Dev) (o : Out) : (d.emit o).chutes = d.chutes := rfl
@[simp] theorem Dev.emit_hatches (d : Dev) (o : Out) : (d.emit o).hatches = d.hatches := rfl
@[simp] theorem Dev.emit_modules (d : Dev) (o : Out) : (d.emit o).modules = d.modules := rfl
@[simp] theorem Dev.emit_stackTab (d : Dev) (o : Out) : (d.emit o).stackTab = d.stackTab := rfl
@[simp] theorem Dev.emit_arb (d : Dev) (o : Out) : (d.emit o).arb = d.arb := rfl
@[simp] theorem Dev.emit_time (d : Dev) (o : Out) : (d.emit o).time = d.time := rfl
@[simp] theorem Dev.emit_log (d : Dev) (o : Out) : (d.emit o).log = d.log := rfl
@[simp] theorem Dev.emit_inv (d : Dev) (o : Out) : (d.emit o).inv = d.inv := rfl
@[simp] theorem Dev.emit_attic (d : Dev) (o : Out) : (d.emit o).attic = d.attic := rfl
@[simp] theorem Dev.emit_tele (d : Dev) (o : Out) : (d.emit o).tele = d.tele := rfl
@[simp] theorem Dev.emit_power (d : Dev) (o : Out) : (d.emit o).power = d.power := rfl
@[simp] theorem Dev.emit_board (d : Dev) (o : Out) : (d.emit o).board = d.board := rfl
@[simp] theorem Dev.emit_held (d : Dev) (o : Out) : (d.emit o).held = d.held := rfl
@[simp] theorem Dev.emit_nextHeld (d : Dev) (o : Out) : (d.emit o).nextHeld = d.nextHeld := rfl
@[simp] theorem Dev.emit_net (d : Dev) (o : Out) : (d.emit o).net = d.net := rfl
@[simp] theorem Dev.emit_waits (d : Dev) (o : Out) : (d.emit o).waits = d.waits := rfl
@[simp] theorem Dev.emit_consumed (d : Dev) (o : Out) : (d.emit o).consumed = d.consumed := rfl
@[simp] theorem Dev.emit_contexts (d : Dev) (o : Out) : (d.emit o).contexts = d.contexts := rfl
@[simp] theorem Dev.emit_holding (d : Dev) (o : Out) : (d.emit o).holding = d.holding := rfl
@[simp] theorem Dev.emit_nacks (d : Dev) (o : Out) : (d.emit o).nacks = d.nacks := rfl
@[simp] theorem Dev.emit_shadowRecs (d : Dev) (o : Out) : (d.emit o).shadowRecs = d.shadowRecs := rfl
@[simp] theorem Dev.emit_versions (d : Dev) (o : Out) : (d.emit o).versions = d.versions := rfl
@[simp] theorem Dev.emit_flows (d : Dev) (o : Out) : (d.emit o).flows = d.flows := rfl
@[simp] theorem Dev.emit_fences (d : Dev) (o : Out) : (d.emit o).fences = d.fences := rfl
@[simp] theorem Dev.emit_due (d : Dev) (o : Out) : (d.emit o).due = d.due := rfl
@[simp] theorem Dev.emit_draws (d : Dev) (o : Out) : (d.emit o).draws = d.draws := rfl
@[simp] theorem Dev.emit_mac (d : Dev) (o : Out) : (d.emit o).mac = d.mac := rfl
@[simp] theorem Dev.emit_shadows (d : Dev) (o : Out) : (d.emit o).shadows = d.shadows := rfl
@[simp] theorem Dev.emit_atticWaits (d : Dev) (o : Out) : (d.emit o).atticWaits = d.atticWaits := rfl

/-! ## countN -/

@[simp] theorem Dev.countN_lanes (d : Dev) (code src n : Nat) : (d.countN code src n).lanes = d.lanes := rfl
@[simp] theorem Dev.countN_ports (d : Dev) (code src n : Nat) : (d.countN code src n).ports = d.ports := rfl
@[simp] theorem Dev.countN_crates (d : Dev) (code src n : Nat) : (d.countN code src n).crates = d.crates := rfl
@[simp] theorem Dev.countN_chutes (d : Dev) (code src n : Nat) : (d.countN code src n).chutes = d.chutes := rfl
@[simp] theorem Dev.countN_hatches (d : Dev) (code src n : Nat) : (d.countN code src n).hatches = d.hatches := rfl
@[simp] theorem Dev.countN_modules (d : Dev) (code src n : Nat) : (d.countN code src n).modules = d.modules := rfl
@[simp] theorem Dev.countN_stackTab (d : Dev) (code src n : Nat) : (d.countN code src n).stackTab = d.stackTab := rfl
@[simp] theorem Dev.countN_arb (d : Dev) (code src n : Nat) : (d.countN code src n).arb = d.arb := rfl
@[simp] theorem Dev.countN_time (d : Dev) (code src n : Nat) : (d.countN code src n).time = d.time := rfl
@[simp] theorem Dev.countN_log (d : Dev) (code src n : Nat) : (d.countN code src n).log = d.log := rfl
@[simp] theorem Dev.countN_inv (d : Dev) (code src n : Nat) : (d.countN code src n).inv = d.inv := rfl
@[simp] theorem Dev.countN_attic (d : Dev) (code src n : Nat) : (d.countN code src n).attic = d.attic := rfl
@[simp] theorem Dev.countN_power (d : Dev) (code src n : Nat) : (d.countN code src n).power = d.power := rfl
@[simp] theorem Dev.countN_board (d : Dev) (code src n : Nat) : (d.countN code src n).board = d.board := rfl
@[simp] theorem Dev.countN_held (d : Dev) (code src n : Nat) : (d.countN code src n).held = d.held := rfl
@[simp] theorem Dev.countN_nextHeld (d : Dev) (code src n : Nat) : (d.countN code src n).nextHeld = d.nextHeld := rfl
@[simp] theorem Dev.countN_net (d : Dev) (code src n : Nat) : (d.countN code src n).net = d.net := rfl
@[simp] theorem Dev.countN_waits (d : Dev) (code src n : Nat) : (d.countN code src n).waits = d.waits := rfl
@[simp] theorem Dev.countN_consumed (d : Dev) (code src n : Nat) : (d.countN code src n).consumed = d.consumed := rfl
@[simp] theorem Dev.countN_contexts (d : Dev) (code src n : Nat) : (d.countN code src n).contexts = d.contexts := rfl
@[simp] theorem Dev.countN_holding (d : Dev) (code src n : Nat) : (d.countN code src n).holding = d.holding := rfl
@[simp] theorem Dev.countN_nacks (d : Dev) (code src n : Nat) : (d.countN code src n).nacks = d.nacks := rfl
@[simp] theorem Dev.countN_shadowRecs (d : Dev) (code src n : Nat) : (d.countN code src n).shadowRecs = d.shadowRecs := rfl
@[simp] theorem Dev.countN_versions (d : Dev) (code src n : Nat) : (d.countN code src n).versions = d.versions := rfl
@[simp] theorem Dev.countN_flows (d : Dev) (code src n : Nat) : (d.countN code src n).flows = d.flows := rfl
@[simp] theorem Dev.countN_fences (d : Dev) (code src n : Nat) : (d.countN code src n).fences = d.fences := rfl
@[simp] theorem Dev.countN_due (d : Dev) (code src n : Nat) : (d.countN code src n).due = d.due := rfl
@[simp] theorem Dev.countN_out (d : Dev) (code src n : Nat) : (d.countN code src n).out = d.out := rfl
@[simp] theorem Dev.countN_draws (d : Dev) (code src n : Nat) : (d.countN code src n).draws = d.draws := rfl
@[simp] theorem Dev.countN_mac (d : Dev) (code src n : Nat) : (d.countN code src n).mac = d.mac := rfl
@[simp] theorem Dev.countN_shadows (d : Dev) (code src n : Nat) : (d.countN code src n).shadows = d.shadows := rfl
@[simp] theorem Dev.countN_atticWaits (d : Dev) (code src n : Nat) : (d.countN code src n).atticWaits = d.atticWaits := rfl

/-! ## count -/

@[simp] theorem Dev.count_lanes (d : Dev) (code src : Nat) : (d.count code src).lanes = d.lanes := rfl
@[simp] theorem Dev.count_ports (d : Dev) (code src : Nat) : (d.count code src).ports = d.ports := rfl
@[simp] theorem Dev.count_crates (d : Dev) (code src : Nat) : (d.count code src).crates = d.crates := rfl
@[simp] theorem Dev.count_chutes (d : Dev) (code src : Nat) : (d.count code src).chutes = d.chutes := rfl
@[simp] theorem Dev.count_hatches (d : Dev) (code src : Nat) : (d.count code src).hatches = d.hatches := rfl
@[simp] theorem Dev.count_modules (d : Dev) (code src : Nat) : (d.count code src).modules = d.modules := rfl
@[simp] theorem Dev.count_stackTab (d : Dev) (code src : Nat) : (d.count code src).stackTab = d.stackTab := rfl
@[simp] theorem Dev.count_arb (d : Dev) (code src : Nat) : (d.count code src).arb = d.arb := rfl
@[simp] theorem Dev.count_time (d : Dev) (code src : Nat) : (d.count code src).time = d.time := rfl
@[simp] theorem Dev.count_log (d : Dev) (code src : Nat) : (d.count code src).log = d.log := rfl
@[simp] theorem Dev.count_inv (d : Dev) (code src : Nat) : (d.count code src).inv = d.inv := rfl
@[simp] theorem Dev.count_attic (d : Dev) (code src : Nat) : (d.count code src).attic = d.attic := rfl
@[simp] theorem Dev.count_power (d : Dev) (code src : Nat) : (d.count code src).power = d.power := rfl
@[simp] theorem Dev.count_board (d : Dev) (code src : Nat) : (d.count code src).board = d.board := rfl
@[simp] theorem Dev.count_held (d : Dev) (code src : Nat) : (d.count code src).held = d.held := rfl
@[simp] theorem Dev.count_nextHeld (d : Dev) (code src : Nat) : (d.count code src).nextHeld = d.nextHeld := rfl
@[simp] theorem Dev.count_net (d : Dev) (code src : Nat) : (d.count code src).net = d.net := rfl
@[simp] theorem Dev.count_waits (d : Dev) (code src : Nat) : (d.count code src).waits = d.waits := rfl
@[simp] theorem Dev.count_consumed (d : Dev) (code src : Nat) : (d.count code src).consumed = d.consumed := rfl
@[simp] theorem Dev.count_contexts (d : Dev) (code src : Nat) : (d.count code src).contexts = d.contexts := rfl
@[simp] theorem Dev.count_holding (d : Dev) (code src : Nat) : (d.count code src).holding = d.holding := rfl
@[simp] theorem Dev.count_nacks (d : Dev) (code src : Nat) : (d.count code src).nacks = d.nacks := rfl
@[simp] theorem Dev.count_shadowRecs (d : Dev) (code src : Nat) : (d.count code src).shadowRecs = d.shadowRecs := rfl
@[simp] theorem Dev.count_versions (d : Dev) (code src : Nat) : (d.count code src).versions = d.versions := rfl
@[simp] theorem Dev.count_flows (d : Dev) (code src : Nat) : (d.count code src).flows = d.flows := rfl
@[simp] theorem Dev.count_fences (d : Dev) (code src : Nat) : (d.count code src).fences = d.fences := rfl
@[simp] theorem Dev.count_due (d : Dev) (code src : Nat) : (d.count code src).due = d.due := rfl
@[simp] theorem Dev.count_out (d : Dev) (code src : Nat) : (d.count code src).out = d.out := rfl
@[simp] theorem Dev.count_draws (d : Dev) (code src : Nat) : (d.count code src).draws = d.draws := rfl
@[simp] theorem Dev.count_mac (d : Dev) (code src : Nat) : (d.count code src).mac = d.mac := rfl
@[simp] theorem Dev.count_shadows (d : Dev) (code src : Nat) : (d.count code src).shadows = d.shadows := rfl
@[simp] theorem Dev.count_atticWaits (d : Dev) (code src : Nat) : (d.count code src).atticWaits = d.atticWaits := rfl

/-! ## logEvent -/

@[simp] theorem Dev.logEvent_lanes (d : Dev) (code kind src a b c : Nat) : (d.logEvent code kind src a b c).lanes = d.lanes := rfl
@[simp] theorem Dev.logEvent_ports (d : Dev) (code kind src a b c : Nat) : (d.logEvent code kind src a b c).ports = d.ports := rfl
@[simp] theorem Dev.logEvent_crates (d : Dev) (code kind src a b c : Nat) : (d.logEvent code kind src a b c).crates = d.crates := rfl
@[simp] theorem Dev.logEvent_chutes (d : Dev) (code kind src a b c : Nat) : (d.logEvent code kind src a b c).chutes = d.chutes := rfl
@[simp] theorem Dev.logEvent_hatches (d : Dev) (code kind src a b c : Nat) : (d.logEvent code kind src a b c).hatches = d.hatches := rfl
@[simp] theorem Dev.logEvent_modules (d : Dev) (code kind src a b c : Nat) : (d.logEvent code kind src a b c).modules = d.modules := rfl
@[simp] theorem Dev.logEvent_stackTab (d : Dev) (code kind src a b c : Nat) : (d.logEvent code kind src a b c).stackTab = d.stackTab := rfl
@[simp] theorem Dev.logEvent_arb (d : Dev) (code kind src a b c : Nat) : (d.logEvent code kind src a b c).arb = d.arb := rfl
@[simp] theorem Dev.logEvent_time (d : Dev) (code kind src a b c : Nat) : (d.logEvent code kind src a b c).time = d.time := rfl
@[simp] theorem Dev.logEvent_inv (d : Dev) (code kind src a b c : Nat) : (d.logEvent code kind src a b c).inv = d.inv := rfl
@[simp] theorem Dev.logEvent_attic (d : Dev) (code kind src a b c : Nat) : (d.logEvent code kind src a b c).attic = d.attic := rfl
@[simp] theorem Dev.logEvent_tele (d : Dev) (code kind src a b c : Nat) : (d.logEvent code kind src a b c).tele = d.tele := rfl
@[simp] theorem Dev.logEvent_power (d : Dev) (code kind src a b c : Nat) : (d.logEvent code kind src a b c).power = d.power := rfl
@[simp] theorem Dev.logEvent_board (d : Dev) (code kind src a b c : Nat) : (d.logEvent code kind src a b c).board = d.board := rfl
@[simp] theorem Dev.logEvent_held (d : Dev) (code kind src a b c : Nat) : (d.logEvent code kind src a b c).held = d.held := rfl
@[simp] theorem Dev.logEvent_nextHeld (d : Dev) (code kind src a b c : Nat) : (d.logEvent code kind src a b c).nextHeld = d.nextHeld := rfl
@[simp] theorem Dev.logEvent_net (d : Dev) (code kind src a b c : Nat) : (d.logEvent code kind src a b c).net = d.net := rfl
@[simp] theorem Dev.logEvent_waits (d : Dev) (code kind src a b c : Nat) : (d.logEvent code kind src a b c).waits = d.waits := rfl
@[simp] theorem Dev.logEvent_consumed (d : Dev) (code kind src a b c : Nat) : (d.logEvent code kind src a b c).consumed = d.consumed := rfl
@[simp] theorem Dev.logEvent_contexts (d : Dev) (code kind src a b c : Nat) : (d.logEvent code kind src a b c).contexts = d.contexts := rfl
@[simp] theorem Dev.logEvent_holding (d : Dev) (code kind src a b c : Nat) : (d.logEvent code kind src a b c).holding = d.holding := rfl
@[simp] theorem Dev.logEvent_nacks (d : Dev) (code kind src a b c : Nat) : (d.logEvent code kind src a b c).nacks = d.nacks := rfl
@[simp] theorem Dev.logEvent_shadowRecs (d : Dev) (code kind src a b c : Nat) : (d.logEvent code kind src a b c).shadowRecs = d.shadowRecs := rfl
@[simp] theorem Dev.logEvent_versions (d : Dev) (code kind src a b c : Nat) : (d.logEvent code kind src a b c).versions = d.versions := rfl
@[simp] theorem Dev.logEvent_flows (d : Dev) (code kind src a b c : Nat) : (d.logEvent code kind src a b c).flows = d.flows := rfl
@[simp] theorem Dev.logEvent_fences (d : Dev) (code kind src a b c : Nat) : (d.logEvent code kind src a b c).fences = d.fences := rfl
@[simp] theorem Dev.logEvent_due (d : Dev) (code kind src a b c : Nat) : (d.logEvent code kind src a b c).due = d.due := rfl
@[simp] theorem Dev.logEvent_out (d : Dev) (code kind src a b c : Nat) : (d.logEvent code kind src a b c).out = d.out := rfl
@[simp] theorem Dev.logEvent_draws (d : Dev) (code kind src a b c : Nat) : (d.logEvent code kind src a b c).draws = d.draws := rfl
@[simp] theorem Dev.logEvent_mac (d : Dev) (code kind src a b c : Nat) : (d.logEvent code kind src a b c).mac = d.mac := rfl
@[simp] theorem Dev.logEvent_shadows (d : Dev) (code kind src a b c : Nat) : (d.logEvent code kind src a b c).shadows = d.shadows := rfl
@[simp] theorem Dev.logEvent_atticWaits (d : Dev) (code kind src a b c : Nat) : (d.logEvent code kind src a b c).atticWaits = d.atticWaits := rfl

/-! ## setImm -/

@[simp] theorem Dev.setImm_lanes (d : Dev) (i s v : Nat) : (d.setImm i s v).lanes = d.lanes := rfl
@[simp] theorem Dev.setImm_ports (d : Dev) (i s v : Nat) : (d.setImm i s v).ports = d.ports := rfl
@[simp] theorem Dev.setImm_crates (d : Dev) (i s v : Nat) : (d.setImm i s v).crates = d.crates := rfl
@[simp] theorem Dev.setImm_chutes (d : Dev) (i s v : Nat) : (d.setImm i s v).chutes = d.chutes := rfl
@[simp] theorem Dev.setImm_hatches (d : Dev) (i s v : Nat) : (d.setImm i s v).hatches = d.hatches := rfl
@[simp] theorem Dev.setImm_modules (d : Dev) (i s v : Nat) : (d.setImm i s v).modules = d.modules := rfl
@[simp] theorem Dev.setImm_stackTab (d : Dev) (i s v : Nat) : (d.setImm i s v).stackTab = d.stackTab := rfl
@[simp] theorem Dev.setImm_arb (d : Dev) (i s v : Nat) : (d.setImm i s v).arb = d.arb := rfl
@[simp] theorem Dev.setImm_time (d : Dev) (i s v : Nat) : (d.setImm i s v).time = d.time := rfl
@[simp] theorem Dev.setImm_log (d : Dev) (i s v : Nat) : (d.setImm i s v).log = d.log := rfl
@[simp] theorem Dev.setImm_attic (d : Dev) (i s v : Nat) : (d.setImm i s v).attic = d.attic := rfl
@[simp] theorem Dev.setImm_tele (d : Dev) (i s v : Nat) : (d.setImm i s v).tele = d.tele := rfl
@[simp] theorem Dev.setImm_power (d : Dev) (i s v : Nat) : (d.setImm i s v).power = d.power := rfl
@[simp] theorem Dev.setImm_board (d : Dev) (i s v : Nat) : (d.setImm i s v).board = d.board := rfl
@[simp] theorem Dev.setImm_held (d : Dev) (i s v : Nat) : (d.setImm i s v).held = d.held := rfl
@[simp] theorem Dev.setImm_nextHeld (d : Dev) (i s v : Nat) : (d.setImm i s v).nextHeld = d.nextHeld := rfl
@[simp] theorem Dev.setImm_net (d : Dev) (i s v : Nat) : (d.setImm i s v).net = d.net := rfl
@[simp] theorem Dev.setImm_waits (d : Dev) (i s v : Nat) : (d.setImm i s v).waits = d.waits := rfl
@[simp] theorem Dev.setImm_consumed (d : Dev) (i s v : Nat) : (d.setImm i s v).consumed = d.consumed := rfl
@[simp] theorem Dev.setImm_contexts (d : Dev) (i s v : Nat) : (d.setImm i s v).contexts = d.contexts := rfl
@[simp] theorem Dev.setImm_holding (d : Dev) (i s v : Nat) : (d.setImm i s v).holding = d.holding := rfl
@[simp] theorem Dev.setImm_nacks (d : Dev) (i s v : Nat) : (d.setImm i s v).nacks = d.nacks := rfl
@[simp] theorem Dev.setImm_shadowRecs (d : Dev) (i s v : Nat) : (d.setImm i s v).shadowRecs = d.shadowRecs := rfl
@[simp] theorem Dev.setImm_versions (d : Dev) (i s v : Nat) : (d.setImm i s v).versions = d.versions := rfl
@[simp] theorem Dev.setImm_flows (d : Dev) (i s v : Nat) : (d.setImm i s v).flows = d.flows := rfl
@[simp] theorem Dev.setImm_fences (d : Dev) (i s v : Nat) : (d.setImm i s v).fences = d.fences := rfl
@[simp] theorem Dev.setImm_due (d : Dev) (i s v : Nat) : (d.setImm i s v).due = d.due := rfl
@[simp] theorem Dev.setImm_out (d : Dev) (i s v : Nat) : (d.setImm i s v).out = d.out := rfl
@[simp] theorem Dev.setImm_draws (d : Dev) (i s v : Nat) : (d.setImm i s v).draws = d.draws := rfl
@[simp] theorem Dev.setImm_mac (d : Dev) (i s v : Nat) : (d.setImm i s v).mac = d.mac := rfl
@[simp] theorem Dev.setImm_shadows (d : Dev) (i s v : Nat) : (d.setImm i s v).shadows = d.shadows := rfl
@[simp] theorem Dev.setImm_atticWaits (d : Dev) (i s v : Nat) : (d.setImm i s v).atticWaits = d.atticWaits := rfl

/-! ## setBase -/

@[simp] theorem Dev.setBase_lanes (d : Dev) (a v : Nat) : (d.setBase a v).lanes = d.lanes := rfl
@[simp] theorem Dev.setBase_ports (d : Dev) (a v : Nat) : (d.setBase a v).ports = d.ports := rfl
@[simp] theorem Dev.setBase_crates (d : Dev) (a v : Nat) : (d.setBase a v).crates = d.crates := rfl
@[simp] theorem Dev.setBase_chutes (d : Dev) (a v : Nat) : (d.setBase a v).chutes = d.chutes := rfl
@[simp] theorem Dev.setBase_hatches (d : Dev) (a v : Nat) : (d.setBase a v).hatches = d.hatches := rfl
@[simp] theorem Dev.setBase_modules (d : Dev) (a v : Nat) : (d.setBase a v).modules = d.modules := rfl
@[simp] theorem Dev.setBase_stackTab (d : Dev) (a v : Nat) : (d.setBase a v).stackTab = d.stackTab := rfl
@[simp] theorem Dev.setBase_arb (d : Dev) (a v : Nat) : (d.setBase a v).arb = d.arb := rfl
@[simp] theorem Dev.setBase_time (d : Dev) (a v : Nat) : (d.setBase a v).time = d.time := rfl
@[simp] theorem Dev.setBase_log (d : Dev) (a v : Nat) : (d.setBase a v).log = d.log := rfl
@[simp] theorem Dev.setBase_attic (d : Dev) (a v : Nat) : (d.setBase a v).attic = d.attic := rfl
@[simp] theorem Dev.setBase_tele (d : Dev) (a v : Nat) : (d.setBase a v).tele = d.tele := rfl
@[simp] theorem Dev.setBase_power (d : Dev) (a v : Nat) : (d.setBase a v).power = d.power := rfl
@[simp] theorem Dev.setBase_board (d : Dev) (a v : Nat) : (d.setBase a v).board = d.board := rfl
@[simp] theorem Dev.setBase_held (d : Dev) (a v : Nat) : (d.setBase a v).held = d.held := rfl
@[simp] theorem Dev.setBase_nextHeld (d : Dev) (a v : Nat) : (d.setBase a v).nextHeld = d.nextHeld := rfl
@[simp] theorem Dev.setBase_net (d : Dev) (a v : Nat) : (d.setBase a v).net = d.net := rfl
@[simp] theorem Dev.setBase_waits (d : Dev) (a v : Nat) : (d.setBase a v).waits = d.waits := rfl
@[simp] theorem Dev.setBase_consumed (d : Dev) (a v : Nat) : (d.setBase a v).consumed = d.consumed := rfl
@[simp] theorem Dev.setBase_contexts (d : Dev) (a v : Nat) : (d.setBase a v).contexts = d.contexts := rfl
@[simp] theorem Dev.setBase_holding (d : Dev) (a v : Nat) : (d.setBase a v).holding = d.holding := rfl
@[simp] theorem Dev.setBase_nacks (d : Dev) (a v : Nat) : (d.setBase a v).nacks = d.nacks := rfl
@[simp] theorem Dev.setBase_shadowRecs (d : Dev) (a v : Nat) : (d.setBase a v).shadowRecs = d.shadowRecs := rfl
@[simp] theorem Dev.setBase_versions (d : Dev) (a v : Nat) : (d.setBase a v).versions = d.versions := rfl
@[simp] theorem Dev.setBase_flows (d : Dev) (a v : Nat) : (d.setBase a v).flows = d.flows := rfl
@[simp] theorem Dev.setBase_fences (d : Dev) (a v : Nat) : (d.setBase a v).fences = d.fences := rfl
@[simp] theorem Dev.setBase_due (d : Dev) (a v : Nat) : (d.setBase a v).due = d.due := rfl
@[simp] theorem Dev.setBase_out (d : Dev) (a v : Nat) : (d.setBase a v).out = d.out := rfl
@[simp] theorem Dev.setBase_draws (d : Dev) (a v : Nat) : (d.setBase a v).draws = d.draws := rfl
@[simp] theorem Dev.setBase_mac (d : Dev) (a v : Nat) : (d.setBase a v).mac = d.mac := rfl
@[simp] theorem Dev.setBase_shadows (d : Dev) (a v : Nat) : (d.setBase a v).shadows = d.shadows := rfl
@[simp] theorem Dev.setBase_atticWaits (d : Dev) (a v : Nat) : (d.setBase a v).atticWaits = d.atticWaits := rfl

/-! ## Counters -/

/-- `countN` advances the one counter that it names. -/
theorem Dev.countN_tallyOf (d : Dev) (code src n k j : Nat) :
    (d.countN code src n).tallyOf k j =
      if k * 2048 + j = code * 2048 + src then wrapAdd 64 (d.tallyOf code src) n else d.tallyOf k j :=
  Tab.get_upd _ _ _ _ _

end Sys2Proof.Machine
end

