-- ==== Sys2Proof/Laws/Verdict.lean ====
section
/-! SUPPORT. What lets a commit pass its checks, one premise for each check (R310 to R312). -/

namespace Sys2Proof.Machine

/-- Of the coupled checks: what lets a commit pass, check by check (R311). -/
theorem coupledCheck_ok {v : Nv} {d : Dev} {staged : List (Nat × Nat)} {x : Nat} {b : Tab Nat} {q : Dev}
    (hb : d.putStaged d.baseBefore staged = b) (hq : d.devAt x = q)
    (old : (d.pendingOld d.baseBefore b ((staged.map (·.1)).filter (fun a => isStaged (a / 256) (a % 256)))).cells.isEmpty = true)
    (config : (d.under b {}).configFault = none) (version : q.versionFault staged = none)
    (share : (q.under b {}).shareFault = none) (move : (q.remapFault (d.remapsOf d.baseBefore b)).1 = none)
    (chute : d.chuteWriteFault staged = none) (action : d.actionFault v (d.under b {}) staged x = none)
    (anchor : d.anchorFault (d.under d.baseBefore {}) (d.under b {}) staged x = none)
    (context : (((q.remapFault (d.remapsOf d.baseBefore b)).2.under (q.under b d.inv.held).inv.base
      (q.under b d.inv.held).inv.held).contextFault staged).1 = none)
    (forced : (((q.remapFault (d.remapsOf d.baseBefore b)).2.under (q.under b d.inv.held).inv.base
      (q.under b d.inv.held).inv.held).contextFault staged).2.overrideFault staged = none) :
    d.coupledCheck v staged x = {} := by
  subst hb hq
  unfold Dev.coupledCheck
  simp only [old, config, version, share, move, chute, action, anchor, context, forced, if_true, List.findSome?_cons, id,
    List.findSome?_nil]

/-- Of all the checks of a commit: what lets it pass (R310, R312). -/
theorem verdict_ok_of {v : Nv} {d : Dev} {session x : Nat} {staged : List (Nat × Nat)} {b : Tab Nat}
    (hb : d.putStaged d.baseBefore staged = b) (near : d.step + d.cfg 0xF000 1 ≤ x) (room : d.inv.sealed.length < 16)
    (order : d.inv.sealed.any (fun s => decide (x ≤ s.step)) = false) (item : d.itemFault b = none)
    (life : d.lifeFault v session staged = none) (conflict : d.itemsConflict b = none)
    (coupled : d.coupledCheck v staged x = {}) (late : (d.now : Int) ≤ d.crossing x - 16 * 65536000) :
    (d.verdict v session staged x).status = .ok := by
  subst hb
  unfold Dev.verdict
  simp only [order, item, life, conflict, coupled, Bool.false_eq_true, if_false, ne_eq, not_true_eq_false]
  rw [if_neg (by omega), if_neg (by omega), if_neg (by omega)]

end Sys2Proof.Machine
end

