-- ==== Sys2Proof/Tests/Slice0.lean ====
section
/-! SUPPORT. Tests: the ill-formed commands that `Instr.wf` refuses, values that the manual's worked examples give, and for each
statement with hypotheses a witness that meets them. -/

set_option Elab.async false

namespace Sys2Proof.Tests

open Sys2Proof Sys2Proof.Machine

/-! ## Well-formed and ill-formed commands -/

/-- A header field one past its width, and extensions, frames and requests that break a range each. -/
def badFrame : Frame := { hdr := { tc := 8 } }

theorem test_wf_headers :
    ({} : Hdr).wf = true ∧ ([{ version := 16 }, { tc := 8 }, { rsv1 := 32 }, { opcode := 256 }, { rsv3 := 128 }, { dst := 2 ^ 24 }, { src := 2 ^ 24 },
      { rsv10 := 8 }, { len := 8192 }, { seq := 65536 }, { ack := 65536 }, { corr := 2 ^ 32 }, { pcheck := 2 ^ 64 }, { hcheck := 2 ^ 32 }] :
      List Hdr).all (fun h => !h.wf) = true := by decide +kernel

theorem test_wf_extensions :
    ({} : Ext).wf = true ∧ ([{ ctx := 2 ^ 24 }, { gen := 256 }, { chunk := 2 ^ 32 }, { phase := 16 }, { member := 2 ^ 20 }, { alive := 65536 },
      { fmt := 16 }, { rsv45 := 4 }, { rsv46 := 4 }, { count := 2 ^ 14 }] : List Ext).all (fun e => !e.wf) = true := by decide +kernel

theorem test_wf_frames :
    ({} : Frame).wf = true ∧ ([badFrame, { ext := some { phase := 16 } }, { mac := some { dst := 2 ^ 48 } }, { mac := some { ether := 65536 } },
      { mac := some { tags := [1] } }, { payload := [0] }, { hdr := { len := 1 }, pad := [0] }, { raw := true }] : List Frame).all (fun f => !f.wf) = true := by decide +kernel

theorem test_wf_accepts_boot : ([
    .powerUp, .powerLoss, .railOutOfRange 8, .railRecovery (some 1) 0xFFF 7, .coldReset 0, .boot (some 1) 0xFFF ⟨7, {}⟩,
    .coldResetRequest 0xFFFFFFFF, .wipeComplete, .imageLoaded 0xFFFFFFFF, .inventoryServiceReady] : List Instr).all Instr.wf = true := by decide +kernel

theorem test_wf_refuses_boot : ([
    .railOutOfRange 9, .railRecovery (some 2) 0xFFF 7, .railRecovery (some 1) 0x1000 7, .railRecovery (some 1) 0xFFF 8,
    .coldReset (2 ^ 64), .boot (some 2) 0xFFF ⟨7, {}⟩, .boot (some 1) 0x1000 ⟨7, {}⟩, .boot (some 1) 0xFFF ⟨8, {}⟩,
    .boot none 0 ⟨0, { data := [(0, 256)] }⟩, .boot none 0 ⟨0, { slotA := some { header := 2 ^ 4096 } }⟩, .coldResetRequest (2 ^ 32),
    .imageLoaded (2 ^ 32)] : List Instr).all (fun i => !i.wf) = true := by decide +kernel

theorem test_wf_accepts_power : ([
    .refclkLost 1, .refclkRestored 0xFFF 7, .thermtrip, .powerMeasurement 65535 (List.replicate 9 0), .powerCapRaise,
    .hotSpotReading 127 65535, .thermalFrequencyRaise 127] : List Instr).all Instr.wf = true := by decide +kernel

theorem test_wf_refuses_power : ([
    .refclkLost 2, .refclkRestored 0x1000 7, .refclkRestored 0xFFF 8, .powerMeasurement 65536 (List.replicate 9 0),
    .powerMeasurement 65535 [], .powerMeasurement 65535 (List.replicate 9 (2 ^ 32)), .hotSpotReading 128 65535,
    .hotSpotReading 127 65536, .thermalFrequencyRaise 128] : List Instr).all (fun i => !i.wf) = true := by decide +kernel

theorem test_wf_accepts_time : ([
    .ppsInEdge 0, .ppsOutPulse, .step 1023 {} 0xFFFFFFFF 0, .stepSend 1023 0, .stepBoundary, .timeSourceLost, .nextPpsSecond 0,
    .atticFrequencyAdjustment (-2 ^ 31), .atticPhaseAdjustment (-2 ^ 63), .timestampQueueRead 127] : List Instr).all Instr.wf = true := by decide +kernel

theorem test_wf_refuses_time : ([
    .ppsInEdge (2 ^ 80), .step 1024 {} 0xFFFFFFFF 0, .step 1023 {} (2 ^ 32) 0, .step 1023 badFrame 0xFFFFFFFF 0, .step 1023 {} 0xFFFFFFFF (2 ^ 80), .stepSend 1024 0,
    .stepSend 1023 (2 ^ 80), .nextPpsSecond (2 ^ 64), .atticFrequencyAdjustment (2 ^ 31), .atticPhaseAdjustment (2 ^ 63),
    .timestampQueueRead 128] : List Instr).all (fun i => !i.wf) = true := by decide +kernel

theorem test_wf_accepts_optics : ([
    .laserModuleInserted 15, .laserModuleRemoved 15, .fecAlignmentTimeout 1023, .loopSweepStart 1023 true,
    .sweepEnd 1023 true [48000] (-32768), .acquireEnd 1023 true 65535, .verifyEnd 1023 true ⟨0, 0, 0⟩ (-32768),
    .trackUpdate 1023 true (-2 ^ 31) true, .ringLostLock 1023 true, .reverification 1023 true,
    .reverificationEnd 1023 true ⟨0, 0, 0⟩ (-32768), .lightLost 1023 true, .lightReturned 1023 true,
    .holdLimitExpiry 1023 true, .faultRetry 1023 true, .activityWord 127 65535, .laserChannelFailed 15 7, .sparing 15,
    .spareTuned 15, .selectorVerified 15, .spareCommandSpare 15 7, .spareCommandReturn 15 7,
    .biasControl 15 (List.replicate 8 0) 255, .receivedPowerMeasurement 1023 65535, .errorMonitorInterval 1023 0 0 0 0 0,
    .hatchWarmUpTimeout 7, .hatchSensorReading 7 [1, 2, 3, 4], .laserModuleFault 15] : List Instr).all Instr.wf = true := by decide +kernel

theorem test_wf_refuses_optics_1 : ([
    .laserModuleInserted 16, .laserModuleRemoved 16, .fecAlignmentTimeout 1024, .loopSweepStart 1024 true,
    .sweepEnd 1024 true [48000] (-32768), .sweepEnd 1023 true [48001] (-32768), .sweepEnd 1023 true [48000] 32768,
    .sweepEnd 1023 true [48000] (-32769), .acquireEnd 1024 true 65535, .acquireEnd 1023 true 65536,
    .verifyEnd 1024 true ⟨0, 0, 0⟩ (-32768), .verifyEnd 1023 true ⟨32768, 0, 0⟩ (-32768),
    .verifyEnd 1023 true ⟨0, -32769, 0⟩ (-32768), .verifyEnd 1023 true ⟨0, 0, 32768⟩ (-32768),
    .verifyEnd 1023 true ⟨0, 0, 0⟩ 32768, .verifyEnd 1023 true ⟨0, 0, 0⟩ (-32769), .trackUpdate 1024 true (-2 ^ 31) true,
    .trackUpdate 1023 true (2 ^ 31) true, .ringLostLock 1024 true, .reverification 1024 true,
    .reverificationEnd 1024 true ⟨0, 0, 0⟩ (-32768), .reverificationEnd 1023 true ⟨32768, 0, 0⟩ (-32768),
    .reverificationEnd 1023 true ⟨0, 0, 0⟩ 32768, .reverificationEnd 1023 true ⟨0, 0, 0⟩ (-32769), .lightLost 1024 true,
    .lightReturned 1024 true, .holdLimitExpiry 1024 true, .faultRetry 1024 true, .activityWord 128 65535,
    .activityWord 127 65536, .laserChannelFailed 16 7, .laserChannelFailed 15 8, .sparing 16, .spareTuned 16,
    .selectorVerified 16, .spareCommandSpare 16 7, .spareCommandSpare 15 8, .spareCommandReturn 16 7, .spareCommandReturn 15 8,
    .biasControl 16 (List.replicate 8 0) 255] : List Instr).all (fun i => !i.wf) = true := by decide +kernel

theorem test_wf_refuses_optics_2 : ([
    .biasControl 15 [] 255, .biasControl 15 (List.replicate 8 65536) 255, .biasControl 15 (List.replicate 8 0) 256,
    .receivedPowerMeasurement 1024 65535, .receivedPowerMeasurement 1023 65536, .errorMonitorInterval 1024 0 0 0 0 0,
    .errorMonitorInterval 1023 (2 ^ 64) 0 0 0 0, .errorMonitorInterval 1023 0 (2 ^ 64) 0 0 0,
    .errorMonitorInterval 1023 0 0 (2 ^ 64) 0 0, .errorMonitorInterval 1023 0 0 0 (2 ^ 64) 0,
    .errorMonitorInterval 1023 0 0 0 0 (2 ^ 64), .hatchWarmUpTimeout 8, .hatchSensorReading 8 [1, 2, 3, 4],
    .hatchSensorReading 7 [1, 2, 3], .hatchSensorReading 7 [1, 2, 3, 65536], .laserModuleFault 16] : List Instr).all (fun i => !i.wf) = true := by decide +kernel

theorem test_wf_accepts_link : ([
    .pcsLockGained 1023, .pcsLockLost 1023, .hello 1023 {} 0xFFFFFFFF 0, .helloSend 0, .link 1023 {} 0xFFFFFFFF 0, .linkSend 1023 0,
    .lnack 1023 {} 0xFFFFFFFF 0, .lnackSend 1023 0, .creditReportLate 1023, .acknowledgementDeadline 1023, .replay 1023 0,
    .laneLost 1023, .absenceTimeout 1023] : List Instr).all Instr.wf = true := by decide +kernel

theorem test_wf_refuses_link : ([
    .pcsLockGained 1024, .pcsLockLost 1024, .hello 1024 {} 0xFFFFFFFF 0, .hello 1023 {} (2 ^ 32) 0, .hello 1023 badFrame 0xFFFFFFFF 0,
    .hello 1023 {} 0xFFFFFFFF (2 ^ 80), .helloSend (2 ^ 80), .link 1024 {} 0xFFFFFFFF 0, .link 1023 badFrame 0xFFFFFFFF 0,
    .link 1023 {} 0xFFFFFFFF (2 ^ 80), .linkSend 1024 0, .linkSend 1023 (2 ^ 80), .lnack 1024 {} 0xFFFFFFFF 0,
    .lnack 1023 badFrame 0xFFFFFFFF 0, .lnack 1023 {} 0xFFFFFFFF (2 ^ 80), .lnackSend 1024 0, .lnackSend 1023 (2 ^ 80),
    .creditReportLate 1024, .acknowledgementDeadline 1024, .replay 1024 0, .replay 1023 (2 ^ 80), .laneLost 1024,
    .absenceTimeout 1024] : List Instr).all (fun i => !i.wf) = true := by decide +kernel

theorem test_wf_accepts_ingress : ([
    .data 1023 {} 0 2, .contrib 1023 {} 0xFFFFFFFF ⟨0, 2, none, true⟩, .result 1023 {} 0, .cnack 1023 {} 0xFFFFFFFF 0, .mgmt 1023 {} 0xFFFFFFFF 0,
    .ptpFrame 1023 {} ⟨0, 0⟩, .foreignFrame 1023 {} ⟨0, 0⟩, .frameTail 1023 0xFFFFFFFF 0] : List Instr).all Instr.wf = true := by decide +kernel

theorem test_wf_refuses_ingress : ([
    .data 1024 {} 0 2, .data 1023 badFrame 0 2, .data 1023 {} (2 ^ 80) 2, .data 1023 {} 0 3, .contrib 1024 {} 0xFFFFFFFF ⟨0, 2, none, true⟩, .contrib 1023 {} 0 ⟨0, 3, none, true⟩, .contrib 1023 {} 0 ⟨0, 0, (some (.egress 1024 0)), true⟩,
    .contrib 1023 badFrame 0xFFFFFFFF ⟨0, 0, none, true⟩, .contrib 1023 {} 0xFFFFFFFF ⟨(2 ^ 80), 0, none, true⟩, .result 1024 {} 0, .result 1023 badFrame 0,
    .result 1023 {} (2 ^ 80), .cnack 1024 {} 0xFFFFFFFF 0, .cnack 1023 badFrame 0xFFFFFFFF 0, .cnack 1023 {} 0xFFFFFFFF (2 ^ 80),
    .mgmt 1024 {} 0xFFFFFFFF 0, .mgmt 1023 badFrame 0xFFFFFFFF 0, .mgmt 1023 {} 0xFFFFFFFF (2 ^ 80), .ptpFrame 1024 {} ⟨0, 0⟩,
    .ptpFrame 1023 badFrame ⟨0, 0⟩, .ptpFrame 1023 {} ⟨0, (2 ^ 80)⟩, .foreignFrame 1024 {} ⟨0, 0⟩, .foreignFrame 1023 badFrame ⟨0, 0⟩,
    .foreignFrame 1023 {} ⟨0, (2 ^ 80)⟩, .frameTail 1024 0xFFFFFFFF 0, .frameTail 1023 0xFFFFFFFF (2 ^ 80)] : List Instr).all (fun i => !i.wf) = true := by decide +kernel

theorem test_wf_accepts_egress : ([
    .pushArrival 1023, .descriptor 1023, .deferReply 127, .freeEntryAnnouncement 127 127, .schedulerSelection 1023,
    .pull 1023 2, .frameTransmissionStart 1023 0, .frameTransmissionEnd 1023, .release none 1, .frameRecordRelease 127,
    .multicastDescriptor 127, .reply 127, .openMapChange 127 1023, .wormCut (.egress 1023 16) 1] : List Instr).all Instr.wf = true := by decide +kernel

theorem test_wf_refuses_egress : ([
    .pushArrival 1024, .descriptor 1024, .deferReply 128, .freeEntryAnnouncement 128 127, .freeEntryAnnouncement 127 128,
    .schedulerSelection 1024, .pull 1024 2, .pull 1023 3, .frameTransmissionStart 1024 0,
    .frameTransmissionStart 1023 (2 ^ 80), .frameTransmissionEnd 1024, .release (some 1024) 1, .frameRecordRelease 128,
    .multicastDescriptor 128, .reply 128, .openMapChange 128 1023, .openMapChange 127 1024, .wormCut (.egress 1024 0) 1,
    .wormCut (.egress 0 17) 1, .wormCut (.larderWrite 128 0) 1, .wormCut (.larderWrite 0 10) 1, .wormCut (.router 0 25) 1,
    .wormCut (.larderRead 0 128) 1, .wormCut (.bridge 8 0 0) 1, .wormCut (.bridge 0 2 0) 1, .wormCut (.cellar 12 0) 1,
    .wormCut (.cellar 0 67) 1] : List Instr).all (fun i => !i.wf) = true := by decide +kernel

theorem test_wf_accepts_contexts : ([
    .memberAbsentNotice 127, .install 0, .arm 0xFFFFFF 255, .reset 0xFFFFFF 255, .retirePark 0xFFFFFF, .retireFree 0xFFFFFF,
    .holdTimeExpiry 127, .stragglerTimeout 0xFFFFFF 127 0x1FFFF, .resultWritten 0xFFFFFF 127 ⟨0x1FFFF, true⟩,
    .upwardContributionTimeout 0xFFFFFF 255 0xFFFFFFFF, .planSwitch, .planOverrideForceA 0xFFFFFF,
    .planOverrideForceB 0xFFFFFF, .planOverrideReturn 0xFFFFFF, .combinerDerate 127 255, .combinerRemap 127 255,
    .remapGroupMove 0xFFFFFF 127 0x1FFFF, .engineAcknowledgement 0xFFFFFF 127 0x1FFFF,
    .spillGroupClearDone 0xFFFFFF 127 0x1FFFF, .shadowCopy 0xFFFFFF 127 0x1FFFF, .shadowCompletionNotice 0xFFFFFF 127 0x1FFFF,
    .shadowValues 0xFFFFFF 127 0x1FFFF 0 0, .shelfSlotZeroed 0xFFFFFF 127 0x1FFFF] : List Instr).all Instr.wf = true := by decide +kernel

theorem test_wf_refuses_contexts_1 : ([
    .memberAbsentNotice 128, .install (2 ^ 4096), .arm 0x1000000 255, .arm 0xFFFFFF 256, .reset 0x1000000 255,
    .reset 0xFFFFFF 256, .retirePark 0x1000000, .retireFree 0x1000000, .holdTimeExpiry 128,
    .stragglerTimeout 0x1000000 127 0x1FFFF, .stragglerTimeout 0xFFFFFF 128 0x1FFFF, .stragglerTimeout 0xFFFFFF 127 0x20000,
    .resultWritten 0x1000000 127 ⟨0x1FFFF, true⟩, .resultWritten 0xFFFFFF 128 ⟨0x1FFFF, true⟩, .resultWritten 0xFFFFFF 127 ⟨0x20000, true⟩,
    .upwardContributionTimeout 0x1000000 255 0xFFFFFFFF, .upwardContributionTimeout 0xFFFFFF 256 0xFFFFFFFF,
    .upwardContributionTimeout 0xFFFFFF 255 (2 ^ 32), .planOverrideForceA 0x1000000, .planOverrideForceB 0x1000000,
    .planOverrideReturn 0x1000000, .combinerDerate 128 255, .combinerDerate 127 256, .combinerRemap 128 255,
    .combinerRemap 127 256, .remapGroupMove 0x1000000 127 0x1FFFF, .remapGroupMove 0xFFFFFF 128 0x1FFFF,
    .remapGroupMove 0xFFFFFF 127 0x20000, .engineAcknowledgement 0x1000000 127 0x1FFFF,
    .engineAcknowledgement 0xFFFFFF 128 0x1FFFF, .engineAcknowledgement 0xFFFFFF 127 0x20000,
    .spillGroupClearDone 0x1000000 127 0x1FFFF, .spillGroupClearDone 0xFFFFFF 128 0x1FFFF,
    .spillGroupClearDone 0xFFFFFF 127 0x20000, .shadowCopy 0x1000000 127 0x1FFFF, .shadowCopy 0xFFFFFF 128 0x1FFFF,
    .shadowCopy 0xFFFFFF 127 0x20000, .shadowCompletionNotice 0x1000000 127 0x1FFFF,
    .shadowCompletionNotice 0xFFFFFF 128 0x1FFFF, .shadowCompletionNotice 0xFFFFFF 127 0x20000] : List Instr).all (fun i => !i.wf) = true := by decide +kernel

theorem test_wf_refuses_contexts_2 : ([
    .shadowValues 0x1000000 127 0x1FFFF 0 0, .shadowValues 0xFFFFFF 128 0x1FFFF 0 0, .shadowValues 0xFFFFFF 127 0x20000 0 0,
    .shadowValues 0xFFFFFF 127 0x1FFFF (2 ^ 64) 0, .shadowValues 0xFFFFFF 127 0x1FFFF 0 (2 ^ 64),
    .shelfSlotZeroed 0x1000000 127 0x1FFFF, .shelfSlotZeroed 0xFFFFFF 128 0x1FFFF, .shelfSlotZeroed 0xFFFFFF 127 0x20000] : List Instr).all (fun i => !i.wf) = true := by decide +kernel

theorem test_wf_accepts_routes : ([
    .prepareVersion 1, .flipToVersion 1, .versionRetirement, .shaperRefill 1023 0, .flowContextFetchDone 127 0,
    .flowContextWrite 0 0] : List Instr).all Instr.wf = true := by decide +kernel

theorem test_wf_refuses_routes : ([
    .prepareVersion 2, .flipToVersion 2, .shaperRefill 1024 0, .shaperRefill 1023 (2 ^ 80), .flowContextFetchDone 128 0,
    .flowContextFetchDone 127 (2 ^ 22), .flowContextWrite (2 ^ 22) 0, .flowContextWrite 0 (2 ^ 512)] : List Instr).all (fun i => !i.wf) = true := by decide +kernel

theorem test_wf_accepts_services : ([
    .crateHealthStateWrite 127 255, .atticSend {} none (some 65535) (some 65535), .acknowledge 0xFFFFFFFF,
    .noticeSubscription 65535 255, .notice 65535, .portGroupReset 127, .arbiterRecordClearAll, .arbiterStalledFlagClear] : List Instr).all Instr.wf = true := by decide +kernel

theorem test_wf_refuses_services : ([
    .crateHealthStateWrite 128 255, .crateHealthStateWrite 127 256, .atticSend badFrame none (some 65535) (some 65535),
    .atticSend {} (some 1024) (some 65535) (some 65535), .atticSend {} none (some 65536) (some 65535),
    .atticSend {} none (some 65535) (some 65536), .acknowledge (2 ^ 32), .noticeSubscription 65536 255,
    .noticeSubscription 65535 256, .notice 65536, .portGroupReset 128] : List Instr).all (fun i => !i.wf) = true := by decide +kernel

theorem test_wf_accepts_cellar : ([
    .scrub 11 2 (.replay 1023), .cellarUncorrectableError 11 0 (.replay 1023), .stackFailed 11] : List Instr).all Instr.wf = true := by decide +kernel

theorem test_wf_refuses_cellar : ([
    .scrub 12 2 (.replay 1023), .scrub 11 3 (.replay 1023), .scrub 11 2 (.replay 1024),
    .cellarUncorrectableError 12 0 (.replay 1023), .cellarUncorrectableError 11 (2 ^ 40) (.replay 1023),
    .cellarUncorrectableError 11 0 (.replay 1024), .stackFailed 12] : List Instr).all (fun i => !i.wf) = true := by decide +kernel

theorem test_wf_accepts_chutes : ([
    .chuteMapWrite 7 0, .chuteProgrammeStart 7 [(255, .set)] [(255, .set)], .chuteProgrammeEnd 7, .chutePowerGoodRead 7] : List Instr).all Instr.wf = true := by decide +kernel

theorem test_wf_refuses_chutes : ([
    .chuteMapWrite 8 0, .chuteMapWrite 7 (2 ^ 128), .chuteProgrammeStart 8 [(255, .set)] [(255, .set)],
    .chuteProgrammeStart 7 [(256, .set)] [(255, .set)], .chuteProgrammeStart 7 [(255, .set)] [(256, .set)],
    .chuteProgrammeEnd 8, .chutePowerGoodRead 8] : List Instr).all (fun i => !i.wf) = true := by decide +kernel

theorem test_wf_accepts_inventory : ([
    .read {} [⟨65535, 255, true⟩], .write {} 65535 [⟨65535, 255, 1, 255⟩], .entryWrite {} 65535 ⟨65535, 255, 1, 255⟩,
    .openTransaction {}, .commit {} 65535 0, .abort {} 65535, .cancel {} 0, .status {}, .unknownMessageType {} 8,
    .transactionExpiry 65535, .commitApply 255, .quiesceEntryInForce 65535 255 127, .coldValueStore] : List Instr).all Instr.wf = true := by decide +kernel

theorem test_wf_refuses_inventory : ([
    .read { src := 0x1000000 } [⟨65535, 255, true⟩], .read { lane := some 1024 } [⟨65535, 255, true⟩],
    .read { session := 65536 } [⟨65535, 255, true⟩], .read { version := 16 } [⟨65535, 255, true⟩],
    .read { tag := 65536 } [⟨65535, 255, true⟩], .read { target := 2 ^ 64 } [⟨65535, 255, true⟩], .read {} [⟨65536, 0, true⟩],
    .read {} [⟨0, 256, true⟩], .read {} (List.replicate 1024 ⟨0, 0, true⟩),
    .write { src := 0x1000000 } 65535 [⟨65535, 255, 1, 255⟩], .write {} 65536 [⟨65535, 255, 1, 255⟩],
    .write {} 65535 [⟨0, 0, 1, 256⟩], .write {} 65535 [⟨0, 256, 1, 0⟩],
    .entryWrite { src := 0x1000000 } 65535 ⟨65535, 255, 1, 255⟩, .entryWrite {} 65536 ⟨65535, 255, 1, 255⟩,
    .entryWrite {} 65535 ⟨65536, 0, 0, 0⟩, .entryWrite {} 65535 ⟨0, 0, 65536, 0⟩, .entryWrite {} 65535 ⟨0, 0, 1, 256⟩,
    .openTransaction { src := 0x1000000 }, .commit { src := 0x1000000 } 65535 0, .commit {} 65536 0, .commit {} 65535 (2 ^ 64),
    .abort { src := 0x1000000 } 65535, .abort {} 65536, .cancel { src := 0x1000000 } 0, .cancel {} (2 ^ 64),
    .status { src := 0x1000000 }, .unknownMessageType { src := 0x1000000 } 8, .unknownMessageType {} 7,
    .unknownMessageType {} 1, .unknownMessageType {} 256, .transactionExpiry 65536, .commitApply 256,
    .quiesceEntryInForce 65536 255 127, .quiesceEntryInForce 65535 256 127, .quiesceEntryInForce 65535 255 128] : List Instr).all (fun i => !i.wf) = true := by decide +kernel

theorem test_wf_accepts_attic : ([
    .init 0xFFFFFF none 0 0 0 0, .confirm 65535 0, .dataRecord 0xFFFFFF (some 1023) [] [] { slotA := some {}, data := [(0, 255)] }, .close none [] [],
    .sessionIdleTimeout 65535, .watchdogService, .watchdogFirstExpiry, .watchdogSecondExpiry, .atticRestartRequest 0xFFFFFFFF,
    .firmwareHalt, .atticMemoryWiped, .trialConfirm, .trialWindowExpiry,
    .lifeCycleRequest 65535 0 0, .lifeCycleTransition 7, .advanceSecurityVersion 0xFFFFFFFF true,
    .revokeFerestumKeySlot 255 true, .attestationRequest 0, .attestationReportReady] : List Instr).all Instr.wf = true := by decide +kernel

theorem test_wf_refuses_attic : ([
    .init 0x1000000 none 0 0 0 0, .init 0xFFFFFF (some 1024) 0 0 0 0, .init 0xFFFFFF none (2 ^ 512) 0 0 0,
    .init 0xFFFFFF none 0 (2 ^ 512) 0 0, .init 0xFFFFFF none 0 0 (2 ^ 64) 0, .init 0xFFFFFF none 0 0 0 (2 ^ 64),
    .confirm 65536 0, .confirm 65535 (2 ^ 256), .dataRecord 0x1000000 none [] [] {}, .dataRecord 0 (some 1024) [] [] {},
    .dataRecord 0 none [] (List.replicate 4097 0) {}, .dataRecord 0 none [] [] { data := [(2 ^ 32, 0)] }, .dataRecord 0 none [] [] { slotB := some { bodySm3 := 2 ^ 256 } },
    .close (some 1024) [] [], .close none [] (List.replicate 4097 0),
    .sessionIdleTimeout 65536, .atticRestartRequest (2 ^ 32),
    .lifeCycleRequest 65536 0 0, .lifeCycleRequest 65535 (2 ^ 576) 0,
    .lifeCycleRequest 65535 0 (2 ^ 64), .lifeCycleTransition 8, .advanceSecurityVersion (2 ^ 32) true,
    .revokeFerestumKeySlot 256 true, .attestationRequest (2 ^ 256)] : List Instr).all (fun i => !i.wf) = true := by decide +kernel

theorem test_wf_accepts_telemetry : ([
    .snapshot, .snapshotRecordComplete, .congestionMap, .namedSnapshotRequest 0, .congestionMapRequest 0,
    .telemetrySubscription 65535 255, .telemetry] : List Instr).all Instr.wf = true := by decide +kernel

theorem test_wf_refuses_telemetry : ([
    .namedSnapshotRequest (2 ^ 64), .congestionMapRequest (2 ^ 64), .telemetrySubscription 65536 255,
    .telemetrySubscription 65535 256] : List Instr).all (fun i => !i.wf) = true := by decide +kernel

/-! ## Small states -/

/-- A state with nothing waiting and the non-volatile state as manufactured. -/
def st (d : Dev) : State := { dev := d }

/-- An Attic that runs on a device that has booted. -/
def onAttic : Attic := { holding := false, state := .running, bootStep := 9, nodeId := 7 }

/-- A booted device. -/
def devOn : Dev := { attic := onAttic, board := { resetN := true } }

/-- A lane whose hellos match and whose rings track, with its control frames of the step sent; channel 6 has a ring of 64 flits. -/
def goodLane : Lane := {
  disc := { status := .match_, verified := true, hadValid := true, helloStep := some 0 }
  tx := { linkSent := some 0 }
  time := { sentStep := some 0 }
  rx := { lock := true, rings := ⟨[(6, { size := 64, initial := 64 })]⟩ }
  optics := { modl := { state := .track }, drop := { state := .track }, light := true, status := 4 } }

/-- A booted device with lanes 0 to 7 good and their ports up. -/
def devUp : Dev := { devOn with
  lanes := ⟨(List.range 8).map (fun l => (l, goodLane))⟩
  ports := ⟨(List.range 8).map (fun l => (l, { state := .up }))⟩ }

/-- A frame of the size that its header gives, sealed. -/
def mk (h : Hdr) (x : Option Ext) (n : Nat) : Frame :=
  ({ hdr := { h with len := n }, ext := x, payload := List.replicate n 0 } : Frame).padded.sealed

/-- A control frame of an opcode. -/
def ctl (opcode : Nat) (p : List Byte) : Frame := devOn.controlFrame 0 opcode (controlPayload p)

/-- A DATA frame to leaf 0 of hall 0. -/
def dataFrame : Frame := mk { opcode := 1, tc := 0, dst := 5, src := 9 } none 28

/-- An install record by its bytes that are not zero. -/
def mkRec (l : List (Nat × Nat)) : Nat :=
  packBits ((List.range 512).map (fun j => (8, ((l.find? (fun p => decide (p.1 = j))).map (·.2)).getD 0)))

/-- A SUM of two members in FP32, one chunk of four elements, one group, on Crate 0. -/
def sumRec : Nat := mkRec [(2, 1), (3, 1), (5, 0x60), (7, 4), (11, 2), (20, 0x80), (22, 1), (31, 100)]

/-! ## Values that the manual's worked examples give -/

/-- ASCII "123456789". -/
def digits : List Byte := (List.range 9).map (fun k => BitVec.ofNat 8 (0x31 + k))

/-- Table 03-5 and R357. -/
theorem test_check_values :
    crc32c digits = 0xE3069283 ∧ crc32 digits = 0xCBF43926 ∧ crc64ecma digits = 0x6C40DF5F0B497347 ∧
      crc16ibm3740 digits = 0x29B1 ∧ crc64we digits = 0x62EC59E3F1A4F00A ∧ crc32c [] = 0 ∧ crc64we [] = 0 := by decide +kernel

/-- R54: a 4,096-byte contribution occupies 65 flits, a barrier token one, a hello two. -/
theorem test_flits :
    ({ hdr := { len := 4096 }, ext := some {} } : Frame).flits = 65 ∧ ({ hdr := { len := 0 }, ext := some {} } : Frame).flits = 1 ∧
      ({ hdr := { len := 64 } } : Frame).flits = 2 := by decide +kernel

/-- R59 and chapter 03's example: alive 0x0014 after 0x0013 is accepted, 0x0015 and 0x0016 are gaps. -/
theorem test_alive :
    aliveCheck 0x0014 0x0013 = .accept ∧ aliveCheck 0x0015 0x0013 = .gap ∧ aliveCheck 0x0016 0x0013 = .gap ∧
      aliveCheck 0x0015 0x0014 = .accept := by decide +kernel

/-- Chapter 07's example: 256 + 1 + 1 + 2⁻⁴⁴ + 1.5 × 2⁻⁴³ in BF16 on the window base −43 is 0x8_1000_0000_0002 and 0x4381. -/
theorem test_sum_in_any_order :
    let q := fun v => match decodeElem 2 v with | .fin x => (quantise x (-43) (2 ^ 171)).1 | _ => 0
    [0x4380, 0x3F80, 0x3F80, 0x2980, 0x2A40].map q = [2 ^ 51, 2 ^ 43, 2 ^ 43, 0, 2] ∧
      (toFloat ⟨false, 0x8100000000002, 1, -43⟩ 2 none).1 = 0x4381 := by decide +kernel

/-- Chapter 07's example: an MX E4M3 block. -/
theorem test_mx_block :
    (encodeBlock 3 (fun _ => none) 0 ([(Val.fin ⟨false, 258, 1, 0⟩, true), (.fin ⟨true, 13, 1, -2⟩, true), (.fin ⟨false, 5, 1, -10⟩, true),
      (.fin ⟨false, 500, 1, 0⟩, true)] ++ List.replicate 28 (.fin ⟨false, 0, 1, 0⟩, true))).1 =
      [0x7F, 0x78, 0xC5, 0x02, 0x7E] ++ List.replicate 28 0 := by decide +kernel

/-- Chapter 13's example: delay 490 ns and offset −37.5 ns. -/
theorem test_measuring_a_parent :
    stepMeasure (65536 * 1000) (65536 * 1527 + 32768) (65536 * 3200) (65536 * 3652 + 32768) = (490 * 65536, -37 * 65536 - 32768) := by
  decide +kernel

/-- Chapter 06's example: a charge of 4,168 at 50,000 Mb/s leaves −3,368 bytes after 128 ns, −168 after 640 ns and 232 after 704 ns. -/
theorem test_shaper_credit :
    let s : Shaper := { record := packBits [(8, 1), (24, 0), (32, 50000), (32, 0), (32, 8448), (32, 0)] }
    let c := fun ns => ((s.charged 4168 .green).refill false (ns * 65536)).c
    c 128 = -3368 * 65536 ∧ c 640 = -168 * 65536 ∧ c 704 = 232 * 65536 := by decide +kernel

/-- Chapter 18's example: 1,918.8 W at 1,800 MHz takes the cap frequency to 1,775 MHz; 1,650.0 W holds it. -/
theorem test_power_cap :
    (devOn.powerMeasured 1919 []).power.cap = 1775 ∧ (devOn.powerMeasured 1650 []).power.cap = 1800 := by decide +kernel

/-- Chapter 02's example: endpoint 0x00_5078 is leaf 40's port 120, and every spine looks up (hall 0, leaf 40). -/
theorem test_lookup_leaf_40 :
    let d := devUp.setBase (ad 0x5100 1) (0x4000 * 2 ^ (8 * (510 - 80)))
    d.lookup 0 { dataFrame with hdr := { dataFrame.hdr with dst := 20600 } } = .port 0 := by decide +kernel

/-- A command at the front of the queue runs, and the rest stays; with none, the clock ticks by its increment. -/
theorem test_queue :
    step { st devOn with pending := [.ppsOutPulse, .powerCapRaise] } = exec .ppsOutPulse { st devOn with pending := [.powerCapRaise] } ∧
      devOn.tick.time.fab = 0x666666666 ∧ State.reset.dev.tick.time.fab = 0 := by
  refine ⟨rfl, by decide +kernel, by decide +kernel⟩

/-- R342 and Table 15-8: which life-cycle transitions are allowed. -/
theorem test_life_cycle :
    ((List.range 4).map (fun a => (List.range 4).filter (lifeAllowed a))) = [[1], [2, 3], [3], []] := by decide +kernel

/-! ## Witnesses: for each statement, states and operands that meet its hypotheses, at the ends of their ranges -/

theorem witness_StepRunsTheFrontCommand :
    ({ st devOn with pending := [.powerUp, .powerLoss] } : State).pending = .powerUp :: [.powerLoss] := rfl

theorem witness_IdleStepIsOneClockPeriod :
    On State.reset ∧ State.reset.pending = [] ∧ State.reset.dev.attic.holding = true ∧ On (st devOn) ∧ (st devOn).pending = [] ∧
      (st devOn).dev.attic.holding = false ∧ (st devOn).dev.time.clock = 0 := by unfold On; decide +kernel

/-- A device whose lane 0 has just raised an event of rate-limited code 0x4003. -/
def devRaised : Dev := devOn.raise 0x4003 0

theorem witness_AnEventIsCountedAndRecorded :
    devOn.mayRaise 0x4003 0 = true ∧ devOn.mayRaise 0x4003 (2 ^ 32 - 1) = true ∧ devRaised.mayRaise 0x4003 0 = false ∧
      devRaised.mayRaise 0x4003 1 = true := by decide +kernel

theorem witness_ColdResetKeepsOnlyWhatSurvives :
    On (st devOn) ∧ 1000 ≤ 1000 ∧ 999 < 1000 ∧ (st devOn).dev.atticRuns = true ∧ ∀ h < 8, ((st devOn).dev.chute h).pulsed = none := by
  unfold On; decide +kernel

/-- The device without power. -/
def dark : Dev := { board := { powered := false } }

theorem witness_OnlyNonVolatileStateSurvivesPowerLoss :
    On State.reset ∧ (∀ h < 8, (State.reset.dev.chute h).pulsed = none) ∧ ¬ On (st dark) ∧ (st dark).pending = [] ∧
      Instr.powerLoss ≠ .powerUp ∧ ∀ m, Instr.powerLoss ≠ .laserModuleInserted m ∧ Instr.powerLoss ≠ .laserModuleRemoved m := by
  unfold On; exact ⟨by decide +kernel, by decide +kernel, by decide +kernel, rfl, by simp, fun _ => by simp⟩

theorem witness_TheMeshRoutesInDimensionOrder :
    0 < 2 ∧ 1 < 2 ∧ 0 < 8 ∧ 7 < 8 ∧ hops 0 0 = [] ∧ (hops 0 127).length = 22 := by decide +kernel

/-- R10's example: from Crate 5 to Crate 77 the route has eight mesh hops and one bridge crossing. -/
theorem test_route :
    (hops 5 77).length = 9 ∧ ((hops 5 77).filter (fun h => h.crosses)).map (fun h => (h.at_, h.next)) = [(7, 64)] := by decide +kernel

/-- A device held in reset with a rail out, or without its clocks, and RESET_N as given. -/
def heldBy (rails : List Nat) (clocks resetN : Bool) : Dev :=
  { board := { resetN := resetN, railsOut := rails, clocksOut := clocks } }

theorem witness_LeavingResetRunsTheFirstBootSteps :
    (∀ r, let s := st (heldBy [] false r)
     On s ∧ s.dev.attic.holding = true ∧ s.dev.board.thermtrip = false ∧ s.dev.board.railsOut = [] ∧
       s.dev.board.clocksOut = false ∧ s.dev.board.resetN = r) ∧
    (∀ r, let s := st (heldBy [8] false r)
      On s ∧ s.dev.attic.holding = true ∧ s.dev.board.thermtrip = false ∧ s.dev.board.railsOut ≠ [] ∧
        s.dev.board.clocksOut = false ∧ s.dev.board.resetN = r) ∧
    (∀ r, let s := st (heldBy [] true r)
      On s ∧ s.dev.attic.holding = true ∧ s.dev.board.thermtrip = false ∧ s.dev.board.railsOut = [] ∧
        s.dev.board.clocksOut = true ∧ s.dev.board.resetN = r) := by unfold On; decide +kernel

/-- A device at a step of the boot. -/
def booting (k : Nat) : Dev := { attic := { holding := false, bootStep := k } }

theorem witness_WipeCompleteReadsConfigurationAndHeaders :
    On (st (booting 3)) ∧ (st (booting 3)).dev.attic.bootStep = 3 ∧ (st (booting 4)).dev.attic.bootStep ≠ 3 ∧ (booting 3).cfg 0xC000 6 ≤ 1 ∧
      ({} : ImageSlot).headerCode {} ≠ 0 := by unfold On; decide +kernel

/-- An image in a slot of the flash that its header describes, signed (GB/T 32918.2) by the private key 1, whose public key
is the base point; and fuses that name that key. -/
def goodSlot : ImageSlot :=
  { header := packBits [(32, 0x41545443), (16, 1), (8, 1), (8, 2), (32, 1), (32, 4096), (64, 0), (256, 5), (64, 0), (512, sm2G.number),
      (256, 0xe028d3a182a864216035255c1ba181cab98cf3d5974365e2e802ebcae62319ef),
      (256, 0x8feb962e3eabcdef4fe56d51f22f3f1a153d658056245239dfba7e23c6c3b42c), (2560, 0)]
    bodySm3 := 5 }
def goodFuses : Fuses := { keys := [keyDigest sm2G.number, 0, 0, 0] }

/-- The signature verifies: it was made with the nonce 1, so that r = e + Gx and s = (1 - r) / 2 modulo n. -/
theorem test_image_signature : goodSlot.signed (goodSlot.at_ 64 127) (goodSlot.at_ 128 191) = true := by decide +kernel

/-- The image passes every check. -/
theorem witness_an_image_passes :
    goodSlot.headerCode goodFuses = 0 ∧ goodSlot.bodyCode = 0 := by
  refine ⟨?_, by decide +kernel⟩
  have a : goodSlot.at_ 0 3 = 0x41545443 ∧ goodSlot.at_ 4 5 = 1 ∧ goodSlot.at_ 6 6 = 1 ∧
    bit (goodSlot.at_ 7 7) (goodFuses.stepping - 1) = true ∧ goodFuses.life = 0 ∧ goodFuses.security = 0 ∧
    (goodFuses.keySlot (keyDigest (goodSlot.at_ 64 127))).isNone = false := by decide +kernel
  simp [ImageSlot.headerCode, ImageSlot.ownerOk, a, test_image_signature]

theorem witness_ImageLoadReleasesTheAttic :
    On (st (booting 6)) ∧ (st (booting 6)).dev.attic.bootStep = 6 ∧ (st (booting 6)).dev.attic.bootFailed = false ∧ goodSlot.bodyCode = 0 ∧
      ({} : ImageSlot).bodyCode ≠ 0 ∧ ({ goodFuses with changed := true } : Fuses).changed = true ∧ (∀ e ∈ (booting 6).log.queued, e.1 ≠ 0x1001) ∧
      (∀ a ∈ [AtticState.starting, .running], ({ devOn with attic := { onAttic with state := a } } : Dev).attic.state = a) ∧
      (let d := ({ devOn with modules := ⟨[(15, { present := true, status := 1 })]⟩, hatches := ⟨[(7, { started := true })]⟩ } : Dev)
       (d.module 15).present = true ∧ (d.module 15).status = 1 ∧ (d.hatch (15 / 2)).started = true ∧ (d.module 15).alarm = false ∧
         (d.module 15).returns = []) := by unfold On; decide +kernel

theorem witness_PowerAndThermalLoopsMoveFrequencyInSteps :
    On (st devOn) ∧ (st devOn).dev.attic.holding = false ∧ (st devOn).dev.power.watts * 100 < (st devOn).dev.cfg 0x4880 2 * 98 ∧
      toSigned 16 ((st devOn).dev.crate 127).temp ≤ 16 * (((st devOn).dev.cfg 0x4880 3 : Nat) - 3 : Int) := by unfold On; decide +kernel

theorem witness_LostReferenceClockMovesItsLoads :
    (let s := st devOn
     (0 : Nat) ≤ 1 ∧ (1 : Nat) ≤ 1 ∧ On s ∧ s.dev.board.clocksOut = false ∧ s.dev.time.lost1 = false ∧ s.dev.time.lost0 = false ∧
       s.dev.attic.holding = false) ∧
    (let s := st { devOn with time := { lost0 := true } }
     On s ∧ s.dev.board.clocksOut = false ∧ s.dev.time.lost1 = false ∧ s.dev.time.lost0 = true) := by unfold On; decide +kernel

/-- A booted device of a time role, with entry 0x8000:01 staged and its time unit as given. -/
def timed (role : Nat) (t : TimeUnit) : Dev := ({ devOn with time := t } : Dev).setBase (ad 0x8000 1) role

theorem witness_TimeRegisterWritesAndReads :
    (let s := st (timed 2 {})
     On s ∧ s.dev.atticRuns = true ∧ s.dev.timeRole = 2 ∧ s.dev.time.clock = 0) ∧
    (let s := st (timed 2 { clock := 2, ppsNext := some 5 })
     On s ∧ s.dev.atticRuns = true ∧ s.dev.timeRole = 2 ∧ 2 ≤ s.dev.time.clock ∧ s.dev.time.clock ≤ 3 ∧ ∃ n, n ≠ 6 ∧ s.dev.time.ppsNext = some n) ∧
    (let s := st (timed 3 {})
     On s ∧ s.dev.atticRuns = true ∧ s.dev.timeRole = 3 ∧ (-200000 : Int) ≤ -200000 ∧ (200000 : Int) ≤ 200000) ∧
    (st devOn).dev.timeRole ≠ 3 ∧ (st devOn).dev.timeRole ≠ 2 := by
  unfold On
  refine ⟨by decide +kernel, ⟨by decide +kernel, by decide +kernel, by decide +kernel, by decide +kernel, by decide +kernel, 5, by decide, rfl⟩,
    by decide +kernel, by decide +kernel⟩

theorem witness_AMeasurementSlewsAndOnlyAcquiringJumps :
    (∀ k ∈ [0, 1, 2, 3], ∀ j m, let s := st (timed 2 { clock := k, jumped := j, ppsSet := m, ppsNext := some 0 })
      On s ∧ s.dev.crossed = false ∧ s.dev.timeRole = 2 ∧ s.dev.time.ppsNext = some 0 ∧ s.dev.time.clock = k ∧ s.dev.time.jumped = j ∧
        s.dev.time.ppsSet = m) ∧
    (∀ k ∈ [0, 1, 2, 3], let s := st (timed 3 { clock := k })
      On s ∧ s.dev.crossed = false ∧ s.dev.timeRole = 3 ∧ s.dev.atticRuns = true ∧ s.dev.time.clock = k) := by unfold On; decide +kernel

theorem witness_TheSourceLostIsHoldover :
    On (st (timed 0 {})) ∧ (st (timed 0 {})).dev.timeRole = 0 ∧ (st (timed 2 {})).dev.timeRole ≠ 0 ∧ (st (timed 2 {})).dev.timeRole ≠ 1 ∧
    (∀ k ∈ [0, 1, 2, 3], let d := (st (timed 1 { clock := k })).dev
      d.timeRole = 1 ∧ d.time.clock = k ∧ ∀ p ∈ d.lanes.cells, d.candidate p.1 = false) := by unfold On; decide +kernel

theorem witness_AStepBoundaryAdvancesTheCounter :
    On (st devOn) ∧ (st devOn).dev.attic.holding = false ∧ ((runOpen {} devOn).2.now : Int) < (runOpen {} devOn).2.boundaryOf 1 := by unfold On; decide +kernel

/-- A STEP frame with times, root, hop count and flags, and the time at which it leaves. -/
def stepFrame (t3 t1 t2 root hops flags : Nat) : Frame :=
  ctl 0x23 (toBytes 62 (packBits [(80, t3), (80, t1), (80, t2), (64, root), (8, hops), (8, flags), (176, 0)]))

theorem witness_AValidStepFrameEntersTheTimeRecord :
    (∀ flags ∈ [0x80, 0xA0], let d := (st devUp).dev
     let f := stepFrame 1 2 3 0 255 flags
     On (st devUp) ∧ d.crossed = false ∧ ControlFrame d 0 f 0x23 ∧ controlOk f.payload = true ∧
      ¬(bytesFrom f.payload 38 1 = 255 ∧ bytesFrom f.payload 30 8 ≠ 0) ∧ d.time.parent = none) ∧
    (let d := (st { devUp with time := { parent := some 0, clock := 2 } }).dev
     d.crossed = false ∧ d.timeRole = 1 ∧ d.time.parent = some 0 ∧ d.confirmed 0 = true ∧ d.time.clock = 2) := by
  unfold On ControlFrame; decide +kernel

/-- The booted device with lane 0 as given. -/
def withLane0 (x : Lane) : Dev := { devUp with lanes := devUp.lanes.put {} 0 x }

theorem witness_TheStepFrameOfALockedLaneIsSent :
    let s := st (withLane0 { goodLane with time := {} })
    let d := (runOpen s.nv s.dev).2
    On s ∧ (d.lane 0).rx.lock = true ∧ (d.lane 0).disc.freshLock = false ∧ (d.lane 0).time.sentStep ≠ some d.step ∧
      d.mayStart 0 5 .step = true := by unfold On; decide +kernel

/-- A LINK frame of equal credit limits, and an LNACK of a sequence. -/
def linkFrame (limit expect : Nat) : Frame := ctl 0x21 ((List.range 10).flatMap (fun _ => toBytes 3 limit) ++ toBytes 2 expect ++ List.replicate 30 0)
def lnackFrame (e reason : Nat) : Frame := ctl 0x22 (toBytes 2 e ++ toBytes 1 reason ++ List.replicate 59 0)

/-- A frame in the replay buffer. -/
def kept (seq : Nat) : Replay := { seq := seq, frame := dataFrame, start := 0 }

theorem witness_LinkFramesCarryCredit :
    On (st devUp) ∧ ControlFrame (st devUp).dev 0 (linkFrame (2 ^ 23 - 1) 0) 0x21 ∧ controlOk (linkFrame (2 ^ 23 - 1) 0).payload = true ∧
    (∀ k < 10, wrapSub 24 (bytesFrom (linkFrame (2 ^ 23 - 1) 0).payload (3 * k) 3)
      (((st devUp).dev.lane 0).tx.consumed.get 0 (creditedVcs.getD k 4)) < 2 ^ 23) ∧
    (st devUp).dev.linkDue 0 (2 ^ 79) = true ∧ (st devUp).dev.mayStart 0 (2 ^ 79) .link = true ∧ (st devUp).dev.linkDue 0 0 = false ∧
    (st (withLane0 { goodLane with rx := { goodLane.rx with nackDue := some (3, 1) } })).dev.mayStart 0 0 .link = false := by
  unfold On ControlFrame; decide +kernel

/-- The sending side of a lane with frames 7 and 8 unacknowledged, replayed a number of times in a row. -/
def unacked (n : Nat) : LinkTx := { linkSent := some 0, next := 9, replay := [kept 7, kept 8], replayOf := some 7, replays := n }

theorem witness_LnacksStartReplays :
    (∀ n ∈ [0, 7, 8], let d := (st (withLane0 { goodLane with tx := unacked n })).dev
      ControlFrame d 0 (lnackFrame 7 1) 0x22 ∧ controlOk (lnackFrame 7 1).payload = true ∧
      (let q := (d.lane 0).tx
       q.inWindow 7 = true ∧ q.inWindow 10 = false ∧ q.inWindow 9 = true ∧ (q.ackBefore 7).next = 9 ∧
       (q.ackBefore 7).replay = [kept 7, kept 8] ∧ (q.ackBefore 7).replayOf = some 7 ∧ (q.ackBefore 7).replays = n) ∧
      (d.lane 0).tx.replay = kept 7 :: [kept 8] ∧ (d.lane 0).rx.lock = true) := by unfold ControlFrame; decide +kernel

theorem witness_ReplaysAndLnacksAreSent :
    (let d := (st (withLane0 { goodLane with rx := { goodLane.rx with nackDue := some (3, 1) } })).dev
     (d.lane 0).rx.nackDue = some (3, 1) ∧ (d.lane 0).rx.lock = true ∧ d.mayStart 0 0 .lnack = true) ∧
    (let d := (st (withLane0 { goodLane with tx := { unacked 0 with replayDue := some 8 } })).dev
     d.mayStart 0 0 .replay = true ∧ d.carries 0 = true ∧ (d.lane 0).tx.replayDue = some 8 ∧ (d.lane 0).tx.replay = kept 7 :: [kept 8]) ∧
    (st (withLane0 { goodLane with tx := {} })).dev.mayStart 0 0 .replay = false ∧
    (∀ b, let d := (st (withLane0 { goodLane with tx := { lateCounted := b } })).dev
      (d.lane 0).rx.lock = true ∧ (d.lane 0).tx.lateCounted = b) := by decide +kernel

/-- A hello of a leaf. -/
def aHello : Hello := { identity := 8, role := 2, plane := 0, hall := 0, port := 0, width := 8, lane := 0, verified := true
                        fenced := false, suspect := false, seq := 4, step := 0, digest := 0, plan := 0 }
/-- The booted device with a cabling plan that names leaf 8 on lane 0. -/
def planned : Dev := (devUp.setBase (ad 0x2000 7) 1).setBase (ad 0x2100 2) 1

theorem witness_HellosVerifyALane :
    let d := (runOpen (st planned).nv (st planned).dev).2
    let f := ctl 0x20 (helloBytes aHello |>.take 62)
    On (st planned) ∧ ControlFrame d 0 f 0x20 ∧ malformed f.payload (some 4) = true ∧ malformed f.payload (d.lane 0).disc.lastSeq = false ∧
      d.heldDown (d.portOf 0).1 = false := by unfold On ControlFrame; decide +kernel

theorem witness_HellosAreSentOnLockedLanes :
    let s := st (withLane0 { goodLane with disc := { status := .match_ } })
    let d := (runOpen s.nv s.dev).2
    On s ∧ (d.lane 0).rx.lock = true ∧ (d.lane 0).disc.freshLock = false ∧ (d.port (d.portOf 0).1).state ≠ .down ∧
      (d.lane 0).disc.helloStep ≠ some d.step ∧ d.mayStart 0 0 .hello = true ∧ (d.lane 1).disc.helloStep = some d.step := by
  unfold On; decide +kernel

theorem witness_LockAndSilenceMoveALane :
    (∀ k ∈ [0, 125000], let s := st { planned with lanes := ⟨[(0, { goodLane with rx := {} })]⟩, ports := {}, time := { step := k } }
     let d := s.dev
     On s ∧ d.heldDown (d.portOf 0).1 = false ∧ (d.lane 0).rx.lock = false ∧ d.stackHolds 0 = false ∧
       (d.lane 0).optics.drop.state = .track ∧ (d.port (d.portOf 0).1).timeout = false ∧ d.portCarries (d.portOf 0).1 = false ∧
       (d.step < (d.port (d.portOf 0).1).origin + d.cfg 0x2000 6 ↔ k = 0) ∧
       ((d.port (d.portOf 0).1).origin + d.cfg 0x2000 6 ≤ d.step ↔ k = 125000)) ∧
    (∀ k ∈ [0, 125000], let d := (st { planned with time := { step := k } }).dev
     d.heldDown (d.portOf 0).1 = false ∧ (d.lane 0).rx.lock = true ∧ (d.lane 0).disc.hadValid = true ∧
       (d.lane 0).disc.status ∈ [LaneStatus.counting, .match_, .mismatch] ∧
       (d.step ≤ (d.lane 0).disc.lastStep + d.cfg 0x2000 5 ↔ k = 0) ∧ ((d.lane 0).disc.lastStep + d.cfg 0x2000 5 < d.step ↔ k = 125000)) := by
  unfold On; decide +kernel

/-- A device that tags no frame and whose leaf 0 is routed by an entry. -/
def routed (entry : Nat) : Dev := (devUp.setBase (ad 0xA000 2) 255).setBase (ad 0x5100 1) (entry * 2 ^ (8 * 510))
/-- A CNACK and an MGMT frame that travel on to an endpoint. -/
def nackOn : Frame := mk { opcode := 0x12, tc := 3, dst := 5 } (some { ctx := 1 }) 16
def mgmtOn : Frame := mk { opcode := 0x30, tc := 7, dst := 5, src := 9 } none 28

theorem witness_DataFollowsItsRoute :
    (∀ e ∈ [0, 0x4000, 0x4001, 0x8000, 0xC000, 0xDFFF],
      let d := (st (routed e)).dev
      On (st (routed e)) ∧ (0 : Nat) < 1024 ∧ Admitted d 0 dataFrame ∧ ¬ ownRow dataFrame.hdr.opcode ∧ (d.police 0 dataFrame).1 = 0 ∧
        cellsOf dataFrame.flits ≤ (d.sharedFree 0) ∧ (d.tagDraw 0).1 = false ∧ d.cellarStore 0 = false) ∧
    (∀ f ∈ [nackOn, mgmtOn], let d := { routed 0x4000 with lanes := devUp.lanes.upd {} 0 (fun x => { x with rx := { x.rx with rings := ⟨[(6, { size := 64 }), (14, { size := 64 })]⟩ } }) }
      Admitted d 0 f ∧ isEndpoint f.hdr.dst = true ∧ (routed 0x4000).lookup 0 f = .port 0) ∧
    (routed 0).lookup 0 dataFrame = .discard 0x5010 ∧ (routed 0x4000).lookup 0 dataFrame = .port 0 ∧
    (routed 0x4001).lookup 0 dataFrame = .discard 0x5011 ∧ (routed 0x8000).lookup 0 dataFrame = .ring 0 0 false ∧
    (routed 0xDFFF).lookup 0 dataFrame = .pair 8191 ∧ ((routed 0x4000).pickLane 0 0).1 = some 0 ∧
    ((routed 0x8000).pickRing 0 0 0 5).1 = none := by
  unfold On Admitted Comes ownRow; decide +kernel

/-- A routed device whose Crate 0 runs at a frequency, with cells of its shared pool in use. -/
def slowed (freq used : Nat) : Dev :=
  { routed 0x4000 with crates := ⟨[(0, { freq := freq, path := { shared := used } })]⟩ }

theorem witness_DataFollowsItsRoute_overrun :
    (∀ q ∈ [1550, 1575], ∀ u ∈ [0, 8192], let d := (st (slowed q u)).dev
     Admitted d 0 dataFrame ∧ d.lookup 0 dataFrame = .port 0 ∧ (d.police 0 dataFrame).1 = 0 ∧ (d.pickLane 0 0).1 = some 0 ∧
       (d.crate 0).freq = q) ∧
    credited (devUp.vcIn 0 dataFrame) = false ∧ cellsOf dataFrame.flits ≤ (slowed 1550 0).sharedFree 0 ∧
    ¬ cellsOf dataFrame.flits ≤ (slowed 1550 8192).sharedFree 0 ∧ 2 * 1550 < 3125 ∧ ¬ 2 * 1575 < 3125 := by
  unfold Admitted Comes; decide +kernel

/-- A policed device: the flow context of its frame in the cache, and its rate as given. -/
def policing (c : Flow) : Dev :=
  let d := (((routed 0x4000).setBase (ad 0x7000 2) 1).setBase (ad 0x7000 3) 0xFFF0)
  { d with crates := ⟨[(0, { path := { cache := [(36, c)] } })]⟩ }

theorem witness_DataFollowsItsRoute_policed :
    let d := (st (policing { enable := true, actR := 2 })).dev
    Admitted d 0 dataFrame ∧ d.lookup 0 dataFrame = .port 0 ∧ (d.police 0 dataFrame).1 = 2 := by
  unfold Admitted Comes; decide +kernel

/-- The same frame with another sequence, class or check, or with a MAC header of an EtherType. -/
def seqFrame (q : Nat) : Frame := { dataFrame with hdr := { dataFrame.hdr with seq := q } }.sealed
def tc6Frame : Frame := { dataFrame with hdr := { dataFrame.hdr with tc := 6 } }.sealed
def torn : Frame := { dataFrame with hdr := { dataFrame.hdr with hcheck := dataFrame.hdr.hcheck ^^^ 1 } }
def macked (f : Frame) (ether : Nat) : Frame := { f with mac := some { ether := ether } }
/-- The device with its lanes in Ethernet mode. -/
def ethernetDev : Dev := devUp.setBase (ad 0x2300 1) 1

theorem witness_HeadsOutOfSequenceAreNotTaken :
    let d := (st devUp).dev
    On (st devUp) ∧ (d.lane 0).rx.lock = true ∧ (d.lane 0).rx.rx = none ∧
    (∀ f ∈ [torn, tc6Frame, seqFrame 1, seqFrame 32767, seqFrame 32768, seqFrame 65535], ¬ ownRow f.hdr.opcode) ∧
    d.framing 0 torn = .swent ∧ torn.headerOk = false ∧ d.headerOk 0 tc6Frame = true ∧ tc6Frame.hdr.tc = 6 ∧
    (ethernetDev.lane 0).rx.lock = true ∧ ethernetDev.framing 0 dataFrame = .broken ∧ ethernetDev.framing 0 (macked dataFrame 0x88F7) = .ptp ∧
    ethernetDev.framing 0 (macked dataFrame 0x800) = .other ∧ ethernetDev.framing 0 (macked torn (ethernetDev.cfg 0x2000 8)) = .swent ∧
    (∀ q ∈ [1, 32767], d.headerOk 0 (seqFrame q) = true ∧ (seqFrame q).hdr.tc ≠ 6 ∧
      0 < wrapSub 16 (seqFrame q).hdr.seq (d.lane 0).rx.expect ∧ wrapSub 16 (seqFrame q).hdr.seq (d.lane 0).rx.expect < 2 ^ 15) ∧
    (∀ q ∈ [32768, 65535], d.headerOk 0 (seqFrame q) = true ∧ (seqFrame q).hdr.tc ≠ 6 ∧
      2 ^ 15 ≤ wrapSub 16 (seqFrame q).hdr.seq (d.lane 0).rx.expect) := by unfold On ownRow; decide +kernel

/-- The device while frame 5 arrives on lane 0, of the size that its header gives or with a byte more. -/
def arrivingDev (good : Bool) : Dev :=
  let f := if good then dataFrame else { dataFrame with pad := [0] }
  { withLane0 { goodLane with rx := { goodLane.rx with rx := some ⟨f, 0, some 5, none⟩ } } with
    nextHeld := 6
    held := ⟨[(5, some { frame := f, crate := 0, lane := some 0, vc := 0, account := .shared, start := 0 })]⟩ }

theorem witness_ATailIsTakenOrAskedForAgain :
    (∀ g, let d := (st (arrivingDev g)).dev
      On (st (arrivingDev g)) ∧
      (∃ r, (d.lane 0).rx.rx = some r ∧ r.held = some 5 ∧ ((r.frame.badSize && r.frame.rowOk) = !g)) ∧
      (∃ y, d.heldAt 5 = some y ∧ y.res = none) ∧ 5 < d.nextHeld ∧ d.nacks = [] ∧ (d.lane 0).rx.nacked = none ∧
        (d.lane 0).rx.nackDue = none) := by
  intro g; cases g <;> exact ⟨by unfold On; decide +kernel, ⟨_, rfl, rfl, by decide +kernel⟩, ⟨_, rfl, rfl⟩, by decide +kernel⟩

/-- A management frame to the device. -/
def mgmtFrame : Frame := mk { opcode := 0x30, tc := 7, src := 9 } none 28
/-- The device with its Attic stopped. -/
def devOff : Dev := { devUp with attic := { onAttic with state := .off } }

theorem witness_FramesForTheFirmwareReachIt :
    (∀ d ∈ [devUp, devOff], mgmtFrame.hdr.opcode = 0x30 ∧ isEndpoint mgmtFrame.hdr.dst = false ∧ mgmtFrame.badSize = false ∧
      (let d := ({ d with lanes := d.lanes.upd {} 0 (fun x => { x with rx := { x.rx with rings := ⟨[(14, { size := 64, initial := 64 })]⟩ } }) } : Dev)
       On (st d) ∧ Admitted d 0 mgmtFrame)) ∧
    devUp.atticRuns = true ∧ devOff.atticRuns = false ∧ recordOk mgmtFrame.payload = false ∧ (devOn.lane 0).rx.lock = false ∧
    devUp.framing 0 mgmtFrame = .swent ∧
    (∀ e ∈ [0x88F7, 0x800], ∀ v ∈ [0, 1], let d := (ethernetDev.setBase (ad 0x8100 1) v).setBase (ad 0x2400 1) v
     let f := macked dataFrame e
     (d.lane 0).rx.lock = true ∧ d.laneCfg 0x2300 0 = 1 ∧ d.laneCfg 0x8100 0 = v ∧ d.laneCfg 0x2400 0 = v ∧ d.atticRuns = true ∧
       f.fcsState f.fcs = .good ∧ f.fcsState 0 = .bad ∧ f.size ≤ 4224 ∧ f.mac.map (·.ether) = some e ∧ e ≠ d.cfg 0x2000 8) ∧
    4224 < (macked { dataFrame with payload := List.replicate 4224 0, raw := true } 0x800).size := by
  unfold On Admitted Comes; decide +kernel

/-- The extension of a contribution to context 1, and the frame that carries it with the payload check of its context. -/
def cExt (member alive : Nat) : Ext := { ctx := 1, member := member, alive := alive, count := 4 }
def cFrame (member alive : Nat) : Frame :=
  mk { opcode := 0x10, tc := 3, src := 9, pcheck := payloadCheck sumRec (List.replicate 16 0) } (some (cExt member alive)) 16
/-- The device with a context as context 1. -/
def devCtx (x : Context) : Dev := { devUp with contexts := ⟨[(1, some x)]⟩ }
def ctxIn (s : CtxState) : Context := { record := sumRec, state := s, crates := [0] }
/-- An OPEN group to which some members have contributed. -/
def openGroup (members : Nat) : Group :=
  { state := .opened, round := { openRound sumRec 0 none with members := members, added := (setBits 2 members).length } }
/-- A context with its one group as given. -/
def ctxWith (s : CtxState) (g : Group) : Context := { ctxIn s with groups := ⟨[(0, g)]⟩ }

theorem witness_AContributionIsRefusedHeldOrAdded :
    (∀ d ∈ [devUp, devCtx (ctxIn .installed), devCtx (ctxIn .armed), devCtx (ctxWith .active (openGroup 1))],
      let f := cFrame 1 0
      On (st d) ∧ f.hdr.opcode = 0x10 ∧ f.ext = some (cExt 1 0) ∧ f.badSize = false ∧ Admitted d 0 f ∧ d.cellarStore 0 = false ∧
        ∀ p ∈ (d.lane 0).rx.staged, p.1 ≠ d.nextHeld) ∧
    devUp.earlyChecks 0 (cFrame 1 0) (cExt 1 0) = .refuse .noContext ∧
    (devCtx (ctxIn .installed)).earlyChecks 0 (cFrame 1 0) (cExt 1 0) = .hold ∧
    (devCtx (ctxIn .armed)).earlyChecks 0 (cFrame 1 0) (cExt 1 0) = .pass .opens ∧
    (devCtx (ctxWith .active (openGroup 1))).earlyChecks 0 (cFrame 1 0) (cExt 1 0) = .pass .occupies ∧
    (devCtx (ctxWith .active { next := some (1, 0) })).earlyChecks 0 (cFrame 1 0) (cExt 1 0) = .pass .past ∧
    ((devCtx (ctxIn .armed)).check9 0 sumRec (cFrame 1 0) (cExt 1 0)).1 = none ∧
    ((devCtx (ctxIn .armed)).check9 0 sumRec (mk {} none 16) (cExt 1 0)).1 = some .check ∧
    aliveCheck 0 0xFFFF = .accept ∧ aliveCheck 1 0xFFFF = .gap ∧ aliveCheck 0xFFFF 0xFFFF ≠ .accept ∧
    aliveCheck 0xFFFF 0xFFFF ≠ .gap ∧ rSpilled sumRec 0 = false ∧
    devUp.contribAt (.larderWrite 0 0) 0 devUp.nextHeld (cExt 1 0) = true ∧
    devUp.contribAt (.egress 0 0) 0 devUp.nextHeld (cExt 1 0) = false := by
  unfold On Admitted Comes; decide +kernel

/-- A context that spans Crates 0 and 64, whose contributions cross the die bridge of row 0. -/
def farCtx : Context := { ctxIn .armed with crates := [64] }

theorem witness_AContributionIsRefusedHeldOrAdded_bridge :
    ∃ r k i, (devCtx farCtx).contribAt (.bridge r k i) 0 devUp.nextHeld (cExt 1 0) = true := ⟨0, 0, 0, by decide +kernel⟩

/-- A BRANCH whose up direction is east. -/
def branchRec : Nat := mkRec [(2, 1), (3, 1), (5, 0x60), (7, 4), (11, 2), (20, 0x80), (22, 1), (31, 100), (36, 0x40)]
/-- The device with lane 0 ring-east, a BRANCH as context 1, and frame 5 its upward contribution, sent or not. -/
def branchOf (gone : Bool) : Dev :=
  let d := devUp.setBase (ad 0x2180 1) 2
  { d with
    contexts := ⟨[(1, some { record := branchRec, state := .armed, crates := [0] })]⟩
    nextHeld := 6
    held := ⟨[(5, some { frame := cFrame 0 3, crate := 0, lane := none, vc := 6, account := .result, start := 0
                         upward := some (1, 0, 0), gone := gone })]⟩ }
def branchDev : Dev := branchOf false
def resFrame : Frame := mk { opcode := 0x11, tc := 3 } (some (cExt 0 3)) 16
/-- A CNACK of a reason. -/
def nackOf (reason : Nat) : Frame :=
  ({ hdr := { opcode := 0x12, tc := 3, len := 16 }, ext := some (cExt 0 3), payload := toBytes 1 reason ++ List.replicate 15 0 } : Frame).padded.sealed

theorem witness_RelayedResultsAndCnacksOfABranch :
    (∀ d ∈ [branchDev, devUp], On (st d) ∧ Admitted d 0 resFrame ∧ resFrame.ext = some (cExt 0 3) ∧ resFrame.hdr.opcode = 0x11 ∧
      ∀ k ∈ [0, 1, 3, 5, 13, 14], let f := nackOf k
        Admitted d 0 f ∧ f.ext = some (cExt 0 3) ∧ f.hdr.opcode = 0x12 ∧ isEndpoint f.hdr.dst = false ∧ f.badSize = false ∧
          bytesFrom f.payload 0 1 = k) ∧
    (branchDev.relayOf 0 (cExt 0 3)).isSome = true ∧ devUp.relayOf 0 (cExt 0 3) = none ∧ devUp.nackTarget 0 (cExt 0 3) = none ∧
    credited (branchDev.vcIn 0 resFrame) = true ∧ devUp.cellarStore 0 = false ∧
    (∀ g, ∃ y z, (branchOf g).nackTarget 0 (cExt 0 3) = some (5, y) ∧ (branchOf g).ctxAt 1 = some y ∧ 5 < (branchOf g).nextHeld ∧
      (∀ p ∈ ((branchOf g).lane 0).rx.staged, p.1 ≠ 5) ∧ (branchOf g).heldAt 5 = some z ∧ z.upward = some (1, 0, 0) ∧ z.gone = g) := by
  refine ⟨by unfold On Admitted Comes; decide +kernel, by decide +kernel, by decide +kernel, by decide +kernel, by decide +kernel, by decide +kernel, ?_⟩
  intro g
  cases g <;>
    exact ⟨{ record := branchRec, state := .armed, crates := [0] }, _, by decide +kernel, by decide +kernel, by decide +kernel,
      by decide +kernel, rfl, rfl, rfl⟩

/-- The message in front of all others is the first to a Crate that it reaches. -/
theorem firstTo_nil {d : Dev} {c : Nat} {p : Msg → Bool} {m : Msg} {b : List Msg} (h : d.net = m :: b) (q : p m = true)
    (r : d.pathTo c m ≠ none) : d.FirstTo c p [] m b :=
  ⟨h, q, r, by simp, fun a1 k a2 e => by simp at e⟩

/-- A stored frame on a channel, bad or whole, with a multicast record or none. -/
def stored (vc : Nat) (bad whole : Bool) (m : Option MRecord) : Held :=
  { frame := dataFrame, crate := 0, lane := some 0, vc := vc, account := .shared, start := 0, whole := whole, bad := bad, mrec := m }
/-- The device with frame 5 stored and messages in flight. -/
def inFlight (x : Held) (net : List Msg) : Dev := { devUp with held := ⟨[(5, some x)]⟩, nextHeld := 6, net := net }

theorem witness_PushesAndDescriptorsJoinTheirLane :
    (∀ b, (inFlight (stored 0 b true none) [.push 5 0 false]).FirstTo (crateOf 0) (Msg.isPush 0) [] (.push 5 0 false) []) ∧
    (∀ b, (inFlight (stored 0 b true none) [.desc 5 0 true]).FirstTo (crateOf 0) (Msg.isDesc 0) [] (.desc 5 0 true) []) ∧
    (∀ b, let s := st (inFlight (stored 0 b true none) [.push 5 0 false])
      On s ∧ s.dev.heldAt 5 = some (stored 0 b true none) ∧ s.dev.carries 0 = true) ∧
    (let d := inFlight (stored 0 false true none) []
     { d with lanes := ⟨[(0, { goodLane with egress := { isOpen := true } })]⟩ }.openNow 0 = true ∧
     d.creditCovers 0 (d.linkVc 0 0) 1 = true ∧ d.earlier 0 5 (stored 0 false true none) = false) ∧
    (let d : Dev := { inFlight (stored 0 false true none) [] with ports := {} }
     d.heldAt 5 = some (stored 0 false true none) ∧ d.carries 0 = false) := by
  unfold On
  exact ⟨fun b => by cases b <;> exact firstTo_nil rfl (by decide +kernel) (by decide +kernel),
    fun b => by cases b <;> exact firstTo_nil rfl (by decide +kernel) (by decide +kernel),
    by decide +kernel, by decide +kernel, by decide +kernel⟩

/-- The device with a frame that waits for an entry. -/
def waiting (w : Wait) : Dev := { inFlight (stored 0 false true none) [.announce 127 0] with waits := [w] }

theorem witness_DeferredFramesWaitForEntries :
    (∀ lane ∈ [some 0, none], let m := Msg.deferReply 5 127 lane false
      let d := inFlight (stored 0 false true none) [m]
      d.FirstTo 0 Msg.isDefer [] m [] ∧ d.heldAt 5 = some (stored 0 false true none)) ∧
    (∀ b, let w : Wait := ⟨0, 127, 0, 5, some 1023, false, b⟩
      let s := st (waiting w)
      On s ∧ s.dev.FirstTo 0 (fun m => decide (m = .announce 127 0)) [] (.announce 127 0) [] ∧ 0 < 16 ∧
        s.dev.waits.find? (fun w => decide (w.holder = 0 ∧ w.egress = 127 ∧ w.vc = 0)) = some w ∧
        ∀ y ∈ s.dev.waits, y.held = w.held → y.egress = 127 → y.vc = 0) := by
  refine ⟨?_, ?_⟩
  · intro lane h
    have : lane = some 0 ∨ lane = none := by simpa using h
    rcases this with rfl | rfl <;> exact ⟨firstTo_nil rfl rfl (by decide +kernel), rfl⟩
  · intro b
    exact ⟨rfl, firstTo_nil rfl (by decide) (by cases b <;> decide +kernel), by decide, by cases b <;> decide +kernel,
      by cases b <;> decide +kernel⟩

/-- The device with frame 5 queued on lane 0. -/
def queued : Dev :=
  { inFlight (stored 0 false true none) [.pull 5 0] with
    lanes := ⟨[(0, { goodLane with egress := { queues := ⟨[(0, [⟨5, 1, false, false, 0⟩])]⟩, tags := ⟨[(0, some 0)]⟩ } })]⟩ }

theorem witness_TheSchedulerServesTheSmallestTag :
    On (st queued) ∧ (st queued).dev.eligible 0 0 ≠ none ∧ ((st queued).dev.egress 0).sel = none ∧ (∀ vc < 16, (st devUp).dev.eligible 0 vc = none) ∧
    queued.FirstTo (queued.holder 5) (fun m => decide (m = .pull 5 0)) [] (.pull 5 0) [] ∧ (∀ h', Msg.pull h' 0 ∉ ([] : List Msg)) ∧
    (st queued).dev.heldAt 5 = some (stored 0 false true none) ∧
    (let x : Sel := ⟨5, 1, 0, false, false, false, false, false, .green⟩
     x.held = 5 ∧ x.claimed = false) := by
  refine ⟨rfl, by decide +kernel, by decide +kernel, by decide +kernel, firstTo_nil rfl (by decide) (by decide +kernel), by simp,
    by decide +kernel, by decide⟩

/-- The device with frame 5 selected on lane 0, and with it in transmission. -/
def selected (whole : Bool) : Dev :=
  { inFlight (stored 0 false whole none) [] with
    lanes := ⟨[(0, { goodLane with egress := { sel := some ⟨5, 1, 0, false, false, true, true, false, .green⟩ } })]⟩ }
def sending (bad done : Bool) : Dev :=
  { inFlight (stored 0 bad true none) [] with
    lanes := ⟨[(0, { goodLane with egress := { cur := some ⟨5, 0, 3, false, dataFrame, 0, 84, done, false, false⟩ } })]⟩ }

theorem witness_AFrameStartsWithItsHeaderRewritten :
    (∀ w, let s := st (selected w)
      let d := s.dev
      On s ∧ (d.egress 0).sel = some ⟨5, 1, 0, false, false, true, true, false, .green⟩ ∧ d.mayStart 0 0 .frame = true ∧
        d.heldAt 5 = some (stored 0 false w none)) ∧ (stored 0 false true none).whole = true ∧
    (selected false).mayCutThrough 0 (stored 0 false false none) = true ∧ (stored 0 false true none).frame.raw = false := by
  unfold On; decide +kernel

theorem witness_AFrameEndsAndItsStorageIsReleased :
    (∀ b e, let s := st (sending b e)
      On s ∧ (s.dev.egress 0).cur = some ⟨5, 0, 3, false, dataFrame, 0, 84, e, false, false⟩ ∧
        (s.dev.heldAt 5).any (fun x => x.whole || x.bad) = true) ∧
    (let d := (st (selected true)).dev
     let q : Sel := ⟨5, 1, 0, false, false, true, true, false, .green⟩
     (d.egress 0).cur = none ∧ (d.egress 0).sel = some q ∧ q.pulled = true ∧ q.done = false ∧
       (d.heldAt 5).any (fun x => x.whole) = true) ∧
    5 ∈ (st { devUp with consumed := [5] }).dev.consumed ∧ 6 ∉ (st { devUp with consumed := [5] }).dev.consumed := by
  unfold On; decide +kernel

/-- A frame sent by multicast to group 1, and its record. -/
def aPass (pending refs : Nat) (next : Option Nat) : MRecord := ⟨pending, refs, 1, 0, next, false⟩

theorem witness_MulticastCopiesAreCounted :
    (∀ b, ∀ c ∈ [0, 127], let m := Msg.mdesc 5 (2 ^ 128 - 1) false
      let x := stored 6 b true (some (aPass 128 0 none))
      let s := st (inFlight x [m])
      On s ∧ c < 128 ∧ s.dev.FirstTo c Msg.isMdesc [] m [] ∧ s.dev.heldAt 5 = some x ∧ x.mrec = some (aPass 128 0 none) ∧ 4 ≤ x.vc ∧
        x.bad = b ∧ ([] : List Nat).length ≤ s.dev.freeEntries c) ∧
    (∀ n ∈ [none, some 2], ∀ p ∈ [1, 2], ∀ r ∈ [0, 1],
      let x := stored 6 false true (some (aPass p r n))
      let d := inFlight x [.reply 5 2 127, .release 5 127]
      5 < d.nextHeld ∧ d.heldAt 5 = some x ∧ x.mrec = some (aPass p r n) ∧ x.upward = none ∧
        d.FirstTo 0 Msg.isReply [] (.reply 5 2 127) [.release 5 127]) ∧
    (∀ r ∈ [Msg.release 5 127, .skip 5 127], (inFlight (stored 6 false true none) [r]).FirstTo 0 Msg.isRelease [] r []) ∧
    (stored 0 false true none).mrec = none ∧ (stored 0 false true none).upward = none ∧
    (let x := { stored 6 false true none with upward := some (1, 0, 0), again := true }; x.mrec = none ∧ x.upward.isSome = true) := by
  refine ⟨?_, ?_, ?_, rfl, rfl, rfl, rfl⟩
  · intro b c h
    have : c = 0 ∨ c = 127 := by simpa using h
    rcases this with rfl | rfl <;> cases b <;>
      exact ⟨rfl, by decide, firstTo_nil rfl rfl (by decide +kernel), rfl, rfl, by decide, rfl, by decide +kernel⟩
  · intro n hn p hp r hr
    have a : n = none ∨ n = some 2 := by simpa using hn
    have b : p = 1 ∨ p = 2 := by simpa using hp
    have c : r = 0 ∨ r = 1 := by simpa using hr
    rcases a with rfl | rfl <;> rcases b with rfl | rfl <;> rcases c with rfl | rfl <;>
      exact ⟨by decide +kernel, rfl, rfl, rfl, firstTo_nil rfl rfl (by decide +kernel)⟩
  · intro r hr
    have a : r = .release 5 127 ∨ r = .skip 5 127 := by simpa using hr
    rcases a with rfl | rfl <;> exact firstTo_nil rfl rfl (by decide +kernel)

/-- The device with a full set of entries on Crate 0, and port 0 a member of multicast group 1. -/
def crowded : Dev :=
  let d := inFlight (stored 6 false true (some (aPass 128 0 none))) [.mdesc 5 (2 ^ 128 - 1) false]
  ({ d with crates := ⟨[(0, { path := { entries := 2 ^ 20 } })]⟩ } : Dev).setBase (ad 0x5400 2) 1

theorem witness_MulticastCopiesAreCounted_full :
    let ports := ((crowded.portsOf 0).map (·.1)).filter (crowded.isMember 1 0)
    crowded.freeEntries 0 < (ports.filterMap (fun p => if crowded.portCarries p then crowded.copyLane p 6 else none)).length := by
  decide +kernel

theorem witness_OpenBitsAndWormCuts :
    (∀ o, (inFlight (stored 0 false true none) [.openBit 1023 o (2 ^ 127)]).FirstTo 127 (Msg.isOpenBit 1023) []
      (.openBit 1023 o (2 ^ 127)) []) ∧
    On (st (sending false false)) ∧ (sending false false).heldAt 5 = some (stored 0 false true none) ∧
    (sending false false).wormAt (.egress 0 0) 5 = true ∧ (sending false false).wormAt (.egress 1 0) 5 = false ∧
    (st devUp).dev.atticRuns = true := by
  exact ⟨fun o => by cases o <;> exact firstTo_nil rfl (by decide) (by decide +kernel), rfl, by decide +kernel, by decide +kernel,
    by decide +kernel, by decide +kernel⟩

/-- The device with route versions as given, at the boundary at which one may retire. -/
def versioned (a b : VState) : Dev := { devUp with versions := ⟨a, b, 0⟩, due := [.retire] }

theorem witness_RouteVersionsMove :
    On (st (versioned .active .prepared)) ∧ 0 ≤ 1 ∧ 1 ≤ 1 ∧
    (st (versioned .active .prepared)).dev.versions.state 1 = .prepared ∧
    (st (versioned .active .idle)).dev.versions.state 1 ≠ .prepared ∧
    (let d := (st (versioned .draining .active)).dev
     d.due = .retire :: [] ∧ d.versions.state 0 = .draining ∧ d.versions.state 1 ≠ .draining) := by unfold On; decide +kernel

/-- The device with shapers of each kind on lane 0. -/
def shaped (due : List Due) : Dev :=
  { devUp with
    due := due
    lanes := ⟨[(0, { goodLane with egress := { shapers := ⟨[(0, { record := packBits [(8, 1), (152, 1)] }), (1, { record := packBits [(8, 2), (152, 1)] }), (2, { c := 1 })]⟩ } })]⟩ }

theorem witness_ShapersEarnByTime :
    (let s := st (shaped [])
     let d := s.dev
     let x := 65536 * d.cfg 0x7000 1
     On s ∧ (∀ w ∈ d.due, ∀ t, w ≠ .refill t) ∧ d.crossed = false ∧ (d.boundaryOf d.step < (x : Int) ∧ (x : Int) < d.boundaryOf (d.step + 1) ∧
       (d.egress 0).refilled < x ∧ (x : Int) = d.boundaryOf d.step + 1 * (d.cfg 0x7000 1 * 65536 : Nat)) ∧
       shKind ((d.egress 0).shapers.get {} 0).record = 1 ∧ shKind ((d.egress 0).shapers.get {} 1).record = 2 ∧
       shKind ((d.egress 0).shapers.get {} 2).record ≠ 1 ∧ shKind ((d.egress 0).shapers.get {} 2).record ≠ 2) ∧
    (st (shaped [.refill 9])).dev.due = .refill 9 :: [] := by
  refine ⟨⟨rfl, by simp [st, shaped], by decide +kernel⟩, by decide +kernel⟩

theorem witness_FlowContextsMeterFrames :
    (let c : Flow := { enable := true, cbs := 1500, pbs := 1500, tc := 1500 * 65536, tp := 1500 * 65536 }
     let d := policing c
     d.policed 0 dataFrame = some 36 ∧ (d.path (crateOf 0)).cache.find? (fun p => decide (p.1 = 36)) = some (36, c) ∧
       c.poison = false ∧ c.enable = true) ∧
    (∀ p ∈ [true, false], ∀ e ∈ [true, false], let q : Fetch := ⟨36, [84, 84]⟩
     let s := st { devUp with
       crates := ⟨[(0, { path := { fetches := [q] } })]⟩, flows := ⟨[(36, { enable := e, poison := p })]⟩ }
     let d := s.dev
     On s ∧ (d.path 0).fetches = [] ++ q :: [] ∧ (d.flows.get {} 36).poison = p ∧ (d.flows.get {} 36).enable = e ∧
       (d.stackTab.get {} (flowStack 36)).status ≠ .failed) ∧
    (Flow.ofNat (packBits [(32, 1), (32, 1600000), (32, 4224), (32, 16777216), (384, 0)])).ok = true ∧
      (Flow.ofNat 0).ok = false ∧ 2 ^ 22 - 1 < 2 ^ 22 := by unfold On; decide +kernel

theorem witness_ContextCommandsMoveTheState :
    On (st devOn) ∧ devOn.recordFault (cleanRecord 0) ≠ 0 ∧ devOn.recordFault (cleanRecord sumRec) = 0 ∧
    devOn.resourceCode (cleanRecord sumRec) = 0 ∧
    devOn.ctxAt 1 = none ∧ (devCtx (ctxIn .installed)).ctxAt 1 = some (ctxIn .installed) ∧ (1 : Nat) ≠ 0 ∧
    (∀ a ∈ [CtxState.parked, .installed, .armed, .active, .draining, .faulted],
      let x := ctxWith a (openGroup 1)
      (devCtx x).ctxAt 1 = some x ∧ x.state = a ∧ ¬ x.drained = true) ∧
    (∀ h ∈ (devCtx (ctxIn .installed)).holding, h.ctx ≠ 1) ∧ devOn.templatesDue < devOn.templateCapacity ∧
    ({ devOn with contexts := ⟨[(1, some (ctxIn .parked))]⟩ }.setBase (ad 0x9000 2) 0).templatesDue ≥
      ({ devOn with contexts := ⟨[(1, some (ctxIn .parked))]⟩ }.setBase (ad 0x9000 2) 0).templateCapacity ∧
    (let d : Dev := { devCtx (ctxIn .parked) with stackTab := ⟨[(0, { status := .failed })]⟩ }
     d.resourceCode (ctxIn .parked).record = 0 ∧ (d.stack (templateStack (ctxIn .parked).template)).status = .failed) := by
  unfold On; decide +kernel

/-- The same SUM with partial results allowed at a quorum of one. -/
def partRec : Nat := mkRec [(2, 1), (3, 1), (5, 0x70), (7, 4), (11, 2), (20, 0x80), (22, 1), (31, 100), (35, 1)]

/-- A message to Crate 127 that context 1 lacks a member, and the device with it on its way. -/
def absent : Msg := .memberAbsent 127 1 0 0 8
def absentDev (a : CtxState) : Dev := { devCtx (ctxIn a) with net := [absent] }

theorem witness_CollectivesTimeOut :
    (∀ a ∈ [CtxState.armed, .active, .draining, .faulted], ∀ r ∈ [sumRec, partRec],
      let x := { ctxWith a (openGroup 1) with record := r }
      (st (devCtx x)).dev.ctxAt 1 = some x ∧ (x.group (groupKey 0 0)).state = .opened ∧
        (x.group (groupKey 0 0)).clearing = false ∧ (x.group (groupKey 0 0)).stale = false ∧ x.state = a) ∧
    (rPartial partRec = true ∧ rQuorum partRec ≤ (openGroup 1).round.added) ∧
    ¬ (rPartial sumRec = true ∧ rQuorum sumRec ≤ (openGroup 1).round.added) ∧
    (let h : HoldC := ⟨0, 1023, 1, cFrame 0 0, 0⟩
     let s := st { devCtx (ctxIn .installed) with holding := [h] }
     On s ∧ s.dev.holding = [] ++ h :: [] ∧ h.crate = 0 ∧ h.lane < 1024 ∧ s.dev.ctxAt h.ctx = some (ctxIn .installed)) ∧
    (∀ a ∈ [CtxState.parked, .armed], (absentDev a).FirstTo 127 Msg.isAbsent [] absent [] ∧ (absentDev a).ctxAt 1 = some (ctxIn a)) := by
  refine ⟨by decide +kernel, by decide +kernel, by decide +kernel, by unfold On; decide +kernel, ?_⟩
  intro a h
  have : a = .parked ∨ a = .armed := by simpa using h
  rcases this with rfl | rfl <;> exact ⟨firstTo_nil rfl rfl (by decide +kernel), by decide +kernel⟩

/-- A COMPLETE group; an EMITTING group with nothing left to write, or with one frame; a spilled group with one contribution that its
engine has not acknowledged; an abandoned one; and one whose slots are being zeroed while contributions wait. -/
def doneGroup : Group := { state := .complete, round := { openRound sumRec 0 none with members := 3, added := 2 } }
def emitGroup (l : List Emit) : Group := { state := .emitting, round := { members := 3, added := 2 }, emit := l }
def ackGroup : Group := { openGroup 1 with acks := [⟨0, 0⟩] }
def clearGroup : Group := { openGroup 1 with clearing := true }
def aContrib : Contrib := ⟨1, 4, 0, List.replicate 16 0, 0, false, ⟨0, 0⟩, 0, none⟩
def zeroGroup (n : Nat) (w : List Contrib) : Group := { zeroing := n, waiting := w }
/-- A shadowed chunk with messages or pairs of values on their way. -/
def aShadow (m : List ShadowMsg) (own theirs : List ShadowVal) : Shadow :=
  { ctx := 1, record := sumRec, key := 0, gen := 0, chunk := 0, crate := 0, partner := 4, slots := 1, planB := false, round := {}, msgs := m
    own := own, theirs := theirs }

theorem witness_RoundsEndAndGroupsAreReleased :
    (∀ g ∈ [doneGroup, emitGroup [], emitGroup [⟨resFrame, 1⟩], ackGroup, clearGroup, zeroGroup 1 [], zeroGroup 2 [], zeroGroup 1 [aContrib]],
      let x := ctxWith .active g
      On (st (devCtx x)) ∧ (st (devCtx x)).dev.ctxAt 1 = some x ∧ x.group (groupKey 0 0) = g ∧ x.state ≠ .draining ∧ x.state = .active) ∧
    doneGroup.state = .complete ∧ doneGroup.clearing = false ∧ rSpilled sumRec (groupKey 0 0) = false ∧
    (∀ l ∈ [[], [⟨resFrame, 1⟩]], (emitGroup l).state = .emitting) ∧ devUp.cfg 0x6500 3 ≠ 1 ∧
    (Dev.writeEmits 1 (ctxWith .active (emitGroup [])) 0 (emitGroup []) [] none devUp).1 = [] ∧
    ackGroup.acks = ⟨0, 0⟩ :: [] ∧ ackGroup.state = .opened ∧ ackGroup.clearing = false ∧
    (∀ s ∈ [StackState.wiping, .failed], (({ devUp with stackTab := ⟨[(0, { status := s })]⟩ } : Dev).stackTab.get {}
      ((ctxWith .active ackGroup).spillStack 0)).status = s) ∧
    clearGroup.clearing = true ∧ 0 < (zeroGroup 2 []).zeroing ∧ (zeroGroup 1 [aContrib]).waiting ≠ [] ∧
    (devCtx (ctxWith .active (zeroGroup 1 [aContrib]))).nextChunk (ctxWith .active (zeroGroup 1 [aContrib])) 0 ≠ none ∧
    (∀ m ∈ [[ShadowMsg.copy aContrib], [.notice]], let v := aShadow m [] []
      ({ devUp with shadows := [v] } : Dev).shadows = [] ++ v :: [] ∧ v.ctx = 1 ∧ v.key = groupKey 0 0 ∧ v.msgs = m) ∧
    (∀ r ∈ [2, 3], let v := aShadow [] [⟨1, 2, []⟩] [⟨1, r, []⟩]
     ({ devUp with shadows := [v] } : Dev).shadows = [] ++ v :: [] ∧ v.own = ⟨1, 2, []⟩ :: [] ∧ v.theirs = ⟨1, r, []⟩ :: []) := by
  unfold On; decide +kernel

/-- Where no room for a frame is left, an emission keeps its frame. -/
theorem witness_RoundsEndAndGroupsAreReleased_full :
    let x := ctxWith .active (emitGroup [⟨resFrame, 1⟩])
    let d := { devCtx x with crates := ⟨[(0, { path := { result := 2 ^ 20 } })]⟩ }
    (Dev.writeEmits 1 x 0 (emitGroup [⟨resFrame, 1⟩]) [⟨resFrame, 1⟩] none d).1 ≠ [] := by decide +kernel

/-- A context with plan B, remapped from Crate 0 to Crate 1 but for group 0. -/
def twoPlans : Context := { ctxIn .armed with record := mkRec [(2, 1), (3, 1), (5, 0x62), (7, 4), (11, 2), (20, 0x80), (22, 1), (31, 100)] }
def moving (g : Group) : Context := { ctxWith .armed g with moving := [(0, 1, [0])] }

theorem witness_PlansAndRemapsMove :
    On (st { devUp with due := [.switch] }) ∧ (st { devUp with due := [.switch] }).dev.due = .switch :: [] ∧
    devUp.ctxAt 1 = none ∧ (∀ x ∈ [twoPlans, ctxIn .parked, ctxIn .armed], (devCtx x).ctxAt 1 = some x) ∧
    rTwo twoPlans.record = true ∧ 2 < 3 ∧ 2 ≤ 2 ∧
    (devCtx (ctxIn .armed)).remapRefused 0 0 = true ∧ (devCtx (ctxIn .armed)).remapRefused 0 1 = false ∧
    (devCtx (ctxIn .armed)).remapRefused 127 0xFF = false ∧ 1 ≠ devUp.baseOf (0x6380 + 0) 2 ∧ devUp.workOn 0 = [] ∧
    devUp.remapRefused 0 1 = false ∧ devUp.remapping 0 = false := by
  unfold On; decide +kernel

theorem witness_PlansAndRemapsMove_groups :
    (devCtx (ctxIn .armed)).workOn 0 = [(1, ctxIn .armed, 0)] ∧ (ctxIn .armed).moving = [] ∧
    (∀ g ∈ [openGroup 1, {}], let x := moving g
      (devCtx x).ctxAt 1 = some x ∧ x.moving = [(0, 1, [0])] ∧ 0 < x.crates.length ∧ (0 : Nat) < 2 ^ 17 ∧
        (0 : Nat) ∈ [0] ∧ x.group (groupKey 0 0) = g) ∧ (openGroup 1).busy = true ∧ ({} : Group).busy = false := by
  decide +kernel

/-- The device with a loop of lane 0 in a state. -/
def looped (x : Loop) (drop : Bool) : Dev :=
  { devOn with
    lanes := ⟨[(0, { optics := if drop then { drop := x } else { modl := x } })]⟩
    hatches := ⟨[(0, { started := true, warm := true })]⟩
    chutes := ⟨[(0, { read := true })]⟩
    modules := ⟨[(0, { status := 2, present := true, enable := true })]⟩ }

theorem witness_RingLoopsMoveThroughTheirStates :
    On (st devOn) ∧ (0 : Nat) < 1024 ∧
    (∀ drop, ∀ a ∈ [LoopState.off, .sweep, .acquire, .verify, .track, .hold, .fault], ∀ n ∈ [0, 15, 16], ∀ v,
      let x : Loop := { state := a, heater := 48000, cands := [1, 2], badRun := n, reverify := v }
      (st (looped x drop)).dev.loop 0 drop = x) ∧
    (∀ drop, (looped {} drop).loopsOff 0 = false ∧ ((looped {} drop).hatch (hatchOfLane 0)).started = true ∧
      ((looped {} drop).hatch (hatchOfLane 0)).warm = true ∧ ((looped {} drop).chute (hatchOfLane 0)).read = true ∧
      (looped {} drop).fedByLaser 0 = true) ∧
    ([48000, 0] : List Nat) ≠ [] ∧ devOn.verifyFault 0 0 ⟨0, 0, 0⟩ 0 = some 0x3002 ∧
    (∃ h, devOn.verifyFault ringCalibration h ⟨32767, -32768, -32768⟩ 2000 = none) := by
  refine ⟨rfl, by decide, by decide +kernel, by decide +kernel, by simp, by decide +kernel, 25875, by decide +kernel⟩

/-- The device with laser module 15 as given. -/
def lit (x : Module) : Dev := { devOn with modules := ⟨[(15, x)]⟩ }

theorem witness_LaserModulesAndTheirSpares :
    On (st devOn) ∧
    (∀ b, let x : Module := { status := 2, present := b }
      (st (lit x)).dev.module 15 = x ∧ x.present = b) ∧
    (let x : Module := { status := 2, present := true, failed := 128, waiting := [7], commanded := 128 }
     (lit x).spareNext 15 = some 7 ∧ x.sparing = none ∧ (lit x).atticRuns = true ∧ x.status ≠ 0 ∧ bit x.failed 7 = true) ∧
    (lit {}).spareNext 15 = none ∧
    (∀ g ∈ [SparingStage.tuning, .verifying], let x : Module := { status := 2, present := true, sparing := some (7, 1, g) }
      (st (lit x)).dev.module 15 = x ∧ x.sparing = some (7, 1, g)) ∧
    ({ spareB := ⟨.active, 7⟩ } : Module).carrier 7 = some 1 ∧ (15 : Nat) < 16 ∧ (7 : Nat) < 8 := by unfold On; decide +kernel

theorem witness_LanesAndHatchesAreMonitored :
    On (st devOn) ∧ (1023 : Nat) < 1024 ∧ (7 : Nat) < 8 ∧
    (let d := (st { devOn with hatches := ⟨[(7, { started := true })]⟩ }).dev
     (d.hatch 7).started = true ∧ (d.hatch 7).warm = false ∧ (d.hatch 6).started = false) ∧
    ((1 : Nat) ≠ 0 ∧ devOn.cfg 0x3000 7 * devOn.berLimit 1023 * 1 ≤ 2 ^ 63 * 10 ^ 18 * 256) ∧ devOn.cfg 0x3000 9 ≤ 2 ^ 64 - 1 := by
  unfold On; decide +kernel

/-- The device with stack 1 as given. -/
def stacked (x : Stack) : Dev := { devUp with stackTab := ⟨[(1, x)]⟩ }
/-- A device whose lane 0 is ring-east with frame 5 in its Cellar ring. -/
def cellarDev : Dev :=
  { devUp.setBase (ad 0x2180 1) 2 with
    lanes := ⟨[(0, { goodLane with rx := { goodLane.rx with rings := ⟨[(6, { size := 64, initial := 64, runs := [⟨5, 4, false, true⟩] })]⟩ } })]⟩
    stackTab := ⟨(List.range 12).map (fun k => (k, { status := .ready }))⟩
    nextHeld := 6
    held := ⟨[(5, some { frame := dataFrame, crate := 0, lane := some 0, vc := 6, account := .ring 0 6, start := 0 })]⟩ }
/-- A context of a spilled record in a state, with one spill group on stack 1. -/
def spilledCtx (s : CtxState) : Context :=
  { ctxIn s with record := mkRec [(2, 1), (3, 1), (5, 0x64), (7, 4), (11, 2), (20, 0x80), (22, 1), (27, 1), (31, 100)], spill := [⟨0, 1, 1, 0⟩] }

theorem witness_CellarErrorsHaveTheirOutcome :
    On (st devUp) ∧ (1 : Nat) < 12 ∧
    (∀ n ∈ [0, 2 ^ 29 - 1], let d := (st (stacked { status := .ready, scrubAt := n })).dev
      (d.stack 1).status = .ready ∧ (d.stack 1).scrubAt < 2 ^ 29) ∧
    (st (stacked { status := .failed })).dev.stack 1 = { status := .failed } ∧
    (let d := (stacked { status := .ready }).setBase (ad 0x9000 1) 1
     d.attic.state ≠ .restarting ∧ d.attic.state ≠ .off ∧
     (∀ q ∈ [(0, 0), (2 ^ 33 - 1, 0), (2 ^ 33, 1), (2 ^ 35 - 1, 5)], (partitionAt (d.partitions 1) 0 (q.1 / 64 * 64)).1 = q.2 ∧ q.1 < 2 ^ 35)) ∧
    (let x := { ctxIn .parked with template := 2 }
     (1, x) ∈ (devCtx x).ctxs ∧ x.state = .parked ∧ templateStack x.template = 1) := by
  unfold On; decide +kernel

theorem witness_CellarErrorsHaveTheirOutcome_parked :
    let x := { ctxIn .parked with template := 2 }
    ∀ q ∈ (devCtx x).ctxs, q.2.state = .parked → q.2.template = x.template → q.1 = 1 := by
  intro x q h
  have e : (devCtx x).ctxs = [(1, x)] := by decide +kernel
  rw [e] at h
  simp at h
  simp [h]

theorem witness_CellarErrorsHaveTheirOutcome_queues :
    cellarDev.isRing 0 = true ∧ cellarDev.cellarStore 0 = true ∧ cellarDev.evictedTo 5 (ringStack 0) = true ∧
      (cellarDev.stack (ringStack 0)).status = .ready ∧ replayStack 0 < 12 ∧ (cellarDev.heldAt 5).isSome = true := by decide +kernel

theorem witness_CellarErrorsHaveTheirOutcome_spill :
    let x := spilledCtx .armed
    (devCtx x).ctxAt 1 = some x ∧ x.state = .armed ∧ (devCtx x).spillKeys 1 = [(1, groupKey 0 (rG x.record))] ∧
      (devCtx x).spillGroupAt 1 0 = some (1, groupKey 0 (rG x.record)) := by decide +kernel

/-- A Chute map whose transmit fibres 0 and 1 take receive fibre a and b, and the device with it as Chute 7's. -/
def mapOf (a b : Nat) : Nat := packBits ([(8, 128 + a), (8, 128 + b)] ++ List.replicate 14 (8, 0))
def chuted (map : Nat) (x : Chute) : Dev := { devOn.setBase (ad 0x3407 1) map with chutes := ⟨[(7, x)]⟩ }

theorem witness_ChutesProgrammeTheirCells :
    On (st devOn) ∧ devOn.attic.holding = false ∧
    (devOn.chuteWriteFault [(ad 0x3407 1, mapOf 1 0)]).isSome = false ∧
    (devOn.setBase (ad 0x3407 1) (mapOf 1 0)).chuteFault.isSome = false ∧
    (devOn.setBase (ad 0x3407 1) (mapOf 1 1)).chuteFault.isSome = true ∧
    (let d := (st (chuted (mapOf 1 0) { programming := true })).dev
     d.attic.holding = false ∧ (d.chute 7).programming = true ∧ (d.chute 7).pulsed = none ∧
       (pairLanes 7 (mapPairs (mapOf 1 0))).any (fun l => (d.egress l).cur.isSome) = false ∧ mapDoubles (mapOf 1 0) = false ∧
       d.baseOf 0x3407 1 = mapOf 1 0) ∧ (State.reset.nv.chute 7).cells.wf .clear = true ∧
    (let d := (st (chuted (mapOf 1 0) { programming := true, pulsed := some [], missed := [16] })).dev
     (d.chute 7).programming = true ∧ (d.chute 7).pulsed ≠ none) ∧
    (State.reset.dev.chute 7).programming = false ∧ (∀ r, (chuted 0 { read := r }).chute 7 = { read := r }) := by unfold On; decide +kernel

/-- A session that is open or half open. -/
def aSession (o : Bool) : Session := { id := 65535, isOpen := o, authority := 0, notices := some 0, telemetry := 3 }
/-- The device with that session, and one event record. -/
def inSession (o : Bool) : Dev := { devUp with attic := { onAttic with sessions := [aSession o] } }.raise 0x4003 0

theorem witness_TheAtticServesWritesAndSends :
    On (st devUp) ∧ (st devUp).dev.atticRuns = true ∧ (st devOff).dev.atticRuns = false ∧ devUp.imm (0x6580 + 127) 2 ≠ 1 ∧
    devUp.imm (0x6580 + 127) 2 = 0 ∧ seqAfter 1 (inSession true).log.latest = false ∧
    seqAfter 2 (inSession true).log.latest = true ∧ (st (inSession true)).dev.session 65535 = some (aSession true) ∧
    (st (inSession false)).dev.session 65535 = some (aSession false) ∧ (inSession true).session 1 = none ∧
    (((inSession true).log.recs.reverse.filter (fun e => seqAfter e.seq 0 && decide (0 ≤ e.sev))).take 84).getLast?.isSome = true ∧
    dataFrame.hdr.tc ≠ 6 ∧ cellsOf dataFrame.flits ≤ devUp.cfg 0x4000 4 - (devUp.path 0).attic ∧
    (inSession true).resetting 127 = false ∧
    (inSession true).attic.sessions.length = 1 ∧ devUp.atticWaits = [] ∧ ({ devUp with atticWaits := [⟨dataFrame, none, none, none⟩] } : Dev).atticWaits ≠ [] ∧
    (∀ q ∈ [(0, Look.discard 0x5010), (0x4000, .port 0), (0x8000, .ring 0 0 false), (0xDFFF, .pair 8191)],
      (routed q.1).atticRoute 5 = q.2) := by unfold On; decide +kernel

/-- A port group that has just begun a reset of a length is being reset. -/
theorem witness_TheAtticServesWritesAndSends_resetting (h : 0 < Config.resetLength 127 0 % (4000 * 2 ^ 32 + 1)) :
    let d : Dev := { devUp with crates := ⟨[(127, { resetFrom := some 0 })]⟩ }
    d.atticRuns = true ∧ d.resetting 127 = true := by
  refine ⟨by decide +kernel, ?_⟩
  exact decide_eq_true (show (0 : Nat) < 0 + Config.resetLength 127 0 % (4000 * 2 ^ 32 + 1) by omega)

/-- A peer of the device, and the device with transactions, stored responses and sealed commits as given. -/
def aPeer : Peer := { src := 9, session := 3, target := 7, tag := 65535 }
def served (i : Inv) : Dev := { devUp with inv := i, attic := { onAttic with sessions := [{ id := 3, isOpen := true }] } }
/-- A sealed commit of a step. -/
def aSeal (x : Nat) : Sealed := { step := x, trans := 1, session := 0, staged := [(ad 0x2000 4, 5)], stamp := none, digest := .num 0 }

theorem witness_RequestsAreServed :
    Serves (st (served {})).dev aPeer ∧ On (st devUp) ∧ devUp.sessionOpen 3 = false ∧ devOff.atticRuns = false ∧ Asks (.status aPeer) aPeer ∧ ({ aPeer with version := 2 } : Peer).version ≠ 1 ∧
    ({ aPeer with target := 8 } : Peer).target ≠ devUp.attic.nodeId ∧
    (let r : Stored := ⟨9, none, 65535, 0, ⟨0x87, 65535, 0, 0, .status 0⟩⟩
     (served { stored := [r] }).storedFor aPeer = some r) ∧
    (∀ t ∈ [none, some ({ id := 65535, session := 0 } : Trans)],
      let d := (st (served { trans := t.toList })).dev
      Serves d aPeer ∧ d.trans 65535 = t ∧ d.inv.trans.length < 4) ∧
    (let d := (st (served { trans := List.replicate 4 { id := 1, session := 0 } })).dev
     Serves d aPeer ∧ 4 ≤ d.inv.trans.length) ∧
    (served {}).trans 1 = none ∧ devUp.writeStatus {} true ⟨0x2000, 4, 1, 5⟩ = .ok ∧ devUp.writeStatus {} true ⟨0x2000, 4, 2, 5⟩ ≠ .ok ∧
    devUp.writeStatus {} false ⟨0xC000, 3, 4, 7⟩ = .ok ∧ devUp.writeStatus {} false ⟨0xC000, 12, 4, 7⟩ = .ok ∧
    (∃ w : WriteItem, devUp.writeStatus {} false w = .ok ∧ w.index ∉ [0x2800, 0x4003, 0x8000, 0xA000, 0xAF00, 0xB100, 0xC000] ∧
      ¬ (0x6580 ≤ w.index ∧ w.index < 0x6600)) := by
  unfold Serves On
  refine ⟨by decide +kernel, by decide +kernel, by decide +kernel, by decide +kernel, by simp [Asks], by decide +kernel, by decide +kernel, by decide +kernel,
    by decide +kernel, by decide +kernel, by decide +kernel, by decide +kernel, by decide +kernel, by decide +kernel, by decide +kernel,
    ⟨0x6200, 1, 4, 1⟩, by decide +kernel⟩

/-- A life-cycle request to a target state that confirms the device. -/
def lifeAsk (t : Nat) : Nat := packBits [(8, t), (24, 0), (32, 7), (256, if t = 1 then 1 else 0), (256, if t = 1 then 1 else 0)]

/-- A transaction that stages one, and the device with it open. -/
def lifeTrans : Trans := { id := 65535, session := 3, staged := ⟨[(ad 0x1000 5, some (lifeAsk 1, 72))]⟩ }
def committing : Dev := served { trans := [lifeTrans] }

/-- The configuration that the commit of that transaction leads to. -/
def committed : Dev := committing.under (committing.putStaged committing.baseBefore lifeTrans.values) {}

/-- R30: the ports of that configuration are in order, sixteen Crates at a time. -/
theorem test_ports_ok_0 : (List.range' 0 16).findSome? committed.portFault = none := by decide +kernel
theorem test_ports_ok_1 : (List.range' 16 16).findSome? committed.portFault = none := by decide +kernel
theorem test_ports_ok_2 : (List.range' 32 16).findSome? committed.portFault = none := by decide +kernel
theorem test_ports_ok_3 : (List.range' 48 16).findSome? committed.portFault = none := by decide +kernel
theorem test_ports_ok_4 : (List.range' 64 16).findSome? committed.portFault = none := by decide +kernel
theorem test_ports_ok_5 : (List.range' 80 16).findSome? committed.portFault = none := by decide +kernel
theorem test_ports_ok_6 : (List.range' 96 16).findSome? committed.portFault = none := by decide +kernel
theorem test_ports_ok_7 : (List.range' 112 16).findSome? committed.portFault = none := by decide +kernel

theorem test_ports_ok : allCrates.findSome? committed.portFault = none := by
  have h : allCrates = List.range' 0 16 ++ List.range' 16 16 ++ List.range' 32 16 ++ List.range' 48 16 ++ List.range' 64 16 ++
      List.range' 80 16 ++ List.range' 96 16 ++ List.range' 112 16 := by decide +kernel
  simp only [h, List.findSome?_append, test_ports_ok_0, test_ports_ok_1, test_ports_ok_2, test_ports_ok_3, test_ports_ok_4, test_ports_ok_5, test_ports_ok_6,
    test_ports_ok_7, Option.or_none]

theorem test_rings_ok : committed.ringFault = none := by decide +kernel
theorem test_cellar_ok : committed.cellarFault = none := by decide +kernel

theorem test_config_ok : (committing.under (committing.putStaged committing.baseBefore lifeTrans.values) {}).configFault = none := by
  change committed.configFault = none
  unfold Dev.configFault
  simp only [test_ports_ok, test_rings_ok, test_cellar_ok]
  decide +kernel

/-- The step of that commit. -/
def commitStep : Nat := committing.step + committing.cfg 0xF000 1

theorem test_share_ok : ((committing.devAt commitStep).under
    (committing.putStaged committing.baseBefore lifeTrans.values) {}).shareFault = none := by decide +kernel

theorem test_coupled_ok : committing.coupledCheck {} lifeTrans.values commitStep = {} :=
  coupledCheck_ok rfl rfl (by decide +kernel) test_config_ok (by decide +kernel) test_share_ok (by decide +kernel) (by decide +kernel)
    (by decide +kernel) (by decide +kernel) (by decide +kernel) (by decide +kernel)

/-- R310: the commit of that transaction at the first step allowed passes every check. -/
theorem test_verdict_ok : (committing.verdict {} 3 lifeTrans.values (committing.step + committing.cfg 0xF000 1)).status = .ok :=
  verdict_ok_of rfl (by decide +kernel) (by decide +kernel) (by decide +kernel) (by decide +kernel) (by decide +kernel)
    (by decide +kernel) test_coupled_ok (by decide +kernel)

theorem witness_CommitsAreSealedCancelledAndApplied :
    (committing.verdict {} 3 lifeTrans.values (committing.step + committing.cfg 0xF000 1)).status = .ok ∧
    (let d := (st committing).dev
     Serves d aPeer ∧ d.trans 65535 = some lifeTrans ∧ d.stampTest (stampOf lifeTrans.values) = .go ∧ d.trans 1 = none ∧
       (d.verdict {} 3 lifeTrans.values (d.step + d.cfg 0xF000 1 - 1)).status ≠ .ok) ∧
    (let d := served { epoch := 1 }
     d.stampTest (some (0, 9)) = .refuse ∧ d.stampTest (some (1, 0)) = .duplicate 0 (.num 0) ∧ d.stampTest (some (1, 1)) = .go) ∧
    (let d := (st (served { sealed := [aSeal 2000] })).dev
     Serves d aPeer ∧ d.inv.sealed.getLast? = some (aSeal 2000) ∧ (∃ q ∈ d.inv.sealed, 2000 ≤ q.step) ∧ d.inv.sealed.length < 16 ∧
       ¬ ((d.now : Int) > ({ d with inv := { d.inv with sealed := [] } } : Dev).crossing 2000 - 16 * 65536000)) ∧
    16 ≤ (served { sealed := (List.range 16).map (fun k => aSeal (2000 + k)) }).inv.sealed.length ∧
    (st devUp).dev.inv.sealed.getLast? = none ∧
    (let d := (st { served { sealed := [aSeal 1] } with due := [.commit] }).dev
     d.due = .commit :: [] ∧ d.inv.sealed = aSeal 1 :: []) ∧
    ((st devUp).dev.due.all (fun w => decide (w ≠ .commit)) = true ∧ (st devUp).dev.crossed = false) ∧
    (let d := (st (served { held := ⟨[(unitKey (ad 0x6000 1) 127, some 1)]⟩ })).dev
     d.inv.held.get none (unitKey (ad 0x6000 1) 127) ≠ none ∧ (d.quiesceSet (ad 0x6000 1) 127).1 ≠ [] ∧
       (d.quiesceSet (ad 0x6000 1) 127).2 = true ∧ (∀ y ∈ d.holding, y.crate ≠ 127) ∧
       (d.quiesceSet (ad 0x6000 1) 126).1 = []) ∧
    (let d := (st (served { coldDue := [(ad 0xC000 6, 1)] })).dev
     d.atticRuns = true ∧ d.inv.coldDue ≠ []) := by
  refine ⟨test_verdict_ok, ?_⟩
  unfold Serves; decide +kernel

theorem witness_SessionsOpenCarryRecordsAndClose :
    On (st devUp) ∧ (st devUp).dev.atticRuns = true ∧ (st devOff).dev.atticRuns = false ∧ 7 = devUp.attic.nodeId ∧ 8 ≠ devUp.attic.nodeId ∧
    ({} : Fuses).life = 0 ∧ devUp.attic.sessions.length < 8 ∧ authorityOf {} devUp 0 = some 0xFF ∧
    (let f : Fuses := { life := 1, recoveryKey := keyDigest 1 }
     f.life ≠ 0 ∧ f.life ≠ 3 ∧ keyDigest 1 = f.recoveryKey ∧ keyDigest 2 ≠ f.recoveryKey ∧ authorityOf f devUp 1 = some 0 ∧
       authorityOf f devUp 2 = none ∧ authorityOf f (devUp.setBase (ad 0xB010 8) (keyDigest 2)) 2 = some 8) ∧
    (∀ o, (st (inSession o)).dev.session 65535 = some (aSession o) ∧ (aSession o).isOpen = o) ∧
    (aSession true).fresh 1 = true ∧ (aSession true).fresh (2 ^ 32) = true ∧ (aSession true).fresh (2 ^ 32 + 1) = false ∧
    (∀ k ∈ [0, 1], ({ devUp with attic := { onAttic with reportStatus := k } } : Dev).attic.reportStatus = k) := by
  unfold On; decide +kernel

/-- An exchange with a static key that is no point of the curve fails; one with points of the curve has an outcome, as for secrets
of 1. -/
theorem witness_SessionsOpenCarryRecordsAndClose_exchange :
    (∀ ra id, devUp.agree {} 0 ra id = none) ∧ (sm2Respond 1 1 7 sm2G.number sm2G.number 9).isSome = true := by
  refine ⟨?_, by decide +kernel⟩
  intro ra id
  have h : pointOf 0 = none := by decide +kernel
  simp [Dev.agree, sm2Respond, h]

/-- A record of a type from the peer of session 65,535, with a sequence and a body under the key 0. -/
def aRecord (type seq : Nat) (p : List Byte) : List Byte :=
  let head := recordHead type 65535 seq (p.length + 16)
  head ++ gcmSeal 0 (2 * 2 ^ 64 + seq) head p
/-- The same with its last byte changed. -/
def spoilt (type : Nat) : List Byte := let r := aRecord type 1 [1, 7]; r.dropLast ++ [r.getLastD 0 ^^^ 1]

theorem witness_SessionsOpenCarryRecordsAndClose_records :
    recordOk [] = false ∧ recordOk (recordHead 1 0 0 0) = true ∧ recordType (recordHead 1 0 0 0) ≠ 4 ∧ recordType (recordHead 1 0 0 0) ≠ 5 ∧
    (∀ k ∈ [4, 5], recordOk (aRecord k 1 [1, 7]) = true ∧ recordType (aRecord k 1 [1, 7]) = k ∧ recordSession (aRecord k 1 [1, 7]) = 65535 ∧
      recordSeq (aRecord k 1 [1, 7]) = 1 ∧ (aSession true).shared = 0 ∧ openRecord 0 (aRecord k 1 [1, 7]) = some [1, 7] ∧
      recordOk (spoilt k) = true ∧ recordType (spoilt k) = k ∧ openRecord 0 (spoilt k) = none) := by decide +kernel

/-- GB/T 32907, example 1; RFC 8998 A.2 takes its values through Galois/Counter Mode (R7, R347). -/
theorem test_sm4 :
    sm4 0x0123456789ABCDEFFEDCBA9876543210 0x0123456789ABCDEFFEDCBA9876543210 = 0x681EDF34D206965E86B3E94F536E4246 ∧
    gcmSeal 0x0123456789ABCDEFFEDCBA9876543210 0x00001234567800000000ABCD (toBytes 20 0xFEEDFACEDEADBEEFFEEDFACEDEADBEEFABADDAD2)
      (toBytes 64 0xAAAAAAAAAAAAAAAABBBBBBBBBBBBBBBBCCCCCCCCCCCCCCCCDDDDDDDDDDDDDDDDEEEEEEEEEEEEEEEEFFFFFFFFFFFFFFFFEEEEEEEEEEEEEEEEAAAAAAAAAAAAAAAA) =
      toBytes 80 (0x17F399F08C67D5EE19D0DC9969C4BB7D5FD46FD3756489069157B282BB200735D82710CA5C22F0CCFA7CBF93D496AC15A56834CBCF98C397B4024A2691233B8D * 2 ^ 128 +
        0x83DE3541E4C2B58177E065A9BF7B62EC) := by decide +kernel

theorem witness_TheAtticRestarts :
    (∀ a ∈ [AtticState.off, .starting, .running, .restarting], ∀ b t,
      let s := st { devUp with attic := { onAttic with state := a, dogBarked := b, trial := t } }
      let d := s.dev
      On s ∧ d.attic.state = a ∧ d.attic.dogBarked = b ∧ d.attic.trial = t ∧ 7 = d.attic.nodeId % 2 ^ 32) ∧
    ({} : ImageSlot).headerCode {} ≠ 0 ∧
    (∀ q ∈ [0, 5], let d : Dev := { devUp with attic := { onAttic with state := .restarting, causeNow := q } }
      d.attic.state = .restarting ∧ d.attic.causeNow = q ∧ d.log.queued = []) := by unfold On; decide +kernel

theorem witness_FusesAreWrittenOnce :
    (lifeTrans.values = [(ad 0x1000 5, lifeAsk 1)] ∧
      (committing.verdict {} 3 lifeTrans.values (committing.step + committing.cfg 0xF000 1)).status = .ok) ∧
    (committing.verdict {} 0 [(ad 0x1000 5, lifeAsk 2)] (committing.step + committing.cfg 0xF000 1)).status ≠ .ok ∧
    (st { devUp with attic := { onAttic with lifeDue := some (lifeAsk 1) } }).dev.attic.lifeDue = some (lifeAsk 1) ∧
    (∀ bad ∈ [0, 1, 2, 4, 7], bad = 0 ∨ bit bad 0 = true ∨ bit bad 1 = true ∨ bit bad 2 = true) ∧
    (let d : Dev := { devUp with attic := { onAttic with imageVersion := 64 } }
     ({} : Fuses).security < 64 ∧ 64 ≤ d.attic.imageVersion ∧ 64 ≤ 64 ∧ 0 ≤ ({} : Fuses).security) ∧
    (let d : Dev := { devUp with attic := { onAttic with imageKeySlot := 0 } }
     let f : Fuses := {}
     3 ≤ 3 ∧ ¬ (d.attic.imageKeySlot = 3 ∧ 8 ≤ d.attic.bootStep) ∧ ∃ j, j < 4 ∧ j ≠ 3 ∧ bit f.slots j = true ∧ bit f.revoked j = false) := by
  refine ⟨⟨by decide +kernel, test_verdict_ok⟩, by decide +kernel, by decide +kernel, by decide +kernel, by decide +kernel,
    by decide +kernel, by decide +kernel, 0, by decide +kernel⟩

/-- A freeze copy of a step, and the device with it or with room for none. -/
def aSnap : Snap := { step := 8, clock := 0, time := 0, tally := {}, entries := [], base := {}, mac := 0 }

theorem witness_TelemetryIsFrozenMappedAndSent :
    On (st devUp) ∧ (st devUp).dev.attic.holding = false ∧
    (∀ f ∈ [none, some aSnap], (st { devUp with due := [.snapshot 8 f] }).dev.due = .snapshot 8 f :: [] ∧
      (st { devUp with tele := { freeze := f } }).dev.tele.freeze = f) ∧ 0 < devUp.snapCapacity ∧
    (∀ p ∈ devUp.stackTab.cells, p.2.status ≠ .failed) ∧ ¬ (∀ p ∈ (stacked { status := .failed }).stackTab.cells, p.2.status ≠ .failed) ∧
    (st { devUp with due := [.map (devUp.mapAt 9)] }).dev.due = .map (devUp.mapAt 9) :: [] ∧ (∀ k < 12, (devUp.stack k).status ≠ .failed) ∧
    devUp.due.all (fun w => match w with | .snapshot _ _ => false | .map _ => false | _ => true) = true ∧ devUp.crossed = false ∧
    ¬ (devUp.step + devUp.cfg 0xA000 5 - 1 + 1 < devUp.step + devUp.cfg 0xA000 5) ∧
    (let d := (st { inSession true with tele := { toSend := [(1, 8)] } }).dev
     d.atticRuns = true ∧ d.tele.toSend = (1, 8) :: [] ∧ d.tele.freeze = none ∧ d.due = [] ∧
       ∀ x ∈ d.attic.sessions, x.rxHigh < 2 ^ 32 ∧ x.txNext + 100 ≤ 2 ^ 32) ∧
    ({ devUp with tele := { freeze := some aSnap } } : Dev).tele.freeze = some aSnap ∧ aSnap.step < 9 := by unfold On; decide +kernel

/-- A snapshot is named at the step now open, and nothing is being frozen. -/
theorem witness_TelemetryIsFrozenMappedAndSent_freeze :
    let s := st { devUp with tele := { named := [0] } }
    let r := (runOpen s.nv s.dev).2
    r.snapNamed r.step = true ∧ r.tele.freeze = none ∧ r.snapCapacity ≠ 0 := by decide +kernel

theorem witness_AHaltedAtticAnswersAndSealsNothing :
    On (st devOff) ∧ (st devOff).dev.atticRuns = false ∧ Asks (.status aPeer) aPeer ∧
    (let d := (st { devOff with inv := { sealed := [aSeal 1] }, due := [.commit] }).dev
     d.atticRuns = false ∧ aSeal 1 ∈ d.inv.sealed ∧ (aSeal 1).step = 0 + 1 ∧ d.due = .commit :: [] ∧ d.inv.sealed = aSeal 1 :: []) := by
  unfold On
  exact ⟨by decide +kernel, by decide +kernel, by simp [Asks], by decide +kernel⟩

theorem witness_NoTransmitFibreCarriesTwoSources : ChutesOneSource State.reset.nv ∧ step State.reset = .next (State.reset.setDev State.reset.dev.tick) := by
  refine ⟨?_, rfl⟩
  intro h
  refine ⟨rfl, ?_⟩
  intro x y hx
  cases hx

theorem witness_TheLifeCycleOnlyAdvances : LifeAdvances State.reset ∧ step State.reset = .next (State.reset.setDev State.reset.dev.tick) := by
  refine ⟨?_, rfl⟩
  simp [LifeAdvances, State.reset]

end Sys2Proof.Tests
end

section
/-! PROOFS. Route table versions (R108, R109): what PREPARE_VERSION, FLIP_TO_VERSION and VERSION_RETIREMENT leave. -/

namespace Sys2Proof.RouteVersions

open Sys2Proof Sys2Proof.Machine

/-! ## A command while power is on -/

/-- With power on a command leaves the state that it makes (R17). -/
theorem whenPowered_of_on {s : State} (on : On s) (t : State) : s.whenPowered t = t := if_pos on

/-- A command that leaves another device changes the parts in which the two devices differ. -/
theorem runs_setDev {c : Instr} {s : State} {e : Dev} {ps : List Part} (run : exec c s = .next (s.setDev e))
    (frame : e.without ps = s.dev.without ps) : Runs c s (s.setDev e) ps := ⟨run, rfl, rfl, frame⟩

theorem exec_prepareVersion {s : State} (on : On s) (v : Nat) :
    exec (.prepareVersion v) s = .next (s.setDev (s.dev.prepare v)) :=
  congrArg Host.Outcome.next (whenPowered_of_on on _)

theorem exec_flipToVersion {s : State} (on : On s) (v : Nat) :
    exec (.flipToVersion v) s = .next (s.setDev (s.dev.flip v)) :=
  congrArg Host.Outcome.next (whenPowered_of_on on _)

theorem exec_versionRetirement {s : State} (on : On s) :
    exec .versionRetirement s = .next (s.setAll (retireDue s.nv s.dev)) :=
  congrArg Host.Outcome.next (whenPowered_of_on on _)

/-! ## The states of the two versions -/

theorem state_set (w : Versions) {i j : Nat} (hi : i ≤ 1) (hj : j ≤ 1) (x : VState) :
    (w.set i x).state j = if j = i then x else w.state j := by
  unfold Versions.set Versions.state
  grind

@[simp] theorem set_retire (w : Versions) (i : Nat) (x : VState) : (w.set i x).retire = w.retire := by
  unfold Versions.set
  split <;> rfl

@[simp] theorem state_withRetire (w : Versions) (n i : Nat) : ({ w with retire := n } : Versions).state i = w.state i := rfl

/-- An event leaves the versions alone (R352). -/
@[simp] theorem raise_versions (d : Dev) (code src a b c : Nat) : (d.raise code src a b c).versions = d.versions := by
  have frame := Dev.raise_without (ps := [.log, .tele]) (by decide) (by decide) d code src a b c
  simpa [Dev.without] using congrArg Dev.versions frame

/-- What an event writes into the log depends on neither the versions nor the work that is due (R352). -/
theorem raise_log_withVersions (d : Dev) (w : Versions) (q : List Due) (code src a b c : Nat) :
    (({ d with versions := w, due := q } : Dev).raise code src a b c).log = (d.raise code src a b c).log := by
  simp only [Dev.raise, Dev.raiseBy, apply_ite Dev.log]
  rfl

/-! ## PREPARE_VERSION -/

theorem prepare_of_idle {d : Dev} {v : Nat} (h : d.versions.state v = .idle) :
    d.prepare v = { d with versions := d.versions.set v .prepared } := if_pos h

theorem prepare_of_not_idle {d : Dev} {v : Nat} (h : d.versions.state v ≠ .idle) : d.prepare v = d := if_neg h

theorem prepare_frame (d : Dev) (v : Nat) : (d.prepare v).without [.versions] = d.without [.versions] := by
  by_cases h : d.versions.state v = .idle
  · rw [prepare_of_idle h]
    exact without_set_versions (by decide) d _
  · rw [prepare_of_not_idle h]

theorem prepare_retire (d : Dev) (v : Nat) : (d.prepare v).versions.retire = d.versions.retire := by
  by_cases h : d.versions.state v = .idle
  · simp [prepare_of_idle h]
  · rw [prepare_of_not_idle h]

theorem prepare_state (d : Dev) {v i : Nat} (hv : v ≤ 1) (hi : i ≤ 1) :
    (d.prepare v).versions.state i =
      if i = v ∧ d.versions.state v = .idle then .prepared else d.versions.state i := by
  by_cases h : d.versions.state v = .idle
  · simp [prepare_of_idle h, state_set _ hv hi, h]
  · simp [prepare_of_not_idle h, h]

/-! ## FLIP_TO_VERSION -/

/-- The versions once one of them has become ACTIVE and the other DRAINING, to retire at a step (R109). -/
def flipped (w : Versions) (v retire : Nat) : Versions :=
  { (w.set v .active).set (1 - v) .draining with retire := retire }

theorem flipped_state_self (w : Versions) {v : Nat} (hv : v ≤ 1) (n : Nat) : (flipped w v n).state v = .active := by
  have apart : v ≠ 1 - v := by omega
  rw [flipped, state_withRetire, state_set _ (by omega) hv, if_neg apart, state_set _ hv hv, if_pos rfl]

theorem flipped_state_other (w : Versions) {v : Nat} (n : Nat) : (flipped w v n).state (1 - v) = .draining := by
  rw [flipped, state_withRetire, state_set _ (by omega) (by omega), if_pos rfl]

theorem flip_of_prepared {d : Dev} {v : Nat} (hv : v ≤ 1) (h : d.versions.state v = .prepared) :
    d.flip v = ({ d with versions := flipped d.versions v (d.step + d.cfg 0x5000 9) } : Dev).raise 0x5016 0 v := by
  have other : (if v = 0 then 1 else 0) = 1 - v := by split <;> omega
  simp only [Dev.flip, if_pos h, other]
  rfl

theorem flip_of_not_prepared {d : Dev} {v : Nat} (h : d.versions.state v ≠ .prepared) : d.flip v = d := if_neg h

/-! ## VERSION_RETIREMENT -/

/-- The versions once one of them has retired (R109). -/
def retired (w : Versions) (v : Nat) : Versions := { w.set v .idle with retire := 0 }

theorem retired_state (w : Versions) {v i : Nat} (hv : v ≤ 1) (hi : i ≤ 1) :
    (retired w v).state i = if i = v then .idle else w.state i := by
  rw [retired, state_withRetire, state_set _ hv hi]

/-- Where one version alone is DRAINING, that one retires, with event 0x5017 (R109). -/
theorem retire_of_draining {d : Dev} {v : Nat} (hv : v ≤ 1) (h : d.versions.state v = .draining)
    (alone : d.versions.state (1 - v) ≠ .draining) :
    d.retire = ({ d with versions := retired d.versions v } : Dev).raise 0x5017 0 v := by
  obtain rfl | rfl : v = 0 ∨ v = 1 := by omega
  · exact if_pos h
  · exact (if_neg alone).trans (if_pos h)

/-- Retirement that stands first among the due work runs at once, then the work that needs no command (R300). -/
theorem retireDue_of_first {n : Nv} {d : Dev} {rest : List Due} (h : d.due = .retire :: rest) :
    retireDue n d =
      (let r := settleDue n ({ d with due := rest } : Dev).retire
       catchUp r.1 r.2) := by
  simp [retireDue, runUpTo, runTo, h, runList, runDue]

/-! ## The obligation -/

theorem prepareVersion_moves {s : State} {v : Nat} (on : On s) (hv : v ≤ 1) :
    ∃ t, Runs (.prepareVersion v) s t [.versions] ∧ t.dev.versions.state (1 - v) = s.dev.versions.state (1 - v) ∧
      t.dev.versions.retire = s.dev.versions.retire ∧
      t.dev.versions.state v = if s.dev.versions.state v = .idle then .prepared else s.dev.versions.state v := by
  have apart : 1 - v ≠ v := by omega
  refine ⟨s.setDev (s.dev.prepare v), runs_setDev (exec_prepareVersion on v) (prepare_frame _ _), ?_,
    prepare_retire _ _, ?_⟩
  · simp [prepare_state s.dev hv (show 1 - v ≤ 1 by omega), apart]
  · simp [prepare_state s.dev hv hv]

theorem flipToVersion_of_not_prepared {s : State} {v : Nat} (on : On s) (h : s.dev.versions.state v ≠ .prepared) :
    exec (.flipToVersion v) s = .next s := by
  rw [exec_flipToVersion on, flip_of_not_prepared h, State.setDev_same]

theorem flipToVersion_moves {s : State} {v : Nat} (on : On s) (hv : v ≤ 1) (h : s.dev.versions.state v = .prepared) :
    ∃ t, Runs (.flipToVersion v) s t [.versions, .log, .tele] ∧ t.dev.versions.state v = .active ∧
      t.dev.versions.state (1 - v) = .draining ∧ t.dev.versions.retire = s.dev.step + s.dev.cfg 0x5000 9 ∧
      t.dev.log = (s.dev.raise 0x5016 0 v).log := by
  refine ⟨s.setDev (s.dev.flip v), runs_setDev (exec_flipToVersion on v) ?_, ?_⟩
  · rw [flip_of_prepared hv h, Dev.raise_without (by decide) (by decide), without_set_versions (by decide)]
  · rw [State.setDev_dev, flip_of_prepared hv h, raise_versions]
    exact ⟨flipped_state_self _ hv _, flipped_state_other _ _, rfl, raise_log_withVersions s.dev _ s.dev.due _ _ _ _ _⟩

theorem versionRetirement_moves {s : State} {v : Nat} {rest : List Due} (on : On s) (hv : v ≤ 1)
    (first : s.dev.due = .retire :: rest) (h : s.dev.versions.state v = .draining)
    (alone : s.dev.versions.state (1 - v) ≠ .draining) :
    ∃ e : Dev, (let r := settleDue s.nv e
        exec .versionRetirement s = .next (s.setAll (catchUp r.1 r.2))) ∧
      e.without [.versions, .log, .tele] = ({ s.dev with due := rest } : Dev).without [.versions, .log, .tele] ∧
      e.versions.state v = .idle ∧ e.versions.state (1 - v) = s.dev.versions.state (1 - v) ∧ e.versions.retire = 0 ∧
      e.log = (s.dev.raise 0x5017 0 v).log := by
  have apart : 1 - v ≠ v := by omega
  have run : ({ s.dev with due := rest } : Dev).retire = _ := retire_of_draining hv h alone
  refine ⟨({ s.dev with due := rest } : Dev).retire, ?_, ?_⟩
  · rw [exec_versionRetirement on, retireDue_of_first first]
  · rw [run, raise_versions]
    refine ⟨?_, ?_, ?_, rfl, raise_log_withVersions s.dev _ rest _ _ _ _ _⟩
    · rw [Dev.raise_without (by decide) (by decide), without_set_versions (by decide)]
    · simp [retired_state s.dev.versions hv hv]
    · simp [retired_state s.dev.versions hv (show 1 - v ≤ 1 by omega), apart]

/-- Settles O39, command by command: each moves the versions by one update of their two states and the retirement step, and
the events it raises leave them alone. -/
theorem routeVersionsMove : Obligations.RouteVersionsMove := by
  intro s v on hv
  exact ⟨prepareVersion_moves on hv, flipToVersion_of_not_prepared on, flipToVersion_moves on hv,
    fun _ first h alone => versionRetirement_moves on hv first h alone⟩

end Sys2Proof.RouteVersions
end

section
/-! PROOFS. The commands of collective contexts (R171 to R174): a state in which an ARM that loses its template advances the
counter of event 0x9006 twice. -/

namespace Sys2Proof.ContextCommands

open Sys2Proof Sys2Proof.Machine

/-- A number past the 1,024 lanes of R8 at which the Tally's key for frames refused by a lane that carries no data (0x4E03) is
the key of event 0x9006 at stack 0: the Tally keeps the counter of a code and a source at code × 2048 + source. -/
def farLane : Nat := (0x9006 - 0x4E03) * 2048

theorem farLane_shares_counter : 0x4E03 * 2048 + farLane = 0x9006 * 2048 + templateStack 0 := by decide

/-- A PARKED context in template 0. -/
def parkedContext : Context := { record := 0, state := .parked, crates := [] }

/-- The device with that context at ID 1, the stack of its template FAILED, and a contribution held for it that came on the lane
above. -/
def templateOnFailedStack : State :=
  { dev := {
      contexts := ⟨[(1, some parkedContext)]⟩
      stackTab := ⟨[(templateStack parkedContext.template, { status := .failed })]⟩
      holding := [⟨crateOf farLane, farLane, 1, {}, 0⟩] } }

/-- ARM loses the template, and the CNACK of the contribution that it refuses is itself refused at its lane: two advances. -/
theorem arm_templateOnFailedStack_tally :
    templateOnFailedStack.dev.tallyOf 0x9006 (templateStack parkedContext.template) = 0 ∧
    (templateOnFailedStack.dev.arm 1 0).tallyOf 0x9006 (templateStack parkedContext.template) = 2 := by decide +kernel

theorem arm_templateOnFailedStack_not_counted_once {t : State}
    (run : exec (.arm 1 0) templateOnFailedStack = .next t) :
    ¬ Counted templateOnFailedStack t 0x9006 (templateStack parkedContext.template) 1 := by
  obtain rfl : templateOnFailedStack.setDev (templateOnFailedStack.dev.arm 1 0) = t := by injection run
  obtain ⟨before, after⟩ := arm_templateOnFailedStack_tally
  rw [Counted, State.setDev_dev, before, after]
  decide

/-- The state meets the premises of the clause of ARM from PARKED whose template lies on a FAILED stack. -/
theorem templateOnFailedStack_loses_template :
    On templateOnFailedStack ∧ templateOnFailedStack.dev.ctxAt 1 = some parkedContext ∧ ¬ parkedContext.drained = true ∧
    parkedContext.state = .parked ∧ templateOnFailedStack.dev.resourceCode parkedContext.record = 0 ∧
    (templateOnFailedStack.dev.stack (templateStack parkedContext.template)).status = .failed := by
  unfold On
  decide +kernel

/-- Refutes O42: its clause for an ARM that loses a template has 0x9006 advance by one whatever is held for the context. The
statement takes any lane number in a held contribution, and that of `templateOnFailedStack` lies past the lanes of R8, where
the counter of the refused CNACK is the one of 0x9006 (O43 excludes such a lane by a premise; O42 has none). -/
theorem not_contextCommandsMoveTheState : ¬ Obligations.ContextCommandsMoveTheState := by
  intro holds
  obtain ⟨on, found, busy, lost⟩ := templateOnFailedStack_loses_template
  obtain ⟨-, -, -, -, commands⟩ := holds templateOnFailedStack on
  have ofContext := commands 1 (by decide)
  rw [found] at ofContext
  obtain ⟨arm, -, -⟩ := ofContext busy
  have armed := arm 0
  rw [if_pos lost] at armed
  obtain ⟨t, ⟨run, -⟩, -, counted, -⟩ := armed
  exact arm_templateOnFailedStack_not_counted_once run counted

end Sys2Proof.ContextCommands
end

section
/-! PROOFS. What ends of itself in a collective (R182, R186, R188, R216): an ARMED context without a crate set, at which a
member-absent notice is discarded. -/

namespace Sys2Proof.ContextTimeouts

open Sys2Proof Sys2Proof.Machine

/-- An ARMED context whose crate set is empty. An empty set is the model's mark of a context that is its ID alone, and
`Context.holds`, by which `Dev.memberAbsent` decides, is false of it in every state. -/
def seatlessContext : Context := { record := 0, state := .armed, crates := [] }

/-- A notice to Crate 0 that a member of context 1 has no copy: generation 0, chunk 0, port 8. -/
def absentNotice : Msg := .memberAbsent 0 1 0 0 8

/-- The device with that context at ID 1 and the notice alone in flight. -/
def noticeInFlight : State := { dev := { contexts := ⟨[(1, some seatlessContext)]⟩, net := [absentNotice] } }

/-- The state meets the premises of the clause of MEMBER_ABSENT_NOTICE. -/
theorem noticeInFlight_meets_premises :
    On noticeInFlight ∧ noticeInFlight.dev.FirstTo 0 Msg.isAbsent [] absentNotice [] ∧
    noticeInFlight.dev.ctxAt 1 = some seatlessContext := by
  have reaches : noticeInFlight.dev.pathTo 0 absentNotice ≠ none := by decide +kernel
  exact ⟨rfl, ⟨rfl, rfl, reaches, by simp, by simp⟩, rfl⟩

/-- The notice arrives and the context stays as it is. -/
theorem memberAbsent_noticeInFlight_ctxAt :
    (noticeInFlight.dev.memberAbsent 0).ctxAt 1 = some seatlessContext := by decide +kernel

theorem exec_noticeInFlight :
    exec (.memberAbsentNotice 0) noticeInFlight =
      .next (noticeInFlight.setDev (noticeInFlight.dev.memberAbsent 0)) := rfl

/-- Refutes O43: its last clause has the notice counted in every context that is not PARKED. The model counts it where
`Context.holds` is true, which asks for a crate set besides; the statement takes any context, that of `noticeInFlight` among
them. (No install makes an empty crate set, so R188 itself is not at stake: the clause lacks the premise `x.crates ≠ []`.) -/
theorem not_collectivesTimeOut : ¬ Obligations.CollectivesTimeOut := by
  intro holds
  obtain ⟨on, first, found⟩ := noticeInFlight_meets_premises
  obtain ⟨-, -, -, notices⟩ := holds noticeInFlight on
  obtain ⟨t, ⟨run, -⟩, -, counted⟩ := notices 0 1 0 0 8 [] [] first
  rw [found] at counted
  obtain ⟨after, -⟩ := (if_neg (show ¬ seatlessContext.state = .parked by decide)).mp counted
  obtain rfl : noticeInFlight.setDev (noticeInFlight.dev.memberAbsent 0) = t := by
    rw [exec_noticeInFlight] at run
    injection run
  rw [State.setDev_dev, memberAbsent_noticeInFlight_ctxAt] at after
  exact absurd after (by decide)

end Sys2Proof.ContextTimeouts
end

section
/-! PROOFS. Plan overrides and remaps (R221 to R225): a context without a crate set, at which an override is refused. -/

namespace Sys2Proof.PlanOverrides

open Sys2Proof Sys2Proof.Machine Sys2Proof.RouteVersions Sys2Proof.ContextTimeouts

/-! ## An override of a context without a crate set -/

theorem holds_of_no_crates {x : Context} (seatless : x.crates = []) : x.holds = false := by
  simp [Context.holds, seatless]

/-- By `Dev.overrideRefused` a context without a crate set is as one that is PARKED (Table 09-8). -/
theorem planOverride_of_no_crates {d : Dev} {ctx : Nat} {x : Context} (found : d.ctxAt ctx = some x)
    (seatless : x.crates = []) (v : Option Bool) : d.planOverride ctx v = d := by
  have refused : d.overrideRefused ctx v = true := by
    simp [Dev.overrideRefused, found, holds_of_no_crates seatless]
  exact if_pos refused

theorem exec_planOverrideForceA {s : State} (on : On s) (ctx : Nat) :
    exec (.planOverrideForceA ctx) s = .next (s.setDev (s.dev.planOverride ctx (some false))) :=
  congrArg Host.Outcome.next (whenPowered_of_on on _)

theorem planOverrideForceA_of_no_crates {s : State} {ctx : Nat} {x : Context} (on : On s)
    (found : s.dev.ctxAt ctx = some x) (seatless : x.crates = []) :
    exec (.planOverrideForceA ctx) s = .next s := by
  rw [exec_planOverrideForceA on, planOverride_of_no_crates found seatless, State.setDev_same]

/-! ## The obligation -/

/-- The device with the ARMED context of `seatlessContext` at ID 1 and nothing else. -/
def seatlessAlone : State := { dev := { contexts := ⟨[(1, some seatlessContext)]⟩ } }

/-- The state meets the premises of the clause of an override that forces plan A: the context is neither FREE nor PARKED. -/
theorem seatlessAlone_meets_premises :
    On seatlessAlone ∧ seatlessAlone.dev.ctxAt 1 = some seatlessContext ∧ seatlessContext.state ≠ .parked :=
  ⟨rfl, rfl, by decide⟩

/-- Plan A is in force in the context already, so forcing it changes no plan; the override itself is new. -/
theorem seatlessContext_forced_a :
    ({ seatlessContext with override := some false, switchDue := false } : Context).planB = seatlessContext.planB ∧
    ({ seatlessContext with override := some false, switchDue := false } : Context) ≠ seatlessContext := by decide

/-- Refutes O45: its clause for overrides has PLAN_OVERRIDE_FORCE_A in force at every context that is neither FREE nor PARKED.
The model takes an override where `Context.holds` is true, which asks for a crate set besides, and the statement takes any
context, that of `seatlessAlone` among them. (No install makes an empty crate set, so R223 itself is not at stake: the clause
lacks the premise `x.crates ≠ []`.) -/
theorem not_plansAndRemapsMove : ¬ Obligations.PlansAndRemapsMove := by
  intro holds
  obtain ⟨on, found, notParked⟩ := seatlessAlone_meets_premises
  obtain ⟨samePlan, changed⟩ := seatlessContext_forced_a
  obtain ⟨-, overrides, -⟩ := holds seatlessAlone on
  have forced := overrides 1 (.planOverrideForceA 1) (some false) (.inl ⟨rfl, rfl⟩)
  rw [found] at forced
  obtain ⟨t, ⟨run, -⟩, after⟩ := (if_neg (by simp [notParked])).mp forced
  obtain ⟨inForce, -⟩ := (if_pos samePlan).mp after
  obtain rfl : seatlessAlone = t := by
    rw [planOverrideForceA_of_no_crates on found rfl] at run
    injection run
  rw [found] at inForce
  exact changed (Option.some.inj inForce).symm

end Sys2Proof.PlanOverrides
end

section
/-! PROOFS. The errors of the Cellar (R240 to R244, Table 10-2): a state in which an uncorrectable error of a template advances
the counter of event 0x9006 twice. -/

namespace Sys2Proof.CellarErrors

open Sys2Proof Sys2Proof.Machine Sys2Proof.RouteVersions Sys2Proof.ContextCommands

/-- The first byte of template 0: on stack 0 the templates stand behind the Attic memory of 8 GiB and the stack's share of the
256 MiB of flow contexts (R231, R232). -/
def templateByte : Nat := (8388608 + stackShare 256 0) * 1024

/-- The device of `templateOnFailedStack` while stack 0 is still READY: its context is PARKED in template 0, and the contribution
held for it came on `farLane`. -/
def templateOnReadyStack : State :=
  templateOnFailedStack.setDev { templateOnFailedStack.dev with stackTab := ⟨[(0, { status := .ready })]⟩ }

/-- With power on the command does what `Dev.cellarUncorrectable` does (R17, R240). -/
theorem exec_cellarUncorrectableError {s : State} (on : On s) (k addr : Nat) (hit : CellarHit) :
    exec (.cellarUncorrectableError k addr hit) s = .next (s.setDev (s.dev.cellarUncorrectable k addr hit)) :=
  congrArg Host.Outcome.next (whenPowered_of_on on _)

/-- The state meets the premises of the clause of an uncorrectable error, and the error strikes the templates. -/
theorem templateOnReadyStack_struck :
    On templateOnReadyStack ∧ (templateOnReadyStack.dev.stack 0).status = .ready ∧ templateByte < 2 ^ 35 ∧
    partitionAt (templateOnReadyStack.dev.partitions 0) 0 (templateByte / 64 * 64) = (2, 0) := by
  unfold On
  decide +kernel

/-- The context is the only one of the device. -/
theorem templateOnReadyStack_ctxs : templateOnReadyStack.dev.ctxs = [(1, parkedContext)] := rfl

/-- The template is lost, and the CNACK of the contribution that is refused with it is itself refused at its lane: two
advances. -/
theorem cellarUncorrectable_templateOnReadyStack_tally :
    templateOnReadyStack.dev.tallyOf 0x9006 0 = 0 ∧
    (templateOnReadyStack.dev.cellarUncorrectable 0 templateByte .free).tallyOf 0x9006 0 = 2 := by decide +kernel

theorem templateOnReadyStack_not_counted_once {t : State}
    (run : exec (.cellarUncorrectableError 0 templateByte .free) templateOnReadyStack = .next t) :
    ¬ Counted templateOnReadyStack t 0x9006 0 1 := by
  obtain ⟨on, -⟩ := templateOnReadyStack_struck
  rw [exec_cellarUncorrectableError on] at run
  obtain rfl := Host.Outcome.next.inj run
  obtain ⟨before, after⟩ := cellarUncorrectable_templateOnReadyStack_tally
  rw [Counted, State.setDev_dev, before, after]
  decide

/-- Refutes O49: its clause for an error in the templates has 0x9006 advance by one whatever is held for the context that loses
its template. The statement takes any lane number in a held contribution, and `farLane`, past the lanes of R8, is one where the
counter of the refused CNACK is the one of 0x9006. (R244 itself is not at stake: 0x9006 is raised once; the clause lacks the
premise that the lanes of the contributions held exist.) -/
theorem not_cellarErrorsHaveTheirOutcome : ¬ Obligations.CellarErrorsHaveTheirOutcome := by
  intro holds
  obtain ⟨on, ready, inside, place⟩ := templateOnReadyStack_struck
  obtain ⟨-, errors, -⟩ := holds templateOnReadyStack 0 on (by decide)
  obtain ⟨-, struck⟩ := errors templateByte .free
  obtain ⟨t, ⟨run, -⟩, -, -, -, -, -, template, -⟩ := struck ready inside
  rw [place, templateOnReadyStack_ctxs] at template
  obtain ⟨-, -, counted⟩ := template rfl 1 parkedContext (by simp) rfl rfl (by simp)
  exact templateOnReadyStack_not_counted_once run counted

end Sys2Proof.CellarErrors
end
